-- ==== Sys2Proof/Word.lean ====
section
/-! DEFINITION. The plain words of the CYF622: bytes, station IDs, epoch numbers, member masks and event sets. -/

namespace Sys2Proof

/-- One byte of a frame, a command or a response; bit 7 is the most significant (chapter 10). -/
abbrev Byte := BitVec 8

/-- A station ID, 0 to 31 (00, identities and sets). -/
abbrev StationId := Fin 32

/-- An epoch number, 0 to 65,535; epoch arithmetic is modulo 65,536 (00, epoch). -/
abbrev EpochNumber := BitVec 16

/-- A member mask; bit n is set when ID n is in the mask (chapter 10, 10.1). -/
abbrev MemberMask := BitVec 32

/-- A set of the 23 event kinds, one bit each in the order of 10.4. -/
abbrev EventSet := BitVec 23

end Sys2Proof
end

