-- ==== Sys2Proof/Syntax.lean ====
section
/-! DEFINITION. The commands of the CYF622: one constructor of `Instr` for each row of spec/opcode_table.json, and the
payloads of peer-line frames that the received-frame commands carry. -/

namespace Sys2Proof

/-- The carrier mode (00, carrier). -/
inductive CarrierMode where
  | edge
  | centre
deriving DecidableEq, Repr

/-- The epoch lengths E = 8, 16, 32 and 64, under the E codes 0 to 3 (10.1). -/
inductive EpochLength where
  | e8
  | e16
  | e32
  | e64
deriving DecidableEq, Repr

/-- The lock states (R5). -/
inductive LockState where
  | free
  | acquire
  | locked
  | holdover
deriving DecidableEq, Repr

/-- The roles (R20). -/
inductive Role where
  | none
  | follower
  | candidate
  | reference
deriving DecidableEq, Repr

/-- The three phase channels (chapter 5). -/
inductive Channel where
  | u
  | v
  | w
deriving DecidableEq, Repr

/-- The payload of a BEACON frame (10.2, R49). -/
structure Beacon where
  epoch : EpochNumber
  carrier : Byte
  position : BitVec 16
  period : BitVec 16
  mode : CarrierMode
  length : EpochLength
  handover : Bool
  mask : MemberMask
deriving DecidableEq, Repr

/-- The payload of a JOIN frame: the carrier geometry of its sender (10.2, R23). -/
structure JoinRequest where
  period : BitVec 16
  mode : CarrierMode
  length : EpochLength
deriving DecidableEq, Repr

/-- The report flags of a STATUS frame (10.2, R29). -/
structure Report where
  lock : LockState
  active : Bool
  tripped : Bool
  role : Role
deriving DecidableEq, Repr

/-- The payload of a STATUS frame (10.2, R29). -/
structure StatusReport where
  epoch : EpochNumber
  report : Report
  phaseError : Byte
deriving DecidableEq, Repr

/-- The payload of a MAIL frame (10.2). `destination` is the whole byte 0 (R147). -/
structure MailFrame where
  destination : Byte
  ticket : Byte
  data : List Byte
deriving DecidableEq, Repr

/-- Why a receive framer discards a frame (R114): a format error stops the frame at once; a bad CRC, or an unused
kind or wrong length under a good CRC, runs on to the end of the refusal bit. -/
inductive FrameFault where
  | format
  | badCrc
  | kindOrLength
deriving DecidableEq, Repr

/-- The two kinds of received frame whose reply bits MC reads (R38). -/
inductive ReplyKind where
  | join
  | leave
deriving DecidableEq, Repr

/-- The commands the block takes: one constructor for each row of spec/opcode_table.json. The table gives the rows no
operand fields; the operands here are what the governing rule reads (log 27). -/
inductive Instr where
  /-- HARDWARE_RESET: the straps SID4..SID0 and the level of FLTN (true high) at the release of RESETN (R45, R107). -/
  | hardwareReset (sid : StationId) (fltn : Bool)
  /-- LOAD_CONFIG with its payload bytes (R139). The local-port commands below carry their payload the same way. -/
  | loadConfig (payload : List Byte)
  /-- START (R21). -/
  | start (payload : List Byte)
  /-- LEAVE (R31). -/
  | leave (payload : List Byte)
  /-- RESTART (R141). -/
  | restart (payload : List Byte)
  /-- RUN (R86). -/
  | run (payload : List Byte)
  /-- HALT (R86). -/
  | halt (payload : List Byte)
  /-- SET_DUTY (R73). -/
  | setDuty (payload : List Byte)
  /-- CANCEL_TIMED (R77). -/
  | cancelTimed (payload : List Byte)
  /-- FORCE_TRIP (R104). -/
  | forceTrip (payload : List Byte)
  /-- CLEAR_TRIP (R99). -/
  | clearTrip (payload : List Byte)
  /-- POST_MAIL (R125). -/
  | postMail (payload : List Byte)
  /-- TAKE_MAIL (R133). -/
  | takeMail (payload : List Byte)
  /-- TAKE_RECEIPT (R130). -/
  | takeReceipt (payload : List Byte)
  /-- READ_STATUS (R140). -/
  | readStatus (payload : List Byte)
  /-- READ_ROSTER (R140). -/
  | readRoster (payload : List Byte)
  /-- READ_EPOCH (R140). -/
  | readEpoch (payload : List Byte)
  /-- READ_TRIP (R103). -/
  | readTrip (payload : List Byte)
  /-- READ_CONFIG (R140). -/
  | readConfig (payload : List Byte)
  /-- READ_EVENTS (R143). -/
  | readEvents (payload : List Byte)
  /-- SET_EVENT_MASK (R144). -/
  | setEventMask (payload : List Byte)
  /-- UNKNOWN_COMMAND: a good CRC over a code that 10.3 does not give (R138). -/
  | unknownCommand (code : Byte) (payload : List Byte)
  /-- FRAME_ERROR: code, length and payload bytes as sampled, and a CRC byte that is not theirs (R137). -/
  | frameError (body : List Byte) (crc : Byte)
  /-- COMMAND_LENGTH_OVERFLOW: the code and a length byte above 16 (R137). -/
  | commandLengthOverflow (code length : Byte)
  /-- WINDOW_CLOSED_EARLY: the whole bytes taken before SELN rose (R135). -/
  | windowClosedEarly (bytes : List Byte)
  /-- EPOCH_BOUNDARY (R2). -/
  | epochBoundary
  /-- PEER_LOST_BY_SILENCE of one roster entry (R40). -/
  | peerLostBySilence (id : StationId)
  /-- HANDOVER_TIMEOUT (R59). -/
  | handoverTimeout
  /-- LEAVE_TIMEOUT (R32). -/
  | leaveTimeout
  /-- LEAVE_REFILL (R32). -/
  | leaveRefill
  /-- JOIN_REFILL (R25). -/
  | joinRefill
  /-- ADMISSION_WAIT_EXPIRY (R26). -/
  | admissionWaitExpiry
  /-- JOIN_FAILURE (R25). -/
  | joinFailure
  /-- LISTEN_TIMER_EXPIRY (R46). -/
  | listenTimerExpiry
  /-- STATUS_FILL at the shared carrier start of carrier `carrier` (R29). -/
  | statusFill (carrier : Nat)
  /-- CANDIDATE_FILL_POINT (R52). -/
  | candidateFillPoint
  /-- BEACON_DEADLINE (R50). -/
  | beaconDeadline
  /-- OUTPUT_CARRIER_START (R3). -/
  | outputCarrierStart
  /-- PEAK (R3). -/
  | peak
  /-- PENDING_RECORD_APPLY (R75). -/
  | pendingRecordApply
  /-- TIMED_RECORD_DUE at the boundary of epoch `epoch` (R78). -/
  | timedRecordDue (epoch : EpochNumber)
  /-- DUE_RECORD_APPLY (R79). -/
  | dueRecordApply
  /-- OUTPUT_ACTIVE_ENTRY (R88). -/
  | outputActiveEntry
  /-- MISSED_BEACON (R12). -/
  | missedBeacon
  /-- HOLDOVER_EXPIRY (R12). -/
  | holdoverExpiry
  /-- ELECTION_START (R51). -/
  | electionStart
  /-- BEACON_MARKER (R6, R112). -/
  | beaconMarker
  /-- BEACON_RECEIVED from `src` (R44). -/
  | beaconReceived (src : StationId) (beacon : Beacon)
  /-- JOIN_RECEIVED from `src` (R24). -/
  | joinReceived (src : StationId) (request : JoinRequest)
  /-- JOIN_LEAVE_REPLY_COMPLETE: the reply bits of a received JOIN or LEAVE, true for set (R38). -/
  | joinLeaveReplyComplete (src : StationId) (kind : ReplyKind) (ack refuse : Bool)
  /-- STATUS_RECEIVED from `src` (R39). -/
  | statusReceived (src : StationId) (status : StatusReport)
  /-- MAIL_RECEIVED: a MAIL frame addressed to this station (R131). -/
  | mailReceived (src : StationId) (ticket : Byte) (data : List Byte)
  /-- TRIP_FRAME_RECEIVED from `src` (R102). -/
  | tripFrameReceived (src : StationId) (cause : Byte) (epoch : EpochNumber)
  /-- FRAME_DISCARDED (R114). -/
  | frameDiscarded (why : FrameFault)
  /-- FRAMER_IDLE (R108). -/
  | framerIdle
  /-- START_OPPORTUNITY (R117). -/
  | startOpportunity
  /-- ARBITRATION_LOST (R111). -/
  | arbitrationLost
  /-- ARBITRATION_PASSED (R118). -/
  | arbitrationPassed
  /-- FRAME_SUCCESS with the reply bits as sampled, true for set (R118). -/
  | frameSuccess (ack refuse : Bool)
  /-- TRANSMIT_FAILURE (R118). -/
  | transmitFailure
  /-- ISOLATION (R34). -/
  | isolation
  /-- MAIL_RETRY (R127). -/
  | mailRetry
  /-- MAIL_COMPLETION (R128). -/
  | mailCompletion
  /-- LINE_RAISED (R121). -/
  | lineRaised
  /-- LINE_INACTIVE (R121). -/
  | lineInactive
  /-- FLTN_FALL (R96). -/
  | fltnFall
  /-- FLTN_RISE (R89). -/
  | fltnRise
  /-- TRIPN_LOW (R98). -/
  | tripnLow
  /-- TRIPN_HIGH (R98). -/
  | tripnHigh
  /-- REARM (R100). -/
  | rearm
  /-- FRAME_START_SEEN (R108). -/
  | frameStartSeen
  /-- REFUSAL_BIT_SAMPLED (R108). -/
  | refusalBitSampled
  /-- MAIL_FOR_OTHER_DESTINATION from `src` (R115). -/
  | mailForOtherDestination (src : StationId)
  /-- LEAVE_RECEIVED from `src` (R115). -/
  | leaveReceived (src : StationId)
  /-- COMPARE_MATCH of one channel (R82). -/
  | compareMatch (channel : Channel)
  /-- DEAD_TIME_EXPIRY of one channel (R83). -/
  | deadTimeExpiry (channel : Channel)
deriving DecidableEq, Repr

end Sys2Proof
end

