-- ==== Sys2Proof/Decode.lean ====
section
/-! DEFINITION. The command that a word of the opcode table spells. spec/opcode_table.json gives none of its 76 rows any
bits (98_reader.md: n_rows_with_fixed 0), so no word spells a command. Commands reach the part as frames of the local port and
of the peer line, which Machine/Frames.lean reads. -/

namespace Sys2Proof

/-- The command that the table's bits spell: none, for no row has bits. -/
def decodeTableWord (_nbits _w : Nat) : Option Instr := none

end Sys2Proof
end

