-- ==== Sys2Proof/Config.lean ====
section
/-! DEFINITION. What the manual leaves open: the orders of two things that fall on one count. The chapters give the
outcome of either order and choose neither, so each order is a free value, applied to the number of the count (log 3). -/

namespace Sys2Proof

/-- The order in which one count takes its four groups of commands (pin edges, time-base instants, line events, local
port), when more than one group has any. Read modulo 24. Free (log 3). -/
opaque Config.countOrder : Nat → Nat

/-- Whether an output carrier start is taken before a shared carrier start of the same count, with all that comes with it: an
epoch boundary, or founding's placement (R17, R66, R79, R100). Free (log 3). -/
opaque Config.startFirst : Nat → Bool

/-- Whether an edge of FLTN is taken before a level of TRIPN of the same count (R96). Free (log 3). -/
opaque Config.fltnFirst : Nat → Bool

/-- Whether an own start bit is taken before another station's edge of the same count (R108). Free (log 3). -/
opaque Config.ownStartFirst : Nat → Bool

end Sys2Proof
end

