-- ==== Sys2Proof/Machine/State.lean ====
section
/-! DEFINITION. The state of one station, block by block, as plain data, with its values after reset. -/

namespace Sys2Proof.Machine

/-! ### Configuration record -/

/-- The configuration record of R139, in decoded fields; fixed from its acceptance until the next hardware reset. -/
structure ConfigRecord where
  mode : CarrierMode
  period : Nat
  length : EpochLength
  deadTime : Nat
  slewMax : Nat
  window : Nat
  holdoverEpochs : Nat
  lossEpochs : Nat
  listenEpochs : Nat
  lineDelay : Nat
  polHigh : Bool
  polLow : Bool
  applyAtPeak : Bool
deriving DecidableEq, Repr

/-! ### Pins -/

/-- What the outside world puts on LRX: the level the other stations leave on the wire (true recessive), which the
station's own LTX pulls down, or a level forced by a faulty transceiver (R111, log 5). -/
inductive LineLevel where
  | shared (recessive : Bool)
  | forced (recessive : Bool)
deriving DecidableEq, Repr

/-- The input pins, true for a high level, and the ID that SID4..SID0 are strapped to (00, pin nomenclature). `tripn` is the
level the wire would have without the station's own drive (R95). -/
structure InputPins where
  resetn : Bool
  straps : StationId
  fltn : Bool
  tripn : Bool
  lrx : LineLevel
  seln : Bool
  sck : Bool
  sdi : Bool
deriving DecidableEq, Repr

/-! ### Time Base -/

/-- The held marker sample (R6): the settled phase and epoch number at the marker; how many epochs the settled phase
stood ahead of the running one; and, for R7, the sync steps decided and the boundaries taken since. -/
structure MarkerSample where
  epoch : EpochNumber
  carrier : Nat
  position : Nat
  ahead : Int
  stepsSince : Int
  boundariesSince : Nat
deriving DecidableEq, Repr

/-- What the count under way knows of its output carrier start (R17, R79): nothing; a start falls on this count and
is not yet taken; it was overtaken by a jump or placement; it was taken, with or without applying a duty record. -/
inductive StartMark where
  | none
  | due
  | overtaken
  | taken (recordApplied : Bool)
deriving DecidableEq, Repr

/-- What the count under way knows of its epoch boundary (R2, R10): nothing; the phase passes (0, 0) on this count, `past`
counts beyond the place it still holds, and the boundary is not yet taken; or a jump overtook it (log 3). -/
inductive BoundaryMark where
  | none
  | due (past : Nat)
  | overtaken
deriving DecidableEq, Repr

/-- The Time Base (chapter 1). TB runs while a configuration record is held (R1). -/
structure TimeBase where
  carrier : Nat
  position : Nat
  epoch : EpochNumber
  lock : LockState
  inWindow : Nat
  missed : Nat
  residual : Int
  syncLeft : Int
  sample : Option MarkerSample
  phaseError : Option Int
  current : Nat
  target : Nat
  outPos : Nat
  netStep : Int
  inCarrier : Bool
  windowOpen : Bool
  windowSeen : Bool
  expired : Bool
  epo : Bool
  boundary : BoundaryMark
  startMark : StartMark
deriving DecidableEq, Repr

/-! ### Membership Controller -/

/-- The station states (R19). -/
inductive StationState where
  | unconfigured
  | configured
  | listening
  | joining
  | member
  | leaving
  | isolated
  | mismatch
  | conflict
deriving DecidableEq, Repr

/-- The states of a roster entry (R36). -/
inductive EntryState where
  | absent
  | joining
  | member
  | leaving
  | lost
deriving DecidableEq, Repr

/-- One roster entry (R36). -/
structure RosterEntry where
  state : EntryState
  silence : Nat
  lastHeard : EpochNumber
  report : Option Report
  phaseError : Option Byte
deriving DecidableEq, Repr

/-- A roster entry as every kind of reset leaves it (R45). -/
def RosterEntry.blank : RosterEntry :=
  { state := .absent, silence := 0, lastHeard := 0, report := .none, phaseError := .none }

/-- The own rank and own target offset, present together (R42). -/
structure Slot where
  rank : Nat
  target : Nat
deriving DecidableEq, Repr

/-- A filled epoch record (R42). K is the size of the mask. The empty record is the absence of one. -/
structure EpochRecord where
  epoch : EpochNumber
  mask : MemberMask
  reference : Option StationId
  slot : Option Slot
  handover : Bool
deriving DecidableEq, Repr

/-- The admission wait (R26). -/
structure AdmissionWait where
  accepted : Bool
  boundaries : Nat
deriving DecidableEq, Repr

/-- The candidate rank and candidate count of a station that stands (R51). -/
structure Standing where
  rank : Nat
  count : Nat
deriving DecidableEq, Repr

/-- An election in progress: shared carrier starts counted since its start point, and the standing (R51). -/
structure Election where
  carriers : Nat
  standing : Option Standing
deriving DecidableEq, Repr

/-- The Membership Controller (chapters 2 and 3). -/
structure Membership where
  station : StationState
  role : Role
  roster : Vector RosterEntry 32
  record : Option EpochRecord
  joinAttempts : Nat
  leaveAttempts : Nat
  joinRefillDue : Bool
  admission : AdmissionWait
  leaveAcked : Bool
  statusFilled : Bool
  election : Option Election
  listenTimer : Option Nat
  beaconDeadline : Bool
deriving DecidableEq, Repr

/-! ### Phase Channel Unit -/

/-- The channel modes (R72). -/
inductive ChannelMode where
  | forceOff
  | pwm
  | forceHigh
  | forceLow
deriving DecidableEq, Repr

/-- An applied setting: a mode and a compare value C (R72). -/
structure ChannelSetting where
  mode : ChannelMode
  compare : Nat
deriving DecidableEq, Repr

/-- The side a channel requests (R83). -/
inductive Side where
  | none
  | high
  | low
deriving DecidableEq, Repr

/-- One channel: its applied setting and its dead-time stage (R72, R83): the side requested and the hold count at this
count; and, for a request that changes more than once on it, the side requested at the count before, the hold count that
this count has if nothing restarts it, and whether the mode has changed at this count. -/
structure ChannelState where
  setting : ChannelSetting
  request : Side
  hold : Nat
  lastRequest : Side
  runHold : Nat
  modeChanged : Bool
deriving DecidableEq, Repr

/-- The three channel settings that a duty record carries (chapter 5, 5.2). -/
structure DutySettings where
  u : ChannelSetting
  v : ChannelSetting
  w : ChannelSetting
deriving DecidableEq, Repr

/-- A record of the timed duty list (R76). -/
structure TimedDuty where
  epoch : EpochNumber
  settings : DutySettings
deriving DecidableEq, Repr

/-- The output states (R87). -/
inductive OutputState where
  | off
  | standby
  | active
deriving DecidableEq, Repr

/-- The Phase Channel Unit (chapter 5). -/
structure ChannelUnit where
  u : ChannelState
  v : ChannelState
  w : ChannelState
  pendingDuty : Option DutySettings
  due : Option DutySettings
  timed : List TimedDuty
  run : Bool
  hasApplied : Bool
  output : OutputState
deriving DecidableEq, Repr

/-! ### Trip Controller -/

/-- The trip states (R93). -/
inductive TripState where
  | armed
  | trippedLocal
  | trippedRemote
  | rearm
deriving DecidableEq, Repr

/-- The local causes (R94). -/
inductive TripCause where
  | pin
  | command
  | line
deriving DecidableEq, Repr

/-- The local cause set, a subset of PIN, COMMAND and LINE (R94). -/
structure CauseSet where
  pin : Bool
  command : Bool
  line : Bool
deriving DecidableEq, Repr

/-- The Trip Controller (chapter 6). The TRIPN drive is the non-emptiness of `causes` (R95). -/
structure TripController where
  trip : TripState
  causes : CauseSet
  origins : List StationId
  tripEpoch : Option EpochNumber
deriving DecidableEq, Repr

/-! ### Line Controller -/

/-- The frame kinds in use, which name the six transmit slots (R109, R116). -/
inductive FrameKind where
  | trip
  | beacon
  | join
  | leave
  | status
  | mail
deriving DecidableEq, Repr

/-- An outgoing frame; its source ID is the station's own (R116). -/
inductive TxFrame where
  | trip (cause : TripCause) (epoch : EpochNumber)
  | beacon (beacon : Beacon)
  | join (request : JoinRequest)
  | leave
  | status (status : StatusReport)
  | mail (mail : MailFrame)
deriving DecidableEq, Repr

/-- The six transmit slots, each empty or holding one frame of its kind (R116). -/
structure TxSlots where
  trip : Option TxFrame
  beacon : Option TxFrame
  join : Option TxFrame
  leave : Option TxFrame
  status : Option TxFrame
  mail : Option TxFrame
deriving DecidableEq, Repr

/-- The framer states (R108). -/
inductive FramerState where
  | waitIdle
  | idle
  | frame
deriving DecidableEq, Repr

/-- The own frame on the line: whether it is returnable, whether RESTART was taken while it was on the line, and
whether its owner has since left the line or restarted its listening, so that the owner discards its outcome
(R118, R33, R21). -/
structure OwnFrame where
  frame : TxFrame
  returnable : Bool
  restarted : Bool
  stale : Bool
deriving DecidableEq, Repr

/-- The Line Controller (chapter 7). -/
structure LineController where
  txOn : Bool
  slots : TxSlots
  framer : FramerState
  attempt : Option FrameKind
  onLine : Option OwnFrame
  failures : Nat
  lineActive : Bool
  beganStill : Bool
  replyAck : Bool
  replyRefuse : Bool
  ltx : Bool
  bitPhase : Nat
  bitIndex : Nat
  rxBits : List Bool
  failed : Bool
  replyDue : Bool
  idleRun : Nat
  recessiveRun : Nat
  dominantRun : Nat
  lrxLast : Bool
deriving DecidableEq, Repr

/-! ### Mail Unit -/

/-- The outcomes of a mail (R124). -/
inductive MailOutcome where
  | delivered
  | refused
  | undelivered
deriving DecidableEq, Repr

/-- A mail of the outbound queue (R124). -/
structure OutMail where
  destination : StationId
  ticket : Byte
  data : List Byte
  attempts : Nat
  destLost : Bool
  outcome : Option MailOutcome
deriving DecidableEq, Repr

/-- A receipt (R128). -/
structure Receipt where
  ticket : Byte
  destination : StationId
  outcome : MailOutcome
  attempts : Nat
deriving DecidableEq, Repr

/-- A mail in an inbound buffer (R131). -/
structure InMail where
  source : StationId
  ticket : Byte
  data : List Byte
deriving DecidableEq, Repr

/-- The Mail Unit (chapter 8). -/
structure MailUnit where
  queue : List OutMail
  inFlight : Bool
  retryDue : Bool
  receipts : List Receipt
  bufA : Option InMail
  bufB : Option InMail
  aLater : Bool
  overflow : Bool
  filter : Vector (Option Byte) 32
  ticket : Byte
  storeDue : Bool
  storedNow : Option StationId
deriving DecidableEq, Repr

/-! ### Local Port -/

/-- The phases of the command framer (R135), with the wait for SELN to be high after a hardware reset. -/
inductive PortPhase where
  | waitHigh
  | waitWindow
  | command
  | turnaround
  | response
  | done
deriving DecidableEq, Repr

/-- The Local Port (chapter 9), but for the configuration record. `sdo` is absent at high impedance. -/
structure LocalPort where
  phase : PortPhase
  shift : List Bool
  bitCount : Nat
  lastSck : Bool
  response : List Byte
  sdo : Option Bool
  events : EventSet
  mask : EventSet
deriving DecidableEq, Repr

/-! ### The machine -/

/-- One station, its pins, and the queue of commands that wait, first in first out. `now` and `stimulus` are the
model's own: the number of the count, and the pin levels of the counts to come (log 3, log 4). -/
structure State where
  pending : List Instr
  now : Nat
  stimulus : List InputPins
  sid : StationId
  pins : InputPins
  config : Option ConfigRecord
  tb : TimeBase
  mc : Membership
  pcu : ChannelUnit
  tc : TripController
  lc : LineController
  mu : MailUnit
  lp : LocalPort
deriving DecidableEq, Repr

/-- The reasons a step can fault. None: the manual describes no condition that stops the part. -/
inductive Fault where
deriving DecidableEq, Repr

/-- The reasons a step can be refused. -/
inductive Refusal where
  /-- Raised by an arm of `exec` whose command has no meaning yet. Safe: the machine stops. -/
  | notModelled (mnemonic : String)
deriving DecidableEq, Repr

/-! ### Values after reset -/

/-- The pins' levels at the reset the model starts from (log 4, log 6). -/
def InputPins.idle : InputPins :=
  { resetn := true, straps := 0, fltn := true, tripn := true, lrx := .shared true, seln := true, sck := false, sdi := false }

/-- TB after hardware reset (R18). -/
def TimeBase.reset : TimeBase :=
  { carrier := 0, position := 0, epoch := 0, lock := .free, inWindow := 0, missed := 0, residual := 0, syncLeft := 0,
    sample := .none, phaseError := .none, current := 0, target := 0, outPos := 0, netStep := 0, inCarrier := false,
    windowOpen := false, windowSeen := false, expired := false, epo := false, boundary := .none, startMark := .none }

/-- MC after hardware reset (R45). -/
def Membership.reset : Membership :=
  { station := .unconfigured, role := .none, roster := Vector.replicate 32 RosterEntry.blank, record := .none,
    joinAttempts := 0, leaveAttempts := 0, joinRefillDue := false, admission := { accepted := false, boundaries := 0 },
    leaveAcked := false, statusFilled := false, election := .none, listenTimer := .none, beaconDeadline := false }

/-- A channel after hardware reset and after RESTART (R91). -/
def ChannelState.reset : ChannelState :=
  { setting := { mode := .forceOff, compare := 0 }, request := .none, hold := 0, lastRequest := .none, runHold := 0,
    modeChanged := false }

/-- PCU after hardware reset and after RESTART (R91). -/
def ChannelUnit.reset : ChannelUnit :=
  { u := .reset, v := .reset, w := .reset, pendingDuty := .none, due := .none, timed := [], run := false,
    hasApplied := false, output := .off }

/-- TC after hardware reset with FLTN high at the release (R107). -/
def TripController.reset : TripController :=
  { trip := .armed, causes := { pin := false, command := false, line := false }, origins := [], tripEpoch := .none }

/-- Six empty slots (R123). -/
def TxSlots.empty : TxSlots :=
  { trip := .none, beacon := .none, join := .none, leave := .none, status := .none, mail := .none }

/-- LC after hardware reset (R123). -/
def LineController.reset : LineController :=
  { txOn := false, slots := .empty, framer := .waitIdle, attempt := .none, onLine := .none, failures := 0,
    lineActive := false, beganStill := false, replyAck := false, replyRefuse := false, ltx := true, bitPhase := 0,
    bitIndex := 0, rxBits := [], failed := false, replyDue := false, idleRun := 0, recessiveRun := 0,
    dominantRun := 0, lrxLast := true }

/-- MU after hardware reset (R134). -/
def MailUnit.reset : MailUnit :=
  { queue := [], inFlight := false, retryDue := false, receipts := [], bufA := .none, bufB := .none, aLater := false,
    overflow := false, filter := Vector.replicate 32 .none, ticket := 0, storeDue := false, storedNow := .none }

/-- LP after hardware reset (R146). -/
def LocalPort.reset : LocalPort :=
  { phase := .waitHigh, shift := [], bitCount := 0, lastSck := false, response := [], sdo := .none, events := 0,
    mask := 0 }

/-- LP when hardware reset is released: with SELN high it takes the next count with SELN low as a window's first, and with
SELN low it waits for SELN high first; an edge of SCK is told from its level then (R135, R146). That SDO stays at high
impedance while the framer waits for SELN high with SELN low is the model's choice: R135 has SDO driven while SELN is low, and
R146 has it at high impedance until SELN falls (log 43). -/
def LocalPort.released (seln sck : Bool) : LocalPort :=
  { LocalPort.reset with phase := if seln then .waitWindow else .waitHigh, lastSck := sck }

/-- The station right after hardware reset, strapped with ID 0 and with FLTN and SELN high and SCK low at the release (log
6). -/
def State.reset : State :=
  { pending := [], now := 0, stimulus := [], sid := 0, pins := .idle, config := .none, tb := .reset, mc := .reset,
    pcu := .reset, tc := .reset, lc := .reset, mu := .reset, lp := .released true false }

end Sys2Proof.Machine
end

