-- ==== Sys2Proof/Machine/Operands.lean ====
section
/-! DEFINITION. Operand forms: bits and bytes of the layouts of chapter 10, encodings shared by several layouts (10.1),
member masks, carrier geometry and the two CRCs. -/

namespace Sys2Proof.Machine

/-! ### Bits and bytes (chapter 10: bit 7 first, most significant byte first) -/

/-- The low `n` bits of `x`, most significant first. -/
def bitsOf (n x : Nat) : List Bool := (List.range n).map fun i => x.testBit (n - 1 - i)

/-- The number that bits spell, most significant first. -/
def natOfBits (bits : List Bool) : Nat := bits.foldl (fun n b => 2 * n + b.toNat) 0

/-- The eight bits of a byte, bit 7 first. -/
def bitsOfByte (b : Byte) : List Bool := bitsOf 8 b.toNat

/-- The byte that eight bits spell. -/
def byteOfBits (bits : List Bool) : Byte := BitVec.ofNat 8 (natOfBits bits)

/-- Whole bytes of a run of bits; bits short of a byte are left out (R135). -/
def bytesOfBits : List Bool → List Byte
  | b7 :: b6 :: b5 :: b4 :: b3 :: b2 :: b1 :: b0 :: rest =>
    byteOfBits [b7, b6, b5, b4, b3, b2, b1, b0] :: bytesOfBits rest
  | _ => []

/-- Two bytes as a word, most significant first. -/
def wordOf (hi lo : Byte) : BitVec 16 := hi ++ lo

/-- A word as two bytes, most significant first. -/
def wordBytes (w : BitVec 16) : List Byte := [w.extractLsb' 8 8, w.extractLsb' 0 8]

/-- A count as two bytes, most significant first. -/
def natWordBytes (n : Nat) : List Byte := wordBytes (BitVec.ofNat 16 n)

/-- A 24-bit value as three bytes, most significant first (10.4, event bits). -/
def tripleBytes (x : BitVec 24) : List Byte := [x.extractLsb' 16 8, x.extractLsb' 8 8, x.extractLsb' 0 8]

/-- A mask as four bytes; byte 0 holds IDs 31 to 24 (10.1). -/
def maskBytes (m : MemberMask) : List Byte :=
  [m.extractLsb' 24 8, m.extractLsb' 16 8, m.extractLsb' 8 8, m.extractLsb' 0 8]

/-- The mask that four bytes spell (10.1). -/
def maskOfBytes (b0 b1 b2 b3 : Byte) : MemberMask := b0 ++ b1 ++ b2 ++ b3

/-- A station ID as a byte. -/
def idByte (id : StationId) : Byte := BitVec.ofNat 8 id.val

/-- The station ID that a number names, if it is 0 to 31. -/
def idOfNat (n : Nat) : Option StationId := if h : n < 32 then some ⟨n, h⟩ else none

/-! ### Encodings of 10.1 -/

/-- The station state code (10.1). -/
def stationCode : StationState → BitVec 4
  | .unconfigured => 0
  | .configured => 1
  | .listening => 2
  | .joining => 3
  | .member => 4
  | .leaving => 5
  | .isolated => 6
  | .mismatch => 7
  | .conflict => 8

/-- The role code (10.1). -/
def roleCode : Role → BitVec 2
  | .none => 0
  | .follower => 1
  | .candidate => 2
  | .reference => 3

/-- The role under a code (10.1). -/
def roleOfCode (c : BitVec 2) : Role :=
  if c = 0 then .none else if c = 1 then .follower else if c = 2 then .candidate else .reference

/-- The lock state code (10.1). -/
def lockCode : LockState → BitVec 2
  | .free => 0
  | .acquire => 1
  | .locked => 2
  | .holdover => 3

/-- The lock state under a code (10.1). -/
def lockOfCode (c : BitVec 2) : LockState :=
  if c = 0 then .free else if c = 1 then .acquire else if c = 2 then .locked else .holdover

/-- The trip state code (10.1). -/
def tripCode : TripState → BitVec 2
  | .armed => 0
  | .trippedLocal => 1
  | .trippedRemote => 2
  | .rearm => 3

/-- The output state code (10.1). -/
def outputCode : OutputState → BitVec 2
  | .off => 0
  | .standby => 1
  | .active => 2

/-- The roster entry state code (10.1). -/
def entryCode : EntryState → BitVec 3
  | .absent => 0
  | .joining => 1
  | .member => 2
  | .leaving => 3
  | .lost => 4

/-- The E code (10.1). -/
def lengthCode : EpochLength → BitVec 2
  | .e8 => 0
  | .e16 => 1
  | .e32 => 2
  | .e64 => 3

/-- The epoch length under an E code (10.1). -/
def lengthOfCode (c : BitVec 2) : EpochLength :=
  if c = 0 then .e8 else if c = 1 then .e16 else if c = 2 then .e32 else .e64

/-- The carrier mode bit of peer frames (10.1). -/
def modeBit : CarrierMode → Bool
  | .edge => false
  | .centre => true

/-- The carrier mode under its bit (10.1). -/
def modeOfBit (b : Bool) : CarrierMode := if b then .centre else .edge

/-- The channel mode under its code; codes above 3 name none (10.1, R148). -/
def channelModeOfCode (c : Byte) : Option ChannelMode :=
  if c = 0 then some .forceOff
  else if c = 1 then some .pwm
  else if c = 2 then some .forceHigh
  else if c = 3 then some .forceLow
  else none

/-- The trip cause code (10.1, R94). -/
def causeCode : TripCause → Byte
  | .pin => 1
  | .command => 2
  | .line => 3

/-- The mail outcome code (10.1). -/
def outcomeCode : MailOutcome → Byte
  | .delivered => 1
  | .refused => 2
  | .undelivered => 3

/-- The kind code of a frame (R109). -/
def kindCode : FrameKind → Nat
  | .trip => 0
  | .beacon => 1
  | .join => 3
  | .leave => 4
  | .status => 5
  | .mail => 6

/-! ### Epochs and carrier geometry (00, conventions) -/

/-- How far epoch `a` lies ahead of epoch `b`, modulo 65,536. -/
def epochsAhead (a b : EpochNumber) : Nat := (a - b).toNat

/-- E, the carriers of an epoch. -/
def carriersPerEpoch : EpochLength → Nat
  | .e8 => 8
  | .e16 => 16
  | .e32 => 32
  | .e64 => 64

/-- L, the carrier length in counts: P in EDGE mode, 2P in CENTRE mode. -/
def carrierLength (cfg : ConfigRecord) : Nat :=
  match cfg.mode with
  | .edge => cfg.period
  | .centre => 2 * cfg.period

/-- E, from the record. -/
def epochCarriers (cfg : ConfigRecord) : Nat := carriersPerEpoch cfg.length

/-- E × L, the counts of an epoch. -/
def epochCounts (cfg : ConfigRecord) : Nat := epochCarriers cfg * carrierLength cfg

/-- Whether a geometry heard on the line is that of the record: P, carrier mode and E (R23, R24, R43). -/
def sameGeometry (cfg : ConfigRecord) (period : BitVec 16) (mode : CarrierMode) (length : EpochLength) : Bool :=
  period.toNat == cfg.period && mode == cfg.mode && length == cfg.length

/-! ### Member masks (00, identities and sets) -/

/-- Whether an ID is in a mask. -/
def inMask (m : MemberMask) (id : StationId) : Bool := m.getLsbD id.val

/-- The IDs of a mask, lowest first. -/
def maskIds (m : MemberMask) : List StationId := (List.finRange 32).filter (inMask m)

/-- K, the size of a mask. -/
def maskSize (m : MemberMask) : Nat := (maskIds m).length

/-- The rank of an ID: the number of IDs in the mask lower than it. -/
def maskRank (m : MemberMask) (id : StationId) : Nat := ((maskIds m).filter (· < id)).length

/-- The lowest ID of a mask. -/
def lowestId (m : MemberMask) : Option StationId := (maskIds m).head?

/-- The lowest ID of a mask other than a given one (R61). -/
def lowestOther (m : MemberMask) (id : StationId) : Option StationId := ((maskIds m).filter (· != id)).head?

/-- The mask of the IDs that satisfy a test. -/
def maskOf (p : StationId → Bool) : MemberMask := BitVec.ofFnLE p

/-- A mask with one ID taken out (R51). -/
def maskWithout (m : MemberMask) (id : StationId) : MemberMask := maskOf fun i => inMask m i && i != id

/-- The mask of one ID (R46). -/
def maskSingle (id : StationId) : MemberMask := maskOf (· == id)

/-- The rank and target offset that a mask gives an ID: floor(rank × L / K) (R62). -/
def slotIn (cfg : ConfigRecord) (m : MemberMask) (id : StationId) : Slot :=
  { rank := maskRank m id, target := maskRank m id * carrierLength cfg / maskSize m }

/-! ### CRCs -/

/-- One bit of the CRC-16 with generator x^16 + x^12 + x^5 + 1 (R110). -/
def crc16Step (reg : BitVec 16) (bit : Bool) : BitVec 16 :=
  if reg.msb ^^ bit then (reg <<< 1) ^^^ 0x1021#16 else reg <<< 1

/-- The CRC-16 register after the covered bits, from all ones (R110). -/
def crc16 (bits : List Bool) : BitVec 16 := bits.foldl crc16Step 0xFFFF#16

/-- One bit of the CRC-8 with generator x^8 + x^2 + x + 1 (R136). -/
def crc8Step (reg : Byte) (bit : Bool) : Byte :=
  if reg.msb ^^ bit then (reg <<< 1) ^^^ 0x07#8 else reg <<< 1

/-- The CRC-8 of bytes, from 0 (R136). -/
def crc8 (bytes : List Byte) : Byte := (bytes.flatMap bitsOfByte).foldl crc8Step 0

end Sys2Proof.Machine
end

