-- ==== Sys2Proof/Machine/Flags.lean ====
section
/-! DEFINITION. Flags: event kinds and their bits, attention, the output gate, the force-off path, the gate pins, the
sensed lines, and the flag bytes of frames. -/

namespace Sys2Proof.Machine

/-! ### Events (R142, 10.4) -/

/-- The 23 event kinds (9.5). -/
inductive Event where
  | joined
  | displaced
  | left
  | joinFailed
  | membership
  | peerLost
  | referenceChanged
  | locked
  | lockLost
  | holdover
  | migrated
  | trip
  | rearmed
  | mailIn
  | mailOverflow
  | receipt
  | dutyDue
  | dutyDropped
  | mismatch
  | conflict
  | isolated
  | lineFault
  | conflictSeen
deriving DecidableEq, Repr

/-- The bit of an event kind (10.4). -/
def eventBit : Event → Nat
  | .joined => 0
  | .displaced => 1
  | .left => 2
  | .joinFailed => 3
  | .membership => 4
  | .peerLost => 5
  | .referenceChanged => 6
  | .locked => 7
  | .lockLost => 8
  | .holdover => 9
  | .migrated => 10
  | .trip => 11
  | .rearmed => 12
  | .mailIn => 13
  | .mailOverflow => 14
  | .receipt => 15
  | .dutyDue => 16
  | .dutyDropped => 17
  | .mismatch => 18
  | .conflict => 19
  | .isolated => 20
  | .lineFault => 21
  | .conflictSeen => 22

/-- The event set with one kind present. -/
def eventMask (e : Event) : EventSet := 1#23 <<< eventBit e

/-- Whether an event kind is present in a set. -/
def hasEvent (set : EventSet) (e : Event) : Bool := set.getLsbD (eventBit e)

/-- Whether LP drives ATTNN low: a posted event is masked in (R145). -/
def attention (s : State) : Bool := s.lp.events &&& s.lp.mask != 0#23

/-! ### States of the station (R19) -/

/-- The on-line states: LISTENING, JOINING, MEMBER and LEAVING (R19). -/
def onLineState : StationState → Bool
  | .listening | .joining | .member | .leaving => true
  | _ => false

/-- JOINING, MEMBER and LEAVING, in which the roster is kept and mail is taken (R38, R40, R125). -/
def groupState : StationState → Bool
  | .joining | .member | .leaving => true
  | _ => false

/-- MEMBER and LEAVING, in which a slot is held (R42). -/
def slotState : StationState → Bool
  | .member | .leaving => true
  | _ => false

/-- TB runs while a configuration record is held (R1). -/
def running (s : State) : Bool := s.config.isSome

/-! ### Lock and trip (R87, R93) -/

/-- LOCKED or HOLDOVER. -/
def lockHeld : LockState → Bool
  | .locked | .holdover => true
  | _ => false

/-- Whether any cause is in the set. -/
def anyCause (c : CauseSet) : Bool := c.pin || c.command || c.line

/-- Whether the station drives TRIPN low: exactly while its local cause set is not empty (R95). -/
def drivesTripn (s : State) : Bool := anyCause s.tc.causes

/-- The level of TRIPN as sensed, the station's own drive included (R95); true for high. That the own drive is sensed and is
gone without delay is the model's choice (R99, log 40). -/
def tripnHigh (s : State) : Bool := s.pins.tripn && !drivesTripn s

/-- Whether PIN is active: FLTN is low (R94). A cause is active only while it is in the set. -/
def pinActive (s : State) : Bool := s.tc.causes.pin && !s.pins.fltn

/-- Whether LINE is active and in the set (R94). -/
def lineCauseActive (s : State) : Bool := s.tc.causes.line && s.lc.lineActive

/-! ### The output gate and the gate pins (R85, R87, R89) -/

/-- The four conditions of the output gate (R87). -/
def gateOpen (s : State) : Bool :=
  slotState s.mc.station && lockHeld s.tb.lock && s.pcu.run && s.tc.trip == .armed

/-- Whether the force-off path holds the pins at their off levels (R89). -/
def forcedOff (s : State) : Bool := !tripnHigh s || !s.pins.fltn || s.tc.trip != .armed

/-- Whether a side of a channel is on at the dead-time stage: the side requested, once the hold count has reached D (R83). -/
def sideOn (deadTime : Nat) (c : ChannelState) (side : Side) : Bool :=
  side != .none && c.request == side && c.hold == deadTime

/-- The levels of one channel's two pins, high side then low side: low until a record is accepted, then the stage's
sides under the polarity while the output state is ACTIVE and nothing forces them off, else the off levels (R85). -/
def channelPins (s : State) (c : ChannelState) : Bool × Bool :=
  match s.config with
  | none => (false, false)
  | some cfg =>
    let shown := s.pcu.output == .active && !forcedOff s
    ((shown && sideOn cfg.deadTime c .high) == cfg.polHigh, (shown && sideOn cfg.deadTime c .low) == cfg.polLow)

/-- GUH, GUL, GVH, GVL, GWH and GWL, true for a high level. -/
def gatePins (s : State) : List Bool :=
  [(channelPins s s.pcu.u).1, (channelPins s s.pcu.u).2, (channelPins s s.pcu.v).1, (channelPins s s.pcu.v).2,
    (channelPins s s.pcu.w).1, (channelPins s s.pcu.w).2]

/-- The off levels of the six pins: low before a record is accepted, else the inactive levels (R85). -/
def offLevels (s : State) : List Bool :=
  match s.config with
  | none => [false, false, false, false, false, false]
  | some cfg => [!cfg.polHigh, !cfg.polLow, !cfg.polHigh, !cfg.polLow, !cfg.polHigh, !cfg.polLow]

/-- The level of LRX this count for a given own LTX (log 5); true for recessive. -/
def lrxLevel (pins : InputPins) (ltx : Bool) : Bool :=
  match pins.lrx with
  | .shared others => others && ltx
  | .forced level => level

/-! ### Flag bytes -/

/-- A station report as a STATUS report-flags byte (10.2). -/
def reportByte (r : Report) : Byte :=
  lockCode r.lock ++ BitVec.ofBool r.active ++ BitVec.ofBool r.tripped ++ roleCode r.role ++ 0#2

/-- The report that a report-flags byte carries; bits 1 and 0 are ignored (R147). -/
def reportOfByte (b : Byte) : Report :=
  { lock := lockOfCode (b.extractLsb' 6 2), active := b.getLsbD 5, tripped := b.getLsbD 4,
    role := roleOfCode (b.extractLsb' 2 2) }

/-- The flags byte of a BEACON or, with the handover flag clear, of a JOIN (10.2). -/
def geometryFlags (mode : CarrierMode) (length : EpochLength) (handover : Bool) : Byte :=
  BitVec.ofBool (modeBit mode) ++ lengthCode length ++ BitVec.ofBool handover ++ 0#4

/-- A phase error saturated to -128 to 127, as a byte (R29, 10.1). -/
def saturatedByte (e : Int) : Byte := BitVec.ofInt 8 (max (-128) (min 127 e))

end Sys2Proof.Machine
end

