-- ==== Sys2Proof/Machine/Frames.lean ====
section
/-! DEFINITION. Frames of the peer line as bits (R109, R110, 10.2), the checks of a receiver (R114), the command that a
good frame delivers (R115), and the frames of the local port (10.3). A bit is true when recessive. -/

namespace Sys2Proof.Machine

/-! ### Payloads (10.2) -/

/-- The payload bytes of a BEACON. -/
def beaconBytes (b : Beacon) : List Byte :=
  wordBytes b.epoch ++ [b.carrier] ++ wordBytes b.position ++ wordBytes b.period ++
    [geometryFlags b.mode b.length b.handover] ++ maskBytes b.mask

/-- The payload bytes of an outgoing frame. -/
def payloadBytes : TxFrame → List Byte
  | .trip cause epoch => causeCode cause :: wordBytes epoch
  | .beacon b => beaconBytes b
  | .join r => wordBytes r.period ++ [geometryFlags r.mode r.length false]
  | .leave => []
  | .status s => wordBytes s.epoch ++ [reportByte s.report, s.phaseError]
  | .mail m => m.destination :: m.ticket :: m.data

/-- The kind of an outgoing frame. -/
def frameKind : TxFrame → FrameKind
  | .trip _ _ => .trip
  | .beacon _ => .beacon
  | .join _ => .join
  | .leave => .leave
  | .status _ => .status
  | .mail _ => .mail

/-! ### Sending (R109) -/

/-- The arbitration field and the length, which with the payload are the bits the CRC covers (R109, R110). -/
def headerBits (kind : Nat) (src : StationId) (length : Nat) : List Bool :=
  bitsOf 4 kind ++ bitsOf 5 src.val ++ bitsOf 4 length

/-- A payload byte as sent: in a MAIL frame a byte of value 0 is followed by a recessive fill bit (R109). -/
def sentByte (mail : Bool) (b : Byte) : List Bool :=
  if mail && b == 0 then bitsOfByte b ++ [true] else bitsOfByte b

/-- The bits of a frame after its start bit, through the last CRC bit (R109, R110). -/
def codeBits (kind : Nat) (src : StationId) (payload : List Byte) : List Bool :=
  let header := headerBits kind src payload.length
  header ++ payload.flatMap (sentByte (kind == 6)) ++
    bitsOf 16 (crc16 (header ++ payload.flatMap bitsOfByte)).toNat

/-- The bits of an own frame after its start bit, through the last CRC bit. -/
def frameBits (src : StationId) (f : TxFrame) : List Bool :=
  codeBits (kindCode (frameKind f)) src (payloadBytes f)

/-! ### Receiving (R114) -/

/-- What the payload bits received so far give: more are wanted, a dominant fill bit, or the bytes and the bits after. -/
inductive PayloadTake where
  | more
  | badFill
  | done (payload : List Byte) (rest : List Bool)
deriving DecidableEq, Repr

/-- Take `n` payload bytes off the bits received, removing fill bits from a MAIL frame (R114, step 2). -/
def takePayload (mail : Bool) : Nat → List Bool → PayloadTake
  | 0, bits => .done [] bits
  | n + 1, bits =>
    if bits.length < 8 then .more
    else
      let b := byteOfBits (bits.take 8)
      let rest := bits.drop 8
      if mail && b == 0 then
        match rest with
        | [] => .more
        | false :: _ => .badFill
        | true :: rest' =>
          match takePayload mail n rest' with
          | .done bytes left => .done (b :: bytes) left
          | other => other
      else
        match takePayload mail n rest with
        | .done bytes left => .done (b :: bytes) left
        | other => other

/-- What the bits of a frame received so far give, the start bit left out. -/
inductive RxStatus where
  | inProgress
  | formatError
  | complete (kind : Nat) (src : StationId) (payload : List Byte) (crcGood : Bool) (replies : List Bool)
deriving DecidableEq, Repr

/-- Read the bits of a frame received so far (R109, R110, R114). A length above 12 and a dominant fill bit are format
errors; `replies` are the bits after the last CRC bit. -/
def rxStatus (bits : List Bool) : RxStatus :=
  if bits.length < 13 then .inProgress
  else
    let kind := natOfBits (bits.take 4)
    let src : StationId := Fin.ofNat 32 (natOfBits ((bits.drop 4).take 5))
    let length := natOfBits ((bits.drop 9).take 4)
    if 12 < length then .formatError
    else
      match takePayload (kind == 6) length (bits.drop 13) with
      | .more => .inProgress
      | .badFill => .formatError
      | .done payload rest =>
        if rest.length < 16 then .inProgress
        else
          .complete kind src payload
            (rest.take 16 == bitsOf 16 (crc16 (bits.take 13 ++ payload.flatMap bitsOfByte)).toNat) (rest.drop 16)

/-- Whether a kind code is in use and a payload length is right for it (R109, R114 step 4). -/
def goodKindLength (kind length : Nat) : Bool :=
  (kind == 0 && length == 3) || (kind == 1 && length == 12) || (kind == 3 && length == 3) ||
    (kind == 4 && length == 0) || (kind == 5 && length == 4) || (kind == 6 && 3 ≤ length && length ≤ 10)

/-- The beacon that a payload of 12 bytes carries (10.2). The bits that the layout marks as zero are ignored and every field is
taken as carried (R147). -/
def beaconOfBytes : List Byte → Option Beacon
  | [e1, e0, c, p1, p0, q1, q0, flags, m3, m2, m1, m0] =>
    some
      { epoch := wordOf e1 e0, carrier := c, position := wordOf p1 p0, period := wordOf q1 q0,
        mode := modeOfBit (flags.getLsbD 7), length := lengthOfCode (flags.extractLsb' 5 2),
        handover := flags.getLsbD 4, mask := maskOfBytes m3 m2 m1 m0 }
  | _ => none

/-- The command by which a frame with good checks is delivered (R115). The bits that the layouts mark as zero are ignored
and every field is taken as carried (R147). -/
def deliveryOf (own : StationId) (kind : Nat) (src : StationId) (payload : List Byte) : Option Instr :=
  if kind = 0 then
    match payload with
    | [cause, e1, e0] => some (.tripFrameReceived src cause (wordOf e1 e0))
    | _ => none
  else if kind = 1 then (beaconOfBytes payload).map (.beaconReceived src)
  else if kind = 3 then
    match payload with
    | [q1, q0, flags] =>
      some (.joinReceived src
        { period := wordOf q1 q0, mode := modeOfBit (flags.getLsbD 7), length := lengthOfCode (flags.extractLsb' 5 2) })
    | _ => none
  else if kind = 4 then some (.leaveReceived src)
  else if kind = 5 then
    match payload with
    | [e1, e0, flags, err] =>
      some (.statusReceived src { epoch := wordOf e1 e0, report := reportOfByte flags, phaseError := err })
    | _ => none
  else if kind = 6 then
    match payload with
    | destination :: ticket :: data =>
      if destination = idByte own then some (.mailReceived src ticket data) else some (.mailForOtherDestination src)
    | _ => none
  else none

/-- What a receiver does when the last CRC bit of a frame has been sampled: discard it, or deliver it (R114, R115). -/
def endOfChecks (own : StationId) (kind : Nat) (src : StationId) (payload : List Byte) (crcGood : Bool) : Instr :=
  if !crcGood then .frameDiscarded .badCrc
  else if !goodKindLength kind payload.length then .frameDiscarded .kindOrLength
  else (deliveryOf own kind src payload).getD (.frameDiscarded .kindOrLength)

/-! ### Local port frames (10.3, R136, R137, R138) -/

/-- A response frame: status code, length, payload and CRC-8 (10.3). -/
def responseFrame (status : Byte) (payload : List Byte) : List Byte :=
  let body := status :: BitVec.ofNat 8 payload.length :: payload
  body ++ [crc8 body]

/-- The command that a known code names, and UNKNOWN_COMMAND for every other code (10.3, R138). -/
def commandOfCode (code : Byte) (payload : List Byte) : Instr :=
  match code.toNat with
  | 0x01 => .loadConfig payload
  | 0x02 => .start payload
  | 0x03 => .leave payload
  | 0x04 => .restart payload
  | 0x08 => .run payload
  | 0x09 => .halt payload
  | 0x0A => .setDuty payload
  | 0x0B => .cancelTimed payload
  | 0x10 => .forceTrip payload
  | 0x11 => .clearTrip payload
  | 0x18 => .postMail payload
  | 0x19 => .takeMail payload
  | 0x1A => .takeReceipt payload
  | 0x20 => .readStatus payload
  | 0x21 => .readRoster payload
  | 0x22 => .readEpoch payload
  | 0x23 => .readTrip payload
  | 0x24 => .readConfig payload
  | 0x28 => .readEvents payload
  | 0x29 => .setEventMask payload
  | _ => .unknownCommand code payload

/-- The command that the bytes of a select window give: nothing while bytes are wanted, COMMAND_LENGTH_OVERFLOW at a
length byte above 16, FRAME_ERROR at a bad CRC, else the command of the code (R135, R136, R137, R138). -/
def commandOfWindow (bytes : List Byte) : Option Instr :=
  match bytes with
  | code :: length :: rest =>
    if 16 < length.toNat then some (.commandLengthOverflow code length)
    else if rest.length ≤ length.toNat then none
    else
      let payload := rest.take length.toNat
      let crc := rest.getD length.toNat 0
      if crc = crc8 (code :: length :: payload) then some (commandOfCode code payload)
      else some (.frameError (code :: length :: payload) crc)
  | _ => none

/-- The bytes of a command frame (10.3). -/
def commandFrame (code : Byte) (payload : List Byte) : List Byte :=
  let body := code :: BitVec.ofNat 8 payload.length :: payload
  body ++ [crc8 body]

end Sys2Proof.Machine
end

