-- ==== Sys2Proof/Machine/Ops.lean ====
section
/-! DEFINITION. The named operations over State: updates block by block, posting events, the output state, the transmit
slots, and the local port's responses. -/

namespace Sys2Proof.Machine

/-! ### Updates, one block at a time -/

/-- Change TB. -/
def mapTb (f : TimeBase → TimeBase) (s : State) : State := { s with tb := f s.tb }

/-- Change MC. -/
def mapMc (f : Membership → Membership) (s : State) : State := { s with mc := f s.mc }

/-- Change PCU. -/
def mapPcu (f : ChannelUnit → ChannelUnit) (s : State) : State := { s with pcu := f s.pcu }

/-- Change TC. -/
def mapTc (f : TripController → TripController) (s : State) : State := { s with tc := f s.tc }

/-- Change LC. -/
def mapLc (f : LineController → LineController) (s : State) : State := { s with lc := f s.lc }

/-- Change MU. -/
def mapMu (f : MailUnit → MailUnit) (s : State) : State := { s with mu := f s.mu }

/-- Change LP. -/
def mapLp (f : LocalPort → LocalPort) (s : State) : State := { s with lp := f s.lp }

/-- Change the levels the outside world puts on the pins. -/
def mapPins (f : InputPins → InputPins) (s : State) : State := { s with pins := f s.pins }

/-! ### Events (R142) -/

/-- A block posts an event: its kind becomes present in the event set. -/
def post (e : Event) (s : State) : State := mapLp (fun lp => { lp with events := lp.events ||| eventMask e }) s

/-- Post an event when a condition holds. -/
def postIf (c : Bool) (e : Event) (s : State) : State := if c then post e s else s

/-! ### The output state (R87, R88) -/

/-- Bring the output state into line with the gate: OFF when a condition fails, STANDBY from OFF when all hold. -/
def regate (s : State) : State :=
  mapPcu (fun pcu =>
    { pcu with
      output := if gateOpen s then (if pcu.output = .off then .standby else pcu.output) else .off }) s

/-! ### Transmit slots (R116, R117, R118) -/

/-- The slot of a kind. -/
def slotOf (slots : TxSlots) : FrameKind → Option TxFrame
  | .trip => slots.trip
  | .beacon => slots.beacon
  | .join => slots.join
  | .leave => slots.leave
  | .status => slots.status
  | .mail => slots.mail

/-- Put a frame into the slot of a kind, or empty it. -/
def setSlot (slots : TxSlots) (kind : FrameKind) (f : Option TxFrame) : TxSlots :=
  match kind with
  | .trip => { slots with trip := f }
  | .beacon => { slots with beacon := f }
  | .join => { slots with join := f }
  | .leave => { slots with leave := f }
  | .status => { slots with status := f }
  | .mail => { slots with mail := f }

/-- The full slot of the lowest kind code (R117). -/
def lowestFull (slots : TxSlots) : Option FrameKind :=
  if slots.trip.isSome then some .trip
  else if slots.beacon.isSome then some .beacon
  else if slots.join.isSome then some .join
  else if slots.leave.isSome then some .leave
  else if slots.status.isSome then some .status
  else if slots.mail.isSome then some .mail
  else none

/-- A frame of this kind on the line is no longer returnable (R118). -/
def notReturnable (kind : FrameKind) (own : Option OwnFrame) : Option OwnFrame :=
  own.map fun o => if frameKind o.frame = kind then { o with returnable := false } else o

/-- An owner fills its slot. While the transmitter is off the fill is discarded (R116); a frame of the kind on the line
is no longer returnable (R118). -/
def fillSlot (f : TxFrame) (s : State) : State :=
  mapLc (fun lc =>
    if lc.txOn then
      { lc with slots := setSlot lc.slots (frameKind f) (some f), onLine := notReturnable (frameKind f) lc.onLine }
    else lc) s

/-- An owner empties its slot. A frame in its arbitration field is withdrawn and the station stops driving (R117); a
frame of the kind on the line is no longer returnable (R118). -/
def emptySlot (kind : FrameKind) (s : State) : State :=
  mapLc (fun lc =>
    { lc with
      slots := setSlot lc.slots kind none
      onLine := notReturnable kind lc.onLine
      attempt := if lc.attempt = some kind then none else lc.attempt
      ltx := if lc.attempt = some kind then true else lc.ltx }) s

/-- LC empties all six slots, withdrawing a frame in its arbitration field; no frame on the line is returnable after it
(R118, R119, R120, R123). -/
def emptyAllSlots (s : State) : State :=
  mapLc (fun lc =>
    { lc with
      slots := .empty
      onLine := lc.onLine.map fun o => { o with returnable := false }
      attempt := none
      ltx := if lc.attempt.isSome then true else lc.ltx }) s

/-- LC turns its transmitter off and drives LTX recessive (R120). -/
def transmitterOff (s : State) : State :=
  mapLc (fun lc =>
    { lc with txOn := false, ltx := true, onLine := lc.onLine.map fun o => { o with returnable := false } }) s

/-- The framer enters WAIT_IDLE and its run of recessive bits begins afresh (R108). -/
def toWaitIdle (s : State) : State :=
  mapLc (fun lc => { lc with framer := .waitIdle, idleRun := 0 }) s

/-! ### Responses of the local port (R136, R138, 10.3) -/

/-- The status codes (10.3). -/
inductive Status where
  | ok
  | accepted
  | replaced
  | state
  | badArg
  | badCommand
  | full
  | empty
  | late
  | noPeer
  | activeCause
  | frameError
deriving DecidableEq, Repr

/-- The value of a status code (10.3). -/
def statusByte : Status → Byte
  | .ok => 0x00
  | .accepted => 0x01
  | .replaced => 0x02
  | .state => 0x10
  | .badArg => 0x11
  | .badCommand => 0x12
  | .full => 0x13
  | .empty => 0x14
  | .late => 0x15
  | .noPeer => 0x16
  | .activeCause => 0x17
  | .frameError => 0x18

/-- LP forms the whole response at the count of taking, and the framer goes on to TURNAROUND (R135, R136). -/
def respond (status : Status) (payload : List Byte) (s : State) : State :=
  mapLp (fun lp =>
    { lp with
      phase := .turnaround
      shift := []
      bitCount := 0
      sdo := some true
      response := responseFrame (statusByte status) payload }) s

/-- A response without payload. -/
def answer (status : Status) (s : State) : State := respond status [] s

end Sys2Proof.Machine
end

