-- ==== Sys2Proof/Machine/TripOps.lean ====
section
/-! DEFINITION. Operations of the Trip Controller (chapter 6). -/

namespace Sys2Proof.Machine

/-- Append an ID to the origin list: not if present, and not if the list holds 8 (R96, R102). -/
def appendOrigin (id : StationId) (origins : List StationId) : List StationId :=
  if origins.contains id || 8 ≤ origins.length then origins else origins ++ [id]

/-- Every entry to ARMED from REARM: the origin list is emptied and REARMED is posted; the output state becomes STANDBY
if the other conditions hold (R100). -/
def enterArmed (s : State) : State :=
  regate (post .rearmed (mapTc (fun tc => { tc with trip := .armed, origins := [] }) s))

/-- A station in REARM whose lock state is FREE or ACQUIRE enters ARMED at once (R100). -/
def rearmIfUnlocked (s : State) : State :=
  if s.tc.trip = .rearm && !lockHeld s.tb.lock then enterArmed s else s

/-- Entry to REARM (R98, R99), which an unlocked station leaves at once (R100). -/
def enterRearm (s : State) : State :=
  rearmIfUnlocked (regate (mapTc (fun tc => { tc with trip := .rearm }) s))

/-- Entry to TRIPPED_REMOTE with TRIP posted: TRIPN sensed low in ARMED or REARM (R98). -/
def enterRemote (s : State) : State :=
  regate (post .trip (mapTc (fun tc => { tc with trip := .trippedRemote }) s))

/-- The epoch boundary TB hands TC: a station in REARM that is LOCKED or HOLDOVER enters ARMED (R100). -/
def boundaryTc (s : State) : State :=
  if s.tc.trip = .rearm && lockHeld s.tb.lock then enterArmed s else s

/-- Whether a cause is in the set. -/
def hasCause (c : CauseSet) : TripCause → Bool
  | .pin => c.pin
  | .command => c.command
  | .line => c.line

/-- The set with a cause added. -/
def addCause (c : CauseSet) : TripCause → CauseSet
  | .pin => { c with pin := true }
  | .command => { c with command := true }
  | .line => { c with line := true }

/-- The states in which TC fills a TRIP frame (R101). -/
def tripFrameState : StationState → Bool
  | .unconfigured | .isolated | .mismatch => false
  | _ => true

/-- Fill the TRIP slot with a cause code and TB's epoch number, where R101 allows. -/
def fillTrip (cause : TripCause) (s : State) : State :=
  if tripFrameState s.mc.station then fillSlot (.trip cause s.tb.epoch) s else s

/-- A latching event of a cause (R94, R96, R97): nothing if it is in the set; in TRIPPED_LOCAL it is added and a further
frame filled; else the station enters TRIPPED_LOCAL with trip epoch, own ID, frame and TRIP. -/
def latchCause (cause : TripCause) (s : State) : State :=
  if hasCause s.tc.causes cause then s
  else if s.tc.trip = .trippedLocal then
    fillTrip cause (mapTc (fun tc => { tc with causes := addCause tc.causes cause }) s)
  else
    regate (post .trip (fillTrip cause (mapTc (fun tc =>
      { trip := .trippedLocal
        causes := addCause tc.causes cause
        origins := appendOrigin s.sid tc.origins
        tripEpoch := some s.tb.epoch }) s)))

/-- What the sensed level of TRIPN does (R98): low takes ARMED and REARM to TRIPPED_REMOTE, high takes TRIPPED_REMOTE
to REARM, and TRIPPED_LOCAL is not moved. -/
def senseTripn (s : State) : State :=
  match s.tc.trip with
  | .armed | .rearm => if tripnHigh s then s else enterRemote s
  | .trippedRemote => if tripnHigh s then enterRearm s else s
  | .trippedLocal => s

end Sys2Proof.Machine
end

