-- ==== Sys2Proof/Machine/DutyOps.lean ====
section
/-! DEFINITION. Operations of the Phase Channel Unit (chapter 5), with the output counter it compares (R3). -/

namespace Sys2Proof.Machine

/-! ### The output counter (R3) -/

/-- The output counter for an output position and a net step: held at its end value for the counts a step adds, cut by
the counts it takes away. -/
def outputCounter (cfg : ConfigRecord) (outPos : Nat) (netStep : Int) : Nat :=
  match cfg.mode with
  | .edge => min outPos (cfg.period - 1)
  | .centre =>
    if outPos ≤ cfg.period + (-netStep).toNat then min outPos cfg.period
    else (2 * (cfg.period : Int) - netStep - outPos).toNat

/-- The output counter of this count. -/
def counterNow (cfg : ConfigRecord) (s : State) : Nat := outputCounter cfg s.tb.outPos s.tb.netStep

/-! ### Requests and the dead-time stage (R82, R83) -/

/-- The side a setting requests at a counter value: in PWM mode HIGH while the counter is below C (R82, R83). -/
def requestOf (setting : ChannelSetting) (counter : Nat) : Side :=
  match setting.mode with
  | .forceOff => .none
  | .forceHigh => .high
  | .forceLow => .low
  | .pwm => if counter < setting.compare then .high else .low

/-- The hold count of this count: 0 if the request differs from that of the count before, or if the mode has changed at this
count; otherwise it has gone up by one (R83). -/
def settleHold (c : ChannelState) : ChannelState :=
  { c with hold := if c.request = c.lastRequest ∧ c.modeChanged = false then c.runHold else 0 }

/-- Form the channel's request at a counter value (R83). -/
def refreshChannel (counter : Nat) (c : ChannelState) : ChannelState :=
  settleHold { c with request := requestOf c.setting counter }

/-- A record becomes the channel's applied setting (R75, R79, R83). A mode that two records of one count change and change
back has changed at that count (log 29). -/
def applyChannel (counter : Nat) (setting : ChannelSetting) (c : ChannelState) : ChannelState :=
  settleHold { c with
    setting := setting
    request := requestOf setting counter
    modeChanged := c.modeChanged || decide (setting.mode ≠ c.setting.mode) }

/-- A count passes in the stage: its request is that of the count before for the next one, and the hold count goes up by one
and stays at D (R83). -/
def advanceHold (deadTime : Nat) (c : ChannelState) : ChannelState :=
  { c with
    hold := min deadTime (c.hold + 1)
    lastRequest := c.request
    runHold := min deadTime (c.hold + 1)
    modeChanged := false }

/-- Form the requests of all three channels at the present counter. -/
def refreshChannels (s : State) : State :=
  match s.config with
  | none => s
  | some cfg =>
    let n := counterNow cfg s
    mapPcu (fun p => { p with u := refreshChannel n p.u, v := refreshChannel n p.v, w := refreshChannel n p.w }) s

/-- The channel of a name. -/
def channelOf (p : ChannelUnit) : Channel → ChannelState
  | .u => p.u
  | .v => p.v
  | .w => p.w

/-- Change one channel. -/
def mapChannel (ch : Channel) (f : ChannelState → ChannelState) (p : ChannelUnit) : ChannelUnit :=
  match ch with
  | .u => { p with u := f p.u }
  | .v => { p with v := f p.v }
  | .w => { p with w := f p.w }

/-! ### Applying records (R75, R79) -/

/-- A duty record becomes the applied setting of all three channels and the has-applied flag is set (R72). -/
def applySettings (d : DutySettings) (s : State) : State :=
  match s.config with
  | none => s
  | some cfg =>
    let n := counterNow cfg s
    mapPcu (fun p =>
      { p with
        u := applyChannel n d.u p.u
        v := applyChannel n d.v p.v
        w := applyChannel n d.w p.w
        hasApplied := true }) s

/-- The pending record, if any, is applied and its slot empties (R75). -/
def applyPending (s : State) : State :=
  match s.pcu.pendingDuty with
  | none => s
  | some d => mapPcu (fun p => { p with pendingDuty := none }) (applySettings d s)

/-- The due record, if any, is applied: a pending record is discarded with DUTY_DROPPED, and DUTY_DUE is posted (R79). -/
def applyDue (s : State) : State :=
  match s.pcu.due with
  | none => s
  | some d =>
    post .dutyDue (postIf s.pcu.pendingDuty.isSome .dutyDropped
      (mapPcu (fun p => { p with due := none, pendingDuty := none }) (applySettings d s)))

/-- The entry decision of an output carrier start: STANDBY with has-applied set and the gate open becomes ACTIVE (R88). -/
def enterActive (s : State) : State :=
  if s.pcu.output = .standby && s.pcu.hasApplied && gateOpen s then
    mapPcu (fun p => { p with output := .active }) s
  else s

/-! ### The timed duty list (R76 to R81) -/

/-- Insert a record in ascending order of distance ahead of the current epoch (R76). -/
def insertTimed (current : EpochNumber) (r : TimedDuty) : List TimedDuty → List TimedDuty
  | [] => [r]
  | h :: t =>
    if epochsAhead r.epoch current < epochsAhead h.epoch current then r :: h :: t
    else h :: insertTimed current r t

/-- Replace the record of the same apply epoch in its place (R76). -/
def replaceTimed (r : TimedDuty) (list : List TimedDuty) : List TimedDuty :=
  list.map fun h => if h.epoch = r.epoch then r else h

/-- PCU is handed the boundary of epoch `n`: the record for `n`, first in the list, becomes due, replacing a waiting due
record with DUTY_DROPPED (R78). -/
def takeDue (n : EpochNumber) (s : State) : State :=
  match s.pcu.timed with
  | [] => s
  | r :: rest =>
    if r.epoch = n then
      postIf s.pcu.due.isSome .dutyDropped
        (mapPcu (fun p => { p with due := some r.settings, timed := rest }) s)
    else s

/-- When the output carrier start of this count was taken before the boundary, a record the boundary makes due is applied
at this count as though at that start: a record that start applied counts as discarded, as it would be had the boundary been
taken first, and the entry decision is made again (R78, R79). -/
def dueAfterStart (s : State) : State :=
  match s.tb.startMark with
  | .taken recordApplied =>
    if s.pcu.due.isSome then enterActive (applyDue (postIf recordApplied .dutyDropped s)) else s
  | _ => s

/-- The epoch boundary TB hands PCU, with the new epoch number (R78, R79). That PCU takes it before TC does is the model's
choice (log 31). -/
def boundaryPcu (s : State) : State :=
  match s.pcu.timed with
  | [] => s
  | r :: _ => if r.epoch = s.tb.epoch then dueAfterStart (takeDue s.tb.epoch s) else s

/-- Whether a change of epoch number is forward (chapter 5, 5.5). -/
def forwardChange (old new : EpochNumber) : Bool := 1 ≤ epochsAhead new old && epochsAhead new old ≤ 32767

/-- A forward change of epoch number: the latest of the records of the skipped epochs becomes due, the others and a
waiting due record are dropped (R80). -/
def epochForward (old new : EpochNumber) (s : State) : State :=
  let skipped (r : TimedDuty) : Bool := 1 ≤ epochsAhead r.epoch old && epochsAhead r.epoch old ≤ epochsAhead new old
  let taken := s.pcu.timed.filter skipped
  match taken.getLast? with
  | none => s
  | some latest =>
    postIf (1 < taken.length || s.pcu.due.isSome) .dutyDropped
      (mapPcu (fun p => { p with due := some latest.settings, timed := p.timed.filter fun r => !skipped r }) s)

/-- A backward change of epoch number: records outside 1 to 255 epochs ahead of the new number are dropped (R81). -/
def epochBackward (new : EpochNumber) (s : State) : State :=
  let kept (r : TimedDuty) : Bool := 1 ≤ epochsAhead r.epoch new && epochsAhead r.epoch new ≤ 255
  postIf (s.pcu.timed.any fun r => !kept r) .dutyDropped
    (mapPcu (fun p => { p with timed := p.timed.filter kept }) s)

/-- PCU is handed a change of epoch number other than by a boundary; a change to an equal number is not handed over
(R11, R80, R81). -/
def epochChanged (old new : EpochNumber) (s : State) : State :=
  if old = new then s
  else if forwardChange old new then epochForward old new s
  else epochBackward new s

/-- TB's epoch number is set other than by a boundary, and PCU is handed the change (R11). -/
def setEpoch (new : EpochNumber) (s : State) : State :=
  epochChanged s.tb.epoch new (mapTb (fun tb => { tb with epoch := new }) s)

/-! ### Leaving the line and RESTART (R90, R91) -/

/-- PCU is told of leaving the line: RUN cleared, output OFF, pending, due and timed records emptied; the rest is kept
(R90). -/
def leavePcu (s : State) : State :=
  mapPcu (fun p => { p with run := false, output := .off, pendingDuty := none, due := none, timed := [] }) s

end Sys2Proof.Machine
end

