-- ==== Sys2Proof/Machine/TimeOps.lean ====
section
/-! DEFINITION. Operations of the Time Base (chapters 1 and 4): marker samples, measurement, jumps, lock states, the slew
budget, placements and migrate requests. -/

namespace Sys2Proof.Machine

/-! ### Positions and errors -/

/-- A difference of counts taken into the range above -m/2 and up to and including +m/2 (R7). -/
def wrapError (m : Nat) (x : Int) : Int :=
  let r := x % (m : Int)
  if (m : Int) < 2 * r then r - m else r

/-- The counts by which the shared phase of this count lies past the place held: not 0 only while a boundary of this count
is not yet taken (log 3). -/
def countsPast (tb : TimeBase) : Nat :=
  match tb.boundary with
  | .due past => past
  | _ => 0

/-- The place of the shared phase within its epoch, in counts. -/
def phaseCounts (cfg : ConfigRecord) (tb : TimeBase) : Int :=
  (tb.carrier * carrierLength cfg + tb.position + countsPast tb : Nat)

/-- The settled phase: the shared phase with what is left of a sync step counted as realised (R6). -/
def settledCounts (cfg : ConfigRecord) (tb : TimeBase) : Int := phaseCounts cfg tb + tb.syncLeft

/-- TB samples its settled phase at a beacon marker (R6). -/
def markerSample (cfg : ConfigRecord) (tb : TimeBase) : MarkerSample :=
  let m : Int := epochCounts cfg
  let at_ := settledCounts cfg tb
  let place := (at_ % m).toNat
  { epoch := tb.epoch + BitVec.ofInt 16 (at_ / m)
    carrier := place / carrierLength cfg
    position := place % carrierLength cfg
    ahead := at_ / m
    stepsSince := 0
    boundariesSince := 0 }

/-- The beacon's position at its marker with LINE_DELAY added, as carried (R7, R147). -/
def beaconCounts (cfg : ConfigRecord) (b : Beacon) : Int :=
  (b.carrier.toNat * carrierLength cfg + b.position.toNat + cfg.lineDelay : Nat)

/-- The station's own position at the marker. -/
def sampleCounts (cfg : ConfigRecord) (m : MarkerSample) : Int := (m.carrier * carrierLength cfg + m.position : Nat)

/-- The error at the marker: the beacon's position less the station's, wrapped (R7). -/
def markerError (cfg : ConfigRecord) (b : Beacon) (m : MarkerSample) : Int :=
  wrapError (epochCounts cfg) (beaconCounts cfg b - sampleCounts cfg m)

/-- The phase error e: the error at the marker less every sync step decided since (R7). -/
def measuredError (cfg : ConfigRecord) (b : Beacon) (m : MarkerSample) : Int :=
  wrapError (epochCounts cfg) (markerError cfg b m - m.stepsSince)

/-- The adopted epoch number: the epoch in which the beacon's time moved back by the error at the marker lies, taken from
the settled phase back to the running one (log 7), carried forward by the boundaries taken since (R7). -/
def adoptedEpoch (cfg : ConfigRecord) (b : Beacon) (m : MarkerSample) : EpochNumber :=
  b.epoch + BitVec.ofInt 16 ((beaconCounts cfg b - markerError cfg b m) / (epochCounts cfg : Int) - m.ahead
    + m.boundariesSince)

/-! ### Output position (R3, R10, R15, R66) -/

/-- Re-base the output position to (p - current offset) modulo L. The interval it begins is no output carrier, and a
start of this count not yet taken is overtaken (R10, R15, R17, R66). -/
def rebase (s : State) : State :=
  match s.config with
  | none => s
  | some cfg =>
    refreshChannels (mapTb (fun tb =>
      { tb with
        outPos := (((tb.position + countsPast tb : Nat) - tb.current : Int) % (carrierLength cfg : Int)).toNat
        netStep := 0
        inCarrier := false
        startMark := if tb.startMark = .due then .overtaken else tb.startMark }) s)

/-- A place request: target and current offset take the value at once, and the rest of a sync step is abandoned (R15,
R17). -/
def placeTarget (t : Nat) (s : State) : State :=
  rebase (mapTb (fun tb => { tb with target := t, current := t, syncLeft := 0 }) s)

/-- A migrate request: the new target replaces the old; a migration it ends at the current offset posts MIGRATED (R15,
R68). -/
def migrateTarget (t : Nat) (s : State) : State :=
  postIf (s.tb.current != s.tb.target && t == s.tb.current) .migrated (mapTb (fun tb => { tb with target := t }) s)

/-! ### Lock states (R5, R13) -/

/-- TB changes its lock state: the in-window and missed-beacon counts of R5, the events LOCKED, HOLDOVER and LOCK_LOST,
the output gate, and the rearm of an unlocked station (R5, R88, R100). -/
def setLock (lock : LockState) (s : State) : State :=
  let old := s.tb.lock
  let s := mapTb (fun tb =>
    { tb with
      lock := lock
      inWindow := match lock with
        | .free | .acquire => 0
        | .locked => 2
        | .holdover => tb.inWindow
      missed := if lock = .free then 0 else tb.missed
      expired := false }) s
  let s := postIf (lock == .locked && old != .locked) .locked s
  let s := postIf (lock == .holdover && old != .holdover) .holdover s
  let s := postIf (lock == .acquire && lockHeld old) .lockLost s
  rearmIfUnlocked (regate s)

/-- MC makes the station the reference: TB enters LOCKED with residual and missed-beacon count 0 (R13). That a sync step still
being realised runs on is the model's choice (log 25). -/
def lockAsReference (s : State) : State :=
  setLock .locked (mapTb (fun tb => { tb with residual := 0, missed := 0 }) s)

/-! ### Jump and measurement (R7 to R10) -/

/-- A jump by `e` counts onto the beacon's phase: the settled phase moves, the epoch number is the adopted one carried
with it, the residual and any step in progress end, the current offset takes the target, and the output position is
re-based. A boundary of this count not yet taken is overtaken (R10, R11, log 3). -/
def jump (e : Int) (adopted : EpochNumber) (s : State) : State :=
  match s.config with
  | none => s
  | some cfg =>
    let m : Int := epochCounts cfg
    let to_ := settledCounts cfg s.tb + e
    let place := (to_ % m).toNat
    setEpoch (adopted + BitVec.ofInt 16 (to_ / m))
      (rebase (mapTb (fun tb =>
        { tb with
          carrier := place / carrierLength cfg
          position := place % carrierLength cfg
          syncLeft := 0
          residual := 0
          missed := 0
          inWindow := 0
          current := tb.target
          boundary := if tb.boundary = .none then .none else .overtaken }) s))

/-- TB acts on an error and an adopted epoch number by its lock state (R8, R9). -/
def actOnError (cfg : ConfigRecord) (e : Int) (adopted : EpochNumber) (s : State) : State :=
  match s.tb.lock with
  | .free => setLock .acquire (jump e adopted s)
  | .acquire =>
    if cfg.window < e.natAbs then jump e adopted s
    else
      let s := setEpoch adopted (mapTb (fun tb => { tb with residual := e, inWindow := tb.inWindow + 1 }) s)
      if 2 ≤ s.tb.inWindow then setLock .locked s else s
  | .locked | .holdover =>
    if 4 * cfg.window < e.natAbs then jump e adopted (setLock .acquire s)
    else setLock .locked (setEpoch adopted (mapTb (fun tb => { tb with residual := e }) s))

/-- A beacon is handed to TB: the missed-beacon count is cleared and an open window has its beacon (R5, R12). -/
def handOver (s : State) : State :=
  mapTb (fun tb => { tb with missed := 0, windowSeen := tb.windowSeen || tb.windowOpen }) s

/-- MC hands TB an accepted beacon. It uses up the sample held for it; a beacon without one is not measured and causes
no lock action (R6, R7, log 26). -/
def measureBeacon (b : Beacon) (s : State) : State :=
  match s.config with
  | none => s
  | some cfg =>
    match s.tb.sample with
    | none => handOver s
    | some m =>
      let e := measuredError cfg b m
      actOnError cfg e (adoptedEpoch cfg b m)
        (mapTb (fun tb => { tb with sample := none, phaseError := some e }) (handOver s))

/-- MC tells TB to discard the sample of a beacon it does not accept, or LC that of a frame it discards (R6). -/
def dropSample (s : State) : State := mapTb (fun tb => { tb with sample := none }) s

/-! ### Missed beacons (R12) -/

/-- Whether TB watches the expected window (R12). -/
def watchesWindow (s : State) : Bool :=
  s.mc.role != .reference &&
    (lockHeld s.tb.lock ||
      (s.tb.lock == .acquire && (slotState s.mc.station || (s.tb.expired && 1 ≤ s.tb.missed))))

/-- The expected window ends with no beacon: the missed-beacon count goes up, holdover expires at HOLDOVER_EPOCHS, and
a first miss takes LOCKED to HOLDOVER (R12, actions 1 and 2). That a sync step still being realised at the expiry is realised
to its end is the model's choice: R12 makes the residual 0 and says that the phase is not moved, and R17 does not count the
expiry among what abandons a step (log 41). -/
def countMiss (cfg : ConfigRecord) (s : State) : State :=
  let missed := min 8 (s.tb.missed + 1)
  let s := mapTb (fun tb => { tb with missed := missed, windowOpen := false, windowSeen := false }) s
  if cfg.holdoverEpochs ≤ missed && lockHeld s.tb.lock then
    mapTb (fun tb => { tb with expired := true }) (setLock .acquire (mapTb (fun tb => { tb with residual := 0 }) s))
  else if missed = 1 && s.tb.lock = .locked then setLock .holdover s
  else s

/-! ### The slew budget (R14 to R16) -/

/-- The sync step for a residual: its sign, and the smaller of its magnitude and SLEW_MAX (R14). -/
def syncStep (slewMax : Nat) (residual : Int) : Int := max (-(slewMax : Int)) (min (slewMax : Int) residual)

/-- The offset step within a budget: the shorter way toward the target, a tie going forward (R15). -/
def offsetStep (l : Nat) (current target budget : Nat) : Int :=
  let d := (((target : Int) - current) % (l : Int)).toNat
  if 2 * d ≤ l then (min d budget : Nat) else -((min (l - d) budget : Nat) : Int)

/-- TB's part of an output carrier start: the output position returns to 0, the sync step and then the offset step are
decided, and the net step sets the length of the carrier that begins (R3, R14, R15, R16). -/
def startCarrier (cfg : ConfigRecord) (s : State) : State :=
  let l := carrierLength cfg
  let sync := syncStep cfg.slewMax s.tb.residual
  let o := offsetStep l s.tb.current s.tb.target (cfg.slewMax - sync.natAbs)
  let current := (((s.tb.current : Int) + o) % (l : Int)).toNat
  postIf (o != 0 && current == s.tb.target) .migrated (mapTb (fun tb =>
    { tb with
      residual := tb.residual - sync
      syncLeft := sync
      current := current
      outPos := 0
      netStep := sync - o
      inCarrier := true
      sample := tb.sample.map fun m => { m with stepsSince := m.stepsSince + sync } }) s)

/-- The length of the output carrier under way: L less the net step (R16). -/
def outCarrierLength (cfg : ConfigRecord) (tb : TimeBase) : Nat := ((carrierLength cfg : Int) - tb.netStep).toNat

/-! ### Leaving the line and RESTART (R18) -/

/-- TB enters FREE with its counts, residual, steps, offsets and last phase error cleared; the phase and the epoch number
run on, and no event of TB's is posted (R18). -/
def freeTb (s : State) : State :=
  rearmIfUnlocked (regate (rebase (mapTb (fun tb =>
    { tb with
      lock := .free
      inWindow := 0
      missed := 0
      residual := 0
      syncLeft := 0
      target := 0
      current := 0
      phaseError := none
      expired := false }) s)))

end Sys2Proof.Machine
end

