-- ==== Sys2Proof/Machine/MailOps.lean ====
section
/-! DEFINITION. Operations of the Mail Unit (chapter 8). -/

namespace Sys2Proof.Machine

/-- The MAIL frame of a queued mail (R126). -/
def mailFrame (m : OutMail) : TxFrame :=
  .mail { destination := idByte m.destination, ticket := m.ticket, data := m.data }

/-- The receipt of a complete mail (R128). -/
def receiptOf (m : OutMail) (outcome : MailOutcome) : Receipt :=
  { ticket := m.ticket, destination := m.destination, outcome := outcome, attempts := m.attempts }

/-- A complete head leaves the queue while the receipt list has room: its receipt is appended and RECEIPT posted; the next
mail becomes the head, and is filled if it is not complete (R128). `fuel` bounds the mails that leave at one count. -/
def completeHeads : Nat → State → State
  | 0, s => s
  | fuel + 1, s =>
    match s.mu.queue with
    | [] => s
    | head :: rest =>
      match head.outcome with
      | none => s
      | some outcome =>
        if s.mu.receipts.length < 4 then
          let s := post .receipt (mapMu (fun mu =>
            { mu with queue := rest, receipts := mu.receipts ++ [receiptOf head outcome] }) s)
          match rest with
          | [] => s
          | next :: _ => if next.outcome.isNone then fillSlot (mailFrame next) s else completeHeads fuel s
        else s

/-- Complete heads leave as far as the receipt list has room (R128). -/
def settleQueue (s : State) : State := completeHeads s.mu.queue.length s

/-- Change the head of the queue. -/
def mapHead (f : OutMail → OutMail) (queue : List OutMail) : List OutMail :=
  match queue with
  | [] => []
  | head :: rest => f head :: rest

/-- The head gets an outcome: its retry and its flight end, the MAIL slot is emptied, and it leaves if there is room
(R126, R127, R128). -/
def finishHead (outcome : MailOutcome) (s : State) : State :=
  settleQueue (emptySlot .mail (mapMu (fun mu =>
    { mu with
      queue := mapHead (fun m => { m with outcome := some outcome }) mu.queue
      retryDue := false
      inFlight := false }) s))

/-- LC reports the outcome of a MAIL frame (R126, R127, R129). An outcome reported with no mail in flight is discarded. -/
def mailReported (ack refuse : Bool) (s : State) : State :=
  if !s.mu.inFlight then s
  else
    match s.mu.queue with
    | [] => mapMu (fun mu => { mu with inFlight := false }) s
    | head :: _ =>
      let attempts := head.attempts + 1
      let s := mapMu (fun mu =>
        { mu with queue := mapHead (fun m => { m with attempts := attempts }) mu.queue, inFlight := false }) s
      if ack then finishHead .delivered s
      else if head.destLost then finishHead .undelivered s
      else if 3 ≤ attempts then finishHead (if refuse then .refused else .undelivered) s
      else mapMu (fun mu => { mu with retryDue := true }) s

/-- LC's failure notice for a MAIL frame: the flight ends, and a head with destination lost becomes UNDELIVERED (R126,
R129). -/
def mailFailed (s : State) : State :=
  if !s.mu.inFlight then s
  else
    let s := mapMu (fun mu => { mu with inFlight := false }) s
    match s.mu.queue with
    | [] => s
    | head :: _ => if head.destLost then finishHead .undelivered s else s

/-- A due retry fills the MAIL slot with the head's frame (R127). -/
def retryHead (s : State) : State :=
  match s.mu.queue with
  | [] => s
  | head :: _ =>
    if s.mu.retryDue then fillSlot (mailFrame head) (mapMu (fun mu => { mu with retryDue := false }) s) else s

/-- Mails behind the head whose destination is lost become UNDELIVERED and keep their places (R129). -/
def loseBehind (id : StationId) (queue : List OutMail) : List OutMail :=
  match queue with
  | [] => []
  | head :: rest =>
    head :: rest.map fun m =>
      if m.destination = id && m.outcome.isNone then { m with outcome := some .undelivered } else m

/-- The filter entry of an ID is cleared, unless it was stored at this count (R132). -/
def clearFilter (id : StationId) (mu : MailUnit) : MailUnit :=
  if mu.storedNow = some id then mu else { mu with filter := mu.filter.set id.val none }

/-- MC has changed the roster entry of an ID to ABSENT or LOST: the filter entry is cleared and mail for that ID ends
or, in flight, is marked destination lost and made not returnable (R129, R132). -/
def destinationGone (id : StationId) (s : State) : State :=
  let s := mapMu (fun mu => { clearFilter id mu with queue := loseBehind id mu.queue }) s
  match s.mu.queue with
  | [] => s
  | head :: _ =>
    if head.destination = id && head.outcome.isNone then
      if s.mu.inFlight then
        emptySlot .mail (mapMu (fun mu => { mu with queue := mapHead (fun m => { m with destLost := true }) mu.queue }) s)
      else finishHead .undelivered s
    else s

/-- Store a mail in A if A is free, otherwise in B, marking which arrived later (R131, case 2). That a store counts as one of
the count only where the count delivered a mail, and not where the command is given from outside, is the model's choice (R132,
log 38). -/
def storeMail (mail : InMail) (mu : MailUnit) : MailUnit :=
  let mu := { mu with
    filter := mu.filter.set mail.source.val (some mail.ticket)
    storedNow := if mu.storeDue then some mail.source else mu.storedNow
    storeDue := false }
  if mu.bufA.isNone then { mu with bufA := some mail, aLater := true }
  else { mu with bufB := some mail, aLater := false }

/-- The earlier-arrived full buffer, and MU with it freed (R133). -/
def takeEarlier (mu : MailUnit) : Option (InMail × MailUnit) :=
  match mu.bufA, mu.bufB with
  | some a, some b =>
    if mu.aLater then some (b, { mu with bufB := none }) else some (a, { mu with bufA := none })
  | some a, none => some (a, { mu with bufA := none })
  | none, some b => some (b, { mu with bufB := none })
  | none, none => none

/-- MU discards its outbound queue, receipts, retry and duplicate filter, and the MAIL slot is emptied; inbound buffers,
overflow indication and ticket counter are kept (R134). That the filter entry of a mail stored on the same count is cleared
too is the model's choice (R132, log 35). -/
def leaveMu (s : State) : State :=
  emptySlot .mail (mapMu (fun mu =>
    { mu with
      queue := []
      inFlight := false
      retryDue := false
      receipts := []
      filter := Vector.replicate 32 none }) s)

end Sys2Proof.Machine
end

