-- ==== Sys2Proof/Machine/RosterOps.lean ====
section
/-! DEFINITION. Operations over the roster and the epoch record (chapters 2 to 4), and the frames MC fills. -/

namespace Sys2Proof.Machine

/-! ### Reports and the own entry (R29, R36) -/

/-- The phase error as a STATUS carries it: 0 without a measurement and in the role REFERENCE (R29). -/
def reportedError (s : State) : Byte :=
  if s.mc.role = .reference then 0 else saturatedByte (s.tb.phaseError.getD 0)

/-- The report flags the station would send now (R29). -/
def ownReport (s : State) : Report :=
  { lock := s.tb.lock, active := s.pcu.output == .active, tripped := s.tc.trip != .armed, role := s.mc.role }

/-- The STATUS the station would send now (R29). -/
def ownStatus (s : State) : StatusReport :=
  { epoch := s.tb.epoch, report := ownReport s, phaseError := reportedError s }

/-- The own entry's state mirrors the station state (R36). -/
def mirroredState : StationState → EntryState
  | .joining => .joining
  | .member => .member
  | .leaving => .leaving
  | _ => .absent

/-- The own entry, computed (R36). -/
def ownEntry (s : State) : RosterEntry :=
  { state := mirroredState s.mc.station
    silence := 0
    lastHeard := s.tb.epoch
    report := if slotState s.mc.station then some (ownReport s) else none
    phaseError := if slotState s.mc.station then some (reportedError s) else none }

/-- A roster entry as the station holds it, its own included (R36). -/
def rosterEntry (s : State) (id : StationId) : RosterEntry := if id = s.sid then ownEntry s else s.mc.roster[id.val]

/-! ### Changing entries -/

/-- Change the entry of an ID. The own entry is not changed by frames, boundaries or masks (R36). -/
def mapEntry (id : StationId) (f : RosterEntry → RosterEntry) (s : State) : State :=
  if id = s.sid then s
  else mapMc (fun mc => { mc with roster := mc.roster.set id.val (f mc.roster[id.val]) }) s

/-- Give an entry a state. A change to LOST posts PEER_LOST (R41); a change to ABSENT or LOST is told to MU (R129,
R132); a change to MEMBER sets the silence count to 0 when `fresh` (R41). -/
def setEntryState (id : StationId) (state : EntryState) (fresh : Bool) (s : State) : State :=
  if id = s.sid then s
  else
    let old := s.mc.roster[id.val]
    if old.state = state then s
    else
      let s := mapEntry id (fun e => { e with state := state, silence := if fresh then 0 else e.silence }) s
      let s := postIf (state == .lost) .peerLost s
      if state = .absent || state = .lost then destinationGone id s else s

/-- Do something for every ID, lowest first. -/
def forEachId (f : StationId → State → State) (s : State) : State := (List.finRange 32).foldl (fun s i => f i s) s

/-- LC reports the source of a good frame (R37): in an on-line state its silence count becomes 0 and its last heard
epoch the current one. -/
def sourceReport (src : StationId) (s : State) : State :=
  if onLineState s.mc.station then mapEntry src (fun e => { e with silence := 0, lastHeard := s.tb.epoch }) s else s

/-- One entry is counted for silence: MEMBER and LEAVING entries count up, and at LOSS_EPOCHS become LOST (R40). -/
def countSilenceOf (lossEpochs : Nat) (id : StationId) (s : State) : State :=
  if id = s.sid then s
  else
    let e := s.mc.roster[id.val]
    if e.state = .member || e.state = .leaving then
      let s := mapEntry id (fun e => { e with silence := e.silence + 1 }) s
      if lossEpochs ≤ e.silence + 1 then setEntryState id .lost false s else s
    else s

/-- Silence counting at an epoch boundary (R40). -/
def countSilence (lossEpochs : Nat) (s : State) : State :=
  if groupState s.mc.station then forEachId (countSilenceOf lossEpochs) s else s

/-- The state an adopted mask gives an entry (R41). -/
def adoptedState (member : Bool) (old : EntryState) : EntryState :=
  if member then .member
  else
    match old with
    | .absent => .absent
    | .joining => .joining
    | .member => .lost
    | .leaving => .absent
    | .lost => .lost

/-- A mask is adopted in the roster (R41). The sender of a handover beacon that leaves itself out becomes ABSENT. -/
def adoptMask (mask : MemberMask) (handoverFrom : Option StationId) (s : State) : State :=
  forEachId (fun id s =>
    let old := (s.mc.roster[id.val]).state
    let new := if handoverFrom = some id && !inMask mask id then .absent else adoptedState (inMask mask id) old
    setEntryState id new (new == .member) s) s

/-- The next mask: the IDs whose entries are MEMBER or JOINING, the own entry by its mirrored state (R48). -/
def buildMask (s : State) : MemberMask :=
  maskOf fun id =>
    match (rosterEntry s id).state with
    | .member | .joining => true
    | _ => false

/-! ### Frames MC fills (R23, R29, R49) -/

/-- A BEACON of the station's own; its time fields are written at the marker (R49, R112). -/
def beaconFrame (cfg : ConfigRecord) (mask : MemberMask) (handover : Bool) : Beacon :=
  { epoch := 0, carrier := 0, position := 0, period := BitVec.ofNat 16 cfg.period, mode := cfg.mode,
    length := cfg.length, handover := handover, mask := mask }

/-- Fill the BEACON slot; the beacon is bound by the deadline (R50). -/
def fillBeacon (cfg : ConfigRecord) (mask : MemberMask) (handover : Bool) (s : State) : State :=
  mapMc (fun mc => { mc with beaconDeadline := true }) (fillSlot (.beacon (beaconFrame cfg mask handover)) s)

/-- MC removes a beacon of its own that waits in the BEACON slot; its deadline goes with it. -/
def removeBeacon (s : State) : State :=
  mapMc (fun mc => { mc with beaconDeadline := false }) (emptySlot .beacon s)

/-- Fill the JOIN slot with the station's own geometry (R23). -/
def fillJoin (s : State) : State :=
  match s.config with
  | none => s
  | some cfg =>
    fillSlot (.join { period := BitVec.ofNat 16 cfg.period, mode := cfg.mode, length := cfg.length })
      (mapMc (fun mc => { mc with joinRefillDue := false }) s)

/-- Fill the LEAVE slot (R31, R32). -/
def fillLeave (s : State) : State := fillSlot .leave s

/-- Fill the STATUS slot and record the fill, once an epoch, at a carrier index not below the own rank modulo E (R29). -/
def fillStatus (carrier : Nat) (s : State) : State :=
  match s.config, s.mc.record with
  | some cfg, some record =>
    match record.slot with
    | some slot =>
      if slotState s.mc.station && !s.mc.statusFilled && slot.rank % epochCarriers cfg ≤ carrier then
        mapMc (fun mc => { mc with statusFilled := true }) (fillSlot (.status (ownStatus s)) s)
      else s
    | none => s
  | _, _ => s

/-! ### The epoch record and its target (R42, R62, R64) -/

/-- MC fills the epoch record. -/
def setRecord (record : Option EpochRecord) (s : State) : State := mapMc (fun mc => { mc with record := record }) s

/-- MC gives TB the record's target: as a place request, or as a migrate request when it differs from the one TB holds
(R42, R64). -/
def giveTarget (place : Bool) (s : State) : State :=
  match s.mc.record.bind (·.slot) with
  | none => s
  | some slot =>
    if place then placeTarget slot.target s
    else if slot.target = s.tb.target then s
    else migrateTarget slot.target s

/-- The record of the station as reference over a mask (R46, R47, R53). -/
def referenceRecord (cfg : ConfigRecord) (own : StationId) (epoch : EpochNumber) (mask : MemberMask) : EpochRecord :=
  { epoch := epoch
    mask := mask
    reference := some own
    slot := if inMask mask own then some (slotIn cfg mask own) else none
    handover := false }

/-- Whether a new mask differs from that of the record replaced; an empty record differs from any mask (R44). -/
def maskChanged (old : Option EpochRecord) (mask : MemberMask) : Bool := old.map (·.mask) != some mask

end Sys2Proof.Machine
end

