-- ==== Sys2Proof/Machine/MemberOps.lean ====
section
/-! DEFINITION. Operations of the Membership Controller (chapters 2 and 3): leaving the line, joining, elections, founding,
beacon acceptance and the epoch boundary. -/

namespace Sys2Proof.Machine

/-! ### Station state and role -/

/-- MC changes the station state; PCU sees it at the same count (R19). -/
def setStation (station : StationState) (s : State) : State := regate (mapMc (fun mc => { mc with station := station }) s)

/-- MC changes the role (R20). -/
def setRole (role : Role) (s : State) : State := mapMc (fun mc => { mc with role := role }) s

/-! ### Leaving the line (R33) -/

/-- A frame of MC's own on the line: its outcome is discarded from now on (R21, R33). -/
def staleOwn (own : Option OwnFrame) : Option OwnFrame :=
  own.map fun o =>
    match frameKind o.frame with
    | .trip | .mail => o
    | _ => { o with stale := true }

/-- MC removes the frames waiting in its slots, but for a LEAVE kept by R28 (R33). -/
def emptyMcSlots (keepLeave : Bool) (s : State) : State :=
  let s := emptySlot .status (emptySlot .join (removeBeacon s))
  let s := if keepLeave then s else emptySlot .leave s
  mapLc (fun lc => { lc with onLine := staleOwn lc.onLine }) s

/-- MC's state on leaving the line for a station state (R33, R45). -/
def leftMembership (to_ : StationState) (mc : Membership) : Membership :=
  { mc with
    station := to_
    role := .none
    roster := Vector.replicate 32 RosterEntry.blank
    record := none
    joinAttempts := 0
    leaveAttempts := 0
    joinRefillDue := false
    admission := { accepted := false, boundaries := 0 }
    leaveAcked := false
    statusFilled := false
    election := none
    listenTimer := none
    beaconDeadline := false }

/-- Leaving the line: MC empties its record, roster, counters and slots; PCU, MU and TB are told (R33, R18, R90, R134). -/
def leaveLine (keepLeave : Bool) (to_ : StationState) (s : State) : State :=
  freeTb (leaveMu (leavePcu (mapMc (leftMembership to_) (emptyMcSlots keepLeave s))))

/-- Entry to LISTENING: MC's slots are emptied and the listen timer starts from 0 (R21, R22). -/
def startListening (s : State) : State :=
  setStation .listening (mapMc (fun mc => { mc with listenTimer := some 0 }) (emptyMcSlots false s))

/-- The join sequence fails: CONFIGURED with every effect of leaving the line, JOIN_FAILED, and START taken of its own
accord (R25). -/
def joinFails (s : State) : State := startListening (post .joinFailed (leaveLine false .configured s))

/-- A try counts: the join attempt counter goes up, the sequence fails at 4, and otherwise goes on (R25, R26). -/
def countTry (goOn : State → State) (s : State) : State :=
  let s := mapMc (fun mc => { mc with joinAttempts := mc.joinAttempts + 1 }) s
  if 4 ≤ s.mc.joinAttempts then joinFails s else goOn s

/-- The end of a leave: CONFIGURED with every effect of leaving the line, and LEFT (R32, R59, R60). -/
def leaveDone (s : State) : State := post .left (leaveLine false .configured s)

/-- Entry to MISMATCH: leaving the line, every slot emptied, the transmitter off, MISMATCH (R23, R34, R120). -/
def enterMismatch (s : State) : State :=
  post .mismatch (transmitterOff (emptyAllSlots (leaveLine false .mismatch s)))

/-- The failure count has reached 16: the transmitter is turned off and every slot emptied, and MC enters ISOLATED; from
an on-line state that is leaving the line (R119, R34, log 15). -/
def isolate (s : State) : State :=
  let s := emptyAllSlots (transmitterOff s)
  match s.mc.station with
  | .listening | .joining | .member | .leaving => post .isolated (leaveLine false .isolated s)
  | .configured | .conflict => post .isolated (setStation .isolated s)
  | .unconfigured | .isolated | .mismatch => s

/-! ### Elections (R51 to R54) -/

/-- The candidate rank and count from a mask with the old reference's ID taken out (R51). -/
def standingIn (mask : MemberMask) (old : Option StationId) (own : StationId) : Standing :=
  let left := match old with
    | some r => maskWithout mask r
    | none => mask
  { rank := maskRank left own, count := maskSize left }

/-- TB's two-miss notice reaches MC: in an on-line state with no election in progress an election starts; the old
reference's entry becomes LOST, and a MEMBER FOLLOWER stands (R51). -/
def startElection (s : State) : State :=
  if onLineState s.mc.station && s.mc.election.isNone then
    let old := s.mc.record.bind (·.reference)
    let s := match old with
      | some r => setEntryState r .lost false s
      | none => s
    if s.mc.station = .member && s.mc.role = .follower then
      mapMc (fun mc =>
        { mc with
          role := .candidate
          election := some
            { carriers := 0
              standing := mc.record.map fun record => standingIn record.mask old s.sid } }) s
    else mapMc (fun mc => { mc with election := some { carriers := 0, standing := none } }) s
  else s

/-- An election in progress ends, and a candidacy with it: the role becomes FOLLOWER and a waiting beacon is removed
(R44 step 6, R54). -/
def endElection (s : State) : State :=
  let s := if s.mc.election.isSome || s.mc.role = .candidate then removeBeacon s else s
  let s := if s.mc.role = .candidate then setRole .follower s else s
  mapMc (fun mc => { mc with election := none }) s

/-- A LEAVE command at a MEMBER that is not the reference: LEAVING as a follower, any candidacy and its waiting beacon
gone while the election goes on, the leave counter and mark cleared, and a LEAVE filled (R31, R54). That a candidate's beacon
past arbitration does nothing by its later success is the model's choice (log 32). -/
def leaveAsFollower (s : State) : State :=
  let s := if s.mc.role = .candidate then removeBeacon s else s
  fillLeave (setStation .leaving (mapMc (fun mc =>
    { mc with
      role := .follower
      election := mc.election.map fun e => { e with standing := none }
      leaveAttempts := 0
      leaveAcked := false }) s))

/-! ### Founding (R46) -/

/-- A LISTENING station founds a group (R46, R13, R15). -/
def found (cfg : ConfigRecord) (s : State) : State :=
  let mask := maskSingle s.sid
  let s := mapMc (fun mc => { mc with listenTimer := none }) s
  let s := setRole .reference (setStation .member s)
  let s := setRecord (some (referenceRecord cfg s.sid 0 mask)) s
  let s := adoptMask mask none s
  let s := giveTarget true (lockAsReference (setEpoch 0 s))
  let s := fillBeacon cfg mask false s
  post .membership (post .joined s)

/-! ### Beacon acceptance (R43, R44) -/

/-- Whether a beacon with matching geometry is accepted outside LISTENING (R43). -/
def acceptsBeacon (src : StationId) (s : State) : Bool :=
  match s.mc.station with
  | .joining | .member | .leaving =>
    if s.mc.role = .reference then src < s.sid
    else
      match s.mc.record with
      | none => true
      | some record =>
        s.mc.election.isSome ||
          match record.reference with
          | none => true
          | some r => src == r || src < r
  | _ => false

/-- Whether an accepted beacon admits the station: JOINING, a try of this sequence accepted, own ID in the mask (R26). -/
def admits (b : Beacon) (s : State) : Bool :=
  s.mc.station == .joining && s.mc.admission.accepted && inMask b.mask s.sid

/-- Whether the station holds a slot under an accepted beacon: own ID in the mask, and MEMBER, LEAVING or admitted (R44). -/
def slotUnder (b : Beacon) (s : State) : Bool := inMask b.mask s.sid && (slotState s.mc.station || admits b s)

/-- The reference ID an accepted beacon gives (R44 step 2, R61). That R61 goes before R57 where a reference yields to a handover
beacon is the model's choice (log 33). -/
def acceptedReference (src : StationId) (b : Beacon) (s : State) : Option StationId :=
  if b.handover then
    if lowestId b.mask = some s.sid && !slotUnder b s then lowestOther b.mask s.sid else lowestId b.mask
  else if src = s.sid then none
  else some src

/-- The record an accepted beacon gives; a handover beacon with an empty mask empties it (R44 steps 1 and 2). -/
def acceptedRecord (cfg : ConfigRecord) (src : StationId) (b : Beacon) (s : State) : Option EpochRecord :=
  if b.handover && maskSize b.mask = 0 then none
  else
    some
      { epoch := b.epoch
        mask := b.mask
        reference := acceptedReference src b s
        slot := if slotUnder b s then some (slotIn cfg b.mask s.sid) else none
        handover := b.handover }

/-- Whether an accepted handover beacon gives the station the reference role (R61). -/
def takesRole (b : Beacon) (s : State) : Bool := b.handover && lowestId b.mask == some s.sid && slotUnder b s

/-- Entry to JOINING: the join attempt counter and the admission wait are cleared and a JOIN is filled (R23, R26, R30). -/
def enterJoining (s : State) : State :=
  fillJoin (setStation .joining (mapMc (fun mc =>
    { mc with
      joinAttempts := 0
      admission := { accepted := false, boundaries := 0 }
      listenTimer := none }) s))

/-- Admission (R26): MEMBER, a JOIN still waiting removed, JOINED posted. The role and the placement are given before. -/
def takeAdmission (s : State) : State :=
  post .joined (emptySlot .join (setStation .member (mapMc (fun mc =>
    { mc with
      joinAttempts := 0
      joinRefillDue := false
      admission := { accepted := false, boundaries := 0 } }) s)))

/-- Displacement (R30): JOINING with role NONE, own beacon removed, JOIN filled, DISPLACED posted. -/
def displace (s : State) : State := post .displaced (enterJoining (setRole .none (removeBeacon s)))

/-- A LEAVING reference that yields with its ID in the mask goes on as a LEAVING follower: its counter and mark are
cleared and a LEAVE is filled (R57). -/
def resumeLeave (s : State) : State :=
  fillLeave (mapMc (fun mc => { mc with leaveAttempts := 0, leaveAcked := false }) s)

/-- The station-state changes of an accepted beacon (R44 step 7): `before` is the state and `yielded` whether the station was
reference when the beacon was delivered. That a LEAVE waiting in its slot stays there when a LEAVING follower takes the role
is the model's choice (R61, log 25), and so is that R61's counter, which runs on, goes before R57's where a LEAVING reference
takes the role by the beacon it yields to (log 33). -/
def acceptState (before : StationState) (admitted yielded : Bool) (b : Beacon) (s : State) : State :=
  match before with
  | .listening => enterJoining s
  | .joining => if admitted then takeAdmission s else s
  | .member => if inMask b.mask s.sid then s else displace s
  | .leaving =>
    if inMask b.mask s.sid then (if yielded && s.mc.role != .reference then resumeLeave s else s) else leaveDone s
  | _ => s

/-- Accepting a beacon, in the order of R44; a reference has yielded first, and posts REFERENCE_CHANGED whatever reference ID
its record then has (R57, R61). That the sample of a beacon that gives the role is dropped is the model's choice (log 25). -/
def acceptBeacon (cfg : ConfigRecord) (src : StationId) (b : Beacon) (s : State) : State :=
  let before := s.mc.station
  let yielded := s.mc.role = .reference
  let oldRecord := s.mc.record
  let oldReference := oldRecord.bind (·.reference)
  let admitted := admits b s
  let newRecord := acceptedRecord cfg src b s
  let takes := takesRole b s
  let s := if yielded then setRole .follower (removeBeacon s) else s
  let s := setRecord newRecord s
  let s := if takes then setRole .reference s else if admitted then setRole .follower s else s
  let s := adoptMask b.mask (if b.handover then some src else none) s
  let s := giveTarget admitted s
  let s := if takes then dropSample (lockAsReference s) else measureBeacon b s
  let s := endElection s
  let s := acceptState before admitted yielded b s
  let s := postIf (yielded || newRecord.bind (·.reference) != oldReference) .referenceChanged s
  postIf (maskChanged oldRecord b.mask) .membership s

/-- A BEACON is delivered to MC (R19, R23, R43, R57). Off line it is discarded. A LISTENING station accepts a matching
geometry and enters MISMATCH at any other. A reference that hears its own ID posts CONFLICT_SEEN. A beacon that is not
accepted leaves TB to discard its sample. -/
def deliverBeacon (src : StationId) (b : Beacon) (s : State) : State :=
  match s.config with
  | none => dropSample s
  | some cfg =>
    let matching := sameGeometry cfg b.period b.mode b.length
    if s.mc.station = .listening then
      if matching then acceptBeacon cfg src b s else enterMismatch (dropSample s)
    else if matching && acceptsBeacon src s then acceptBeacon cfg src b s
    else
      postIf (s.mc.role == .reference && src == s.sid && onLineState s.mc.station) .conflictSeen (dropSample s)

/-! ### Outcomes of MC's own frames (R25, R32, R53, R60) -/

/-- A completed JOIN try: refused, accepted or unanswered (R25, R26, R27). -/
def joinOutcome (ack refuse : Bool) (s : State) : State :=
  if s.mc.station = .joining then
    if refuse then post .conflict (leaveLine false .conflict s)
    else if ack then mapMc (fun mc => { mc with admission := { accepted := true, boundaries := 0 } }) s
    else countTry (mapMc fun mc => { mc with joinRefillDue := true }) s
  else s

/-- A completed LEAVE with the acknowledge bit set is acknowledged (R32). -/
def leaveOutcome (ack : Bool) (s : State) : State :=
  if s.mc.station = .leaving && s.mc.role != .reference && ack then
    mapMc (fun mc => { mc with leaveAcked := true }) s
  else s

/-- A candidate's beacon has been sent: the station becomes reference with the mask it carried (R53). That a peer in that mask
whose entry became LOST after the fill becomes MEMBER, as R41 has it for a LOST entry in an adopted mask, is the model's choice,
where R53 says that LOST entries stay LOST (log 42). -/
def becomeReference (cfg : ConfigRecord) (b : Beacon) (s : State) : State :=
  let oldRecord := s.mc.record
  let oldReference := oldRecord.bind (·.reference)
  let s := setRole .reference s
  let s := setRecord (some (referenceRecord cfg s.sid b.epoch b.mask)) s
  let s := adoptMask b.mask none s
  let s := lockAsReference (giveTarget false s)
  let s := mapMc (fun mc => { mc with election := none }) s
  let s := postIf (some s.sid != oldReference) .referenceChanged s
  postIf (maskChanged oldRecord b.mask) .membership s

/-- A completed BEACON of the station's own: a candidate becomes reference, a handover ends, and a reference's beacon has
been sent with no further action (R49, R53, R60). That the beacon of one that is a candidate no longer does nothing is the
model's choice (R54, log 32). -/
def beaconSent (b : Beacon) (s : State) : State :=
  match s.config with
  | none => s
  | some cfg =>
    if s.mc.role = .candidate then becomeReference cfg b s
    else if s.mc.role = .reference && s.mc.station = .leaving && b.handover then leaveDone s
    else s

/-! ### Shared carrier starts (R22, R51, R52) -/

/-- The listen timer and an election count a shared carrier start (R22, R51). -/
def countCarrier (mc : Membership) : Membership :=
  { mc with
    listenTimer := mc.listenTimer.map (· + 1)
    election := mc.election.map fun e => { e with carriers := e.carriers + 1 } }

/-- The carriers at which the listen timer expires (R22). -/
def listenLimit (cfg : ConfigRecord) (id : StationId) : Nat := cfg.listenEpochs * epochCarriers cfg + 2 * id.val

/-- Whether the listen timer of a LISTENING station has counted its carriers (R22). -/
def listenEnds (cfg : ConfigRecord) (s : State) : Bool :=
  s.mc.station == .listening && s.mc.listenTimer == some (listenLimit cfg s.sid)

/-- Whether a count of carriers is a fill point of a standing: 2 + 2r + 2N × j (R52). -/
def isFillPoint (standing : Standing) (carriers : Nat) : Bool :=
  2 + 2 * standing.rank ≤ carriers && (carriers - (2 + 2 * standing.rank)) % (2 * standing.count) == 0

/-- Whether a fill point falls on the shared carrier start just counted (R52). -/
def fillPointNow (mc : Membership) : Bool :=
  match mc.election with
  | none => false
  | some e =>
    match e.standing with
    | none => false
    | some standing => isFillPoint standing e.carriers

/-- A candidate builds a mask from its roster and fills a beacon (R52). -/
def candidateFill (cfg : ConfigRecord) (s : State) : State :=
  if s.mc.role = .candidate then fillBeacon cfg (buildMask s) false s else s

/-! ### The epoch boundary (R2, R25, R26, R32, R40, R47, R52, R59) -/

/-- The reference's duties at a boundary: the next mask is built and adopted, the record filled, the target given and the
beacon of the new epoch filled (R47, R48). -/
def referenceBoundary (cfg : ConfigRecord) (s : State) : State :=
  let mask := buildMask s
  let oldRecord := s.mc.record
  let s := adoptMask mask none s
  let s := setRecord (some (referenceRecord cfg s.sid s.tb.epoch mask)) s
  let s := postIf (maskChanged oldRecord mask) .membership (giveTarget false s)
  fillBeacon cfg mask false s

/-- A LEAVING reference at a boundary: the fourth forces the exit; before it the record's epoch is renewed and a handover
beacon filled (R59). -/
def handoverBoundary (cfg : ConfigRecord) (s : State) : State :=
  let s := mapMc (fun mc => { mc with leaveAttempts := mc.leaveAttempts + 1 }) s
  if 4 ≤ s.mc.leaveAttempts then leaveDone s
  else
    let mask := buildMask s
    let s := mapMc (fun mc => { mc with record := mc.record.map fun r => { r with epoch := s.tb.epoch } }) s
    fillBeacon cfg mask true s

/-- A LEAVING follower at a boundary: the fourth forces the exit; before it an unacknowledged LEAVE is filled again
(R32). -/
def leaveBoundary (s : State) : State :=
  let s := mapMc (fun mc => { mc with leaveAttempts := mc.leaveAttempts + 1 }) s
  if 4 ≤ s.mc.leaveAttempts then leaveDone s
  else if s.mc.leaveAcked then s
  else fillLeave s

/-- The admission wait counts a boundary; the second without admission counts the try and refills a JOIN (R26). -/
def waitBoundary (s : State) : State :=
  if s.mc.admission.accepted && s.mc.admission.boundaries < 2 then
    let s := mapMc (fun mc => { mc with admission := { mc.admission with boundaries := mc.admission.boundaries + 1 } }) s
    if s.mc.admission.boundaries = 2 then countTry fillJoin s else s
  else s

/-- A JOINING station at a boundary: an unanswered JOIN is refilled, and the admission wait counts (R25, R26). -/
def joinBoundary (s : State) : State :=
  waitBoundary (if s.mc.joinRefillDue then fillJoin s else s)

/-- A MEMBER at a boundary: the reference's duties, or a candidate's fill where a fill point falls on it (R47, R52). -/
def memberBoundary (cfg : ConfigRecord) (s : State) : State :=
  if s.mc.role = .reference then referenceBoundary cfg s else if fillPointNow s.mc then candidateFill cfg s else s

/-- The epoch boundary TB hands MC (R25, R26, R29, R32, R40, R47, R52, R59): silence is counted first and the STATUS fill
comes last. -/
def boundaryMc (cfg : ConfigRecord) (s : State) : State :=
  let s := mapMc (fun mc => { mc with statusFilled := false }) s
  let s := countSilence cfg.lossEpochs s
  let s := match s.mc.station with
    | .joining => joinBoundary s
    | .member => memberBoundary cfg s
    | .leaving => if s.mc.role = .reference then handoverBoundary cfg s else leaveBoundary s
    | _ => s
  fillStatus 0 s

end Sys2Proof.Machine
end

