-- ==== Sys2Proof/Machine/Records.lean ====
section
/-! DEFINITION. The payloads of local-port commands, checked (R139, R148), and the records that responses return (10.4). -/

namespace Sys2Proof.Machine

/-! ### Command payloads (10.3, R139, R148) -/

/-- The carrier mode of a LOAD_CONFIG mode code: 1 EDGE, 2 CENTRE, 0 and 3 refused. -/
def modeOfConfigCode (c : BitVec 2) : Option CarrierMode :=
  if c = 1 then some .edge else if c = 2 then some .centre else none

/-- The mode code of a carrier mode in the configuration record. -/
def configModeCode : CarrierMode → BitVec 2
  | .edge => 1
  | .centre => 2

/-- Whether every field of a configuration record lies in its accepted values (R139). -/
def validConfig (cfg : ConfigRecord) : Bool :=
  (match cfg.mode with
    | .edge => 1200 ≤ cfg.period && cfg.period ≤ 65535
    | .centre => 600 ≤ cfg.period && cfg.period ≤ 32767) &&
  8 * cfg.deadTime ≤ carrierLength cfg && cfg.deadTime ≤ 255 &&
  1 ≤ cfg.slewMax && cfg.slewMax ≤ 255 &&
  1 ≤ cfg.window && cfg.window ≤ 255 &&
  1 ≤ cfg.holdoverEpochs && cfg.holdoverEpochs ≤ 8 &&
  2 ≤ cfg.lossEpochs && cfg.lossEpochs ≤ 8 &&
  1 ≤ cfg.listenEpochs && cfg.listenEpochs ≤ 8 &&
  cfg.lineDelay ≤ 255

/-- The configuration record that a LOAD_CONFIG payload carries, if its length and every field pass (R139, R148). -/
def configOfBytes : List Byte → Option ConfigRecord
  | [flags, p1, p0, d, slew, w, h, loss, listen, delay] =>
    match modeOfConfigCode (flags.extractLsb' 6 2) with
    | none => none
    | some mode =>
      if flags.getLsbD 5 then none
      else
        let cfg : ConfigRecord :=
          { mode := mode
            period := (wordOf p1 p0).toNat
            length := lengthOfCode (flags.extractLsb' 3 2)
            deadTime := d.toNat
            slewMax := slew.toNat
            window := w.toNat
            holdoverEpochs := h.toNat
            lossEpochs := loss.toNat
            listenEpochs := listen.toNat
            lineDelay := delay.toNat
            polHigh := flags.getLsbD 2
            polLow := flags.getLsbD 1
            applyAtPeak := flags.getLsbD 0 }
        if validConfig cfg then some cfg else none
  | _ => none

/-- A count as one byte. -/
def natByte (n : Nat) : Byte := BitVec.ofNat 8 n

/-- The configuration record in the layout of LOAD_CONFIG (10.3, R140). -/
def configBytes (cfg : ConfigRecord) : List Byte :=
  [(configModeCode cfg.mode ++ 0#1 ++ lengthCode cfg.length ++ BitVec.ofBool cfg.polHigh ++ BitVec.ofBool cfg.polLow ++
      BitVec.ofBool cfg.applyAtPeak : Byte)] ++ natWordBytes cfg.period ++
    [natByte cfg.deadTime, natByte cfg.slewMax, natByte cfg.window, natByte cfg.holdoverEpochs, natByte cfg.lossEpochs,
      natByte cfg.listenEpochs, natByte cfg.lineDelay]

/-- One channel setting of a SET_DUTY payload: one of the four modes and a compare value from 0 to P (R73). -/
def settingOfBytes (period : Nat) (mode c1 c0 : Byte) : Option ChannelSetting :=
  match channelModeOfCode mode with
  | none => none
  | some m => if (wordOf c1 c0).toNat ≤ period then some { mode := m, compare := (wordOf c1 c0).toNat } else none

/-- The three channel settings of a SET_DUTY payload, if all pass (R73). -/
def settingsOfBytes (period : Nat) (m0 u1 u0 m1 v1 v0 m2 w1 w0 : Byte) : Option DutySettings :=
  match settingOfBytes period m0 u1 u0, settingOfBytes period m1 v1 v0, settingOfBytes period m2 w1 w0 with
  | some u, some v, some w => some { u := u, v := v, w := w }
  | _, _, _ => none

/-- The duty record of a SET_DUTY payload: untimed with 9 bytes, timed with 11 (R148). -/
def dutyOfBytes (period : Nat) : List Byte → Option (DutySettings × Option EpochNumber)
  | [m0, u1, u0, m1, v1, v0, m2, w1, w0] =>
    (settingsOfBytes period m0 u1 u0 m1 v1 v0 m2 w1 w0).map fun d => (d, none)
  | [m0, u1, u0, m1, v1, v0, m2, w1, w0, e1, e0] =>
    (settingsOfBytes period m0 u1 u0 m1 v1 v0 m2 w1 w0).map fun d => (d, some (wordOf e1 e0))
  | _ => none

/-! ### Records returned (10.4) -/

/-- A bit of a flags byte. -/
def flag (b : Bool) : BitVec 1 := BitVec.ofBool b

/-- The 24-bit value of an event set: bit 23 is no event (10.4). -/
def eventBytes (e : EventSet) : List Byte := tripleBytes (e.setWidth 24)

/-- TB's bytes 3 to 11 of the status record; 0 while TB stands still (10.4). -/
def statusTbBytes (s : State) : List Byte :=
  if running s then
    wordBytes s.tb.epoch ++ [natByte s.tb.carrier] ++ natWordBytes s.tb.position ++ natWordBytes s.tb.current ++
      natWordBytes s.tb.target
  else List.replicate 9 0

/-- The transmit slots byte: bit n for the slot of kind code n (10.4). -/
def slotsByte (slots : TxSlots) : Byte :=
  0#1 ++ flag slots.mail.isSome ++ flag slots.status.isSome ++ flag slots.leave.isSome ++ flag slots.join.isSome ++
    0#1 ++ flag slots.beacon.isSome ++ flag slots.trip.isSome

/-- The kind code of the own frame on the line, 0 without one (10.4). -/
def onLineByte (own : Option OwnFrame) : Byte :=
  match own with
  | none => 0
  | some o => natByte (kindCode (frameKind o.frame))

/-- The head of the outbound queue is complete and blocked: the receipt list is full (R134). -/
def headBlocked (mu : MailUnit) : Bool :=
  match mu.queue with
  | [] => false
  | head :: _ => head.outcome.isSome && 4 ≤ mu.receipts.length

/-- The attempts of the head; 0 when the queue is empty (10.4). -/
def headAttempts (mu : MailUnit) : Nat :=
  match mu.queue with
  | [] => 0
  | head :: _ => head.attempts

/-- The apply epoch of the first timed record; 0 when the list is empty (10.4). -/
def firstTimed (pcu : ChannelUnit) : EpochNumber :=
  match pcu.timed with
  | [] => 0
  | r :: _ => r.epoch

/-- The status record of READ_STATUS, 29 bytes (10.4, R140). -/
def statusRecord (s : State) : List Byte :=
  [idByte s.sid,
    (stationCode s.mc.station ++ roleCode s.mc.role ++ 0#2 : Byte),
    (flag (running s) ++ lockCode s.tb.lock ++ flag (s.tb.current != s.tb.target) ++ 0#4 : Byte)] ++
  statusTbBytes s ++
  [(outputCode s.pcu.output ++ flag s.pcu.run ++ flag s.pcu.hasApplied ++ flag s.pcu.pendingDuty.isSome ++
      flag s.pcu.due.isSome ++ 0#2 : Byte),
    natByte s.pcu.timed.length] ++
  wordBytes (firstTimed s.pcu) ++
  [(0#6 ++ tripCode s.tc.trip : Byte),
    (flag s.lc.txOn ++ flag s.lc.lineActive ++ flag s.lc.onLine.isSome ++ BitVec.ofNat 5 s.lc.failures : Byte),
    slotsByte s.lc.slots,
    onLineByte s.lc.onLine,
    (BitVec.ofNat 3 s.mu.queue.length ++ flag (headBlocked s.mu) ++ BitVec.ofNat 2 (headAttempts s.mu) ++ 0#2 : Byte),
    (BitVec.ofNat 3 s.mu.receipts.length ++ flag s.mu.bufA.isSome ++ flag s.mu.bufB.isSome ++ flag s.mu.overflow ++
      0#2 : Byte),
    s.mu.ticket] ++
  eventBytes s.lp.events ++ eventBytes s.lp.mask

/-- The roster entry of READ_ROSTER, 7 bytes (10.4, R140). -/
def rosterRecord (s : State) (id : StationId) : List Byte :=
  let e := rosterEntry s id
  [idByte id, (flag e.report.isSome ++ flag e.phaseError.isSome ++ 0#3 ++ entryCode e.state : Byte), natByte e.silence] ++
    wordBytes e.lastHeard ++ [(e.report.map reportByte).getD 0, e.phaseError.getD 0]

/-- Bytes 0 to 11 of the epoch record; an empty record returns 0 (10.4, R140). -/
def epochRecordBytes : Option EpochRecord → List Byte
  | none => List.replicate 12 0
  | some r =>
    wordBytes r.epoch ++ maskBytes r.mask ++
      [natByte (maskSize r.mask),
        (match r.reference with
          | none => 0
          | some id => (1#1 ++ 0#2 ++ BitVec.ofNat 5 id.val : Byte))] ++
      (match r.slot with
        | none => [0, 0, 0]
        | some slot => (1#1 ++ 0#2 ++ BitVec.ofNat 5 slot.rank : Byte) :: natWordBytes slot.target) ++
      [(0#7 ++ flag r.handover : Byte)]

/-- The epoch record of READ_EPOCH, 15 bytes (10.4, R140). -/
def epochRecord (s : State) : List Byte :=
  epochRecordBytes s.mc.record ++ wordBytes s.tb.epoch ++ [(0#6 ++ lockCode s.tb.lock : Byte)]

/-- The trip record of READ_TRIP, 14 bytes (10.4, R103). -/
def tripRecord (s : State) : List Byte :=
  [(flag (tripnHigh s) ++ flag (drivesTripn s) ++ 0#4 ++ tripCode s.tc.trip : Byte),
    (0#1 ++ flag (lineCauseActive s) ++ 0#1 ++ flag (pinActive s) ++ 0#1 ++ flag s.tc.causes.line ++
      flag s.tc.causes.command ++ flag s.tc.causes.pin : Byte),
    (0#7 ++ flag s.tc.tripEpoch.isSome : Byte)] ++
  wordBytes (s.tc.tripEpoch.getD 0) ++ [natByte s.tc.origins.length] ++
  ((s.tc.origins.map idByte) ++ List.replicate 8 0).take 8

/-- The overflow indication byte of TAKE_MAIL (10.4). -/
def overflowByte (mu : MailUnit) : Byte := 0#7 ++ flag mu.overflow

/-- The mail taken, 5 to 12 bytes (10.4). -/
def mailTaken (overflow : Byte) (m : InMail) : List Byte :=
  [overflow, idByte m.source, m.ticket, natByte m.data.length] ++ m.data

/-- A receipt, 4 bytes (10.4). -/
def receiptBytes (r : Receipt) : List Byte :=
  [r.ticket, idByte r.destination, outcomeCode r.outcome, natByte r.attempts]

end Sys2Proof.Machine
end

