-- ==== Sys2Proof/Machine/PortCommands.lean ====
section
/-! DEFINITION. The meanings of HARDWARE_RESET and of the local port's commands and framing faults (chapter 9). Each
command is checked as R138 orders: the state, then the arguments, then its owner's own checks. -/

namespace Sys2Proof.Machine

open Host (Outcome)

/-- The outcome of a command taken in `s` that comes to `t`: with RESETN high it goes on with `t`, and with RESETN low no block
holds any state, so that the command does nothing (R95, R123, log 22). -/
def goes (s t : State) : Outcome State Fault Refusal := .next (if s.pins.resetn then t else s)

/-- The argument check of a command without payload (R138, R148). -/
def withoutPayload (payload : List Byte) (act : State → State) (s : State) : State :=
  if payload.isEmpty then act s else answer .badArg s

/-! ### HARDWARE_RESET -/

/-- HARDWARE_RESET: every block takes its values after hardware reset and the straps are sampled (R18, R45, R91, R107, R123,
R134, R146); FLTN low at the release latches PIN (R94, R107), and SELN low at it makes the framer wait for SELN high, while
the level of SCK is kept for its next edge (R135). The queue, the count and what the outside world puts on the other pins
stand. The command is the release of RESETN, which is high from then on (log 22). -/
def execHardwareReset (sid : StationId) (fltn : Bool) (s : State) : Outcome State Fault Refusal :=
  let fresh : State :=
    { State.reset with
      pending := s.pending, now := s.now, stimulus := s.stimulus, sid := sid
      pins := { s.pins with resetn := true, straps := sid, fltn := fltn }
      lp := LocalPort.released s.pins.seln s.pins.sck }
  .next (if fltn then fresh else latchCause .pin fresh)

/-! ### Configuration and membership commands -/

/-- An accepted configuration record: LP holds it, MC enters CONFIGURED, TB starts from (0, 0) and LC turns its
transmitter on; each stage runs on from request NONE in FORCE_OFF (R1, R21, R83, R120, R139). -/
def acceptConfig (cfg : ConfigRecord) (s : State) : State :=
  setStation .configured
    (mapLc (fun lc => { lc with txOn := true }) (mapTb (fun _ => TimeBase.reset) { s with config := some cfg }))

/-- LOAD_CONFIG (R139). -/
def execLoadConfig (payload : List Byte) (s : State) : Outcome State Fault Refusal :=
  goes s
    (if s.mc.station ≠ .unconfigured then answer .state s
    else
      match configOfBytes payload with
      | none => answer .badArg s
      | some cfg => answer .ok (acceptConfig cfg s))

/-- START (R21). -/
def execStart (payload : List Byte) (s : State) : Outcome State Fault Refusal :=
  goes s
    (if s.mc.station = .configured then withoutPayload payload (fun s => answer .accepted (startListening s)) s
    else answer .state s)

/-- The effect of a LEAVE command by state and role (R28, R31, R59). -/
def takeLeave (s : State) : State :=
  match s.mc.station with
  | .joining => post .left (leaveLine true .configured (fillLeave s))
  | .member =>
    if s.mc.role = .reference then setStation .leaving (mapMc (fun mc => { mc with leaveAcked := false }) s)
    else leaveAsFollower s
  | _ => s

/-- LEAVE (R31). -/
def execLeave (payload : List Byte) (s : State) : Outcome State Fault Refusal :=
  goes s
    (if groupState s.mc.station then withoutPayload payload (fun s => answer .accepted (takeLeave s)) s
    else answer .state s)

/-- LC on RESTART: all slots emptied, failure count 0, transmitter on; a frame on the line completes with its outcome
discarded (R118, R120, R123). -/
def restartLc (s : State) : State :=
  mapLc (fun lc =>
    { lc with txOn := true, failures := 0, onLine := lc.onLine.map fun o => { o with restarted := true } })
    (emptyAllSlots s)

/-- PCU on RESTART: as after hardware reset (R91). -/
def restartPcu (s : State) : State := mapPcu (fun _ => ChannelUnit.reset) s

/-- The effects of RESTART block by block (R141). -/
def restartAll (s : State) : State := restartLc (restartPcu (leaveLine false .configured s))

/-- RESTART (R35, R141). -/
def execRestart (payload : List Byte) (s : State) : Outcome State Fault Refusal :=
  goes s
    (if s.mc.station = .unconfigured then answer .state s
    else withoutPayload payload (fun s => answer .ok (restartAll s)) s)

/-! ### Duty commands -/

/-- The RUN flag is set or cleared and the output state follows (R86, R88). -/
def setRun (on : Bool) (s : State) : State := regate (mapPcu (fun p => { p with run := on }) s)

/-- RUN (R86). -/
def execRun (payload : List Byte) (s : State) : Outcome State Fault Refusal :=
  goes s
    (if s.mc.station = .unconfigured then answer .state s
    else withoutPayload payload (fun s => answer .ok (setRun true s)) s)

/-- HALT (R86). -/
def execHalt (payload : List Byte) (s : State) : Outcome State Fault Refusal :=
  goes s
    (if s.mc.station = .unconfigured then answer .state s
    else withoutPayload payload (fun s => answer .ok (setRun false s)) s)

/-- An untimed record is placed in the pending slot (R74). -/
def placeUntimed (d : DutySettings) (s : State) : State :=
  answer (if s.pcu.pendingDuty.isSome then .replaced else .ok) (mapPcu (fun p => { p with pendingDuty := some d }) s)

/-- A timed record that lies in the window acts on the timed duty list (R76). -/
def placeTimed (r : TimedDuty) (s : State) : State :=
  if s.pcu.timed.any fun h => h.epoch = r.epoch then
    answer .replaced (mapPcu (fun p => { p with timed := replaceTimed r p.timed }) s)
  else if 4 ≤ s.pcu.timed.length then answer .full s
  else answer .ok (mapPcu (fun p => { p with timed := insertTimed s.tb.epoch r p.timed }) s)

/-- A duty record whose settings pass: the check of its apply epoch, then its place (R73). -/
def placeDuty (d : DutySettings) (apply : Option EpochNumber) (s : State) : State :=
  match apply with
  | none => placeUntimed d s
  | some epoch =>
    let ahead := epochsAhead epoch s.tb.epoch
    if 1 ≤ ahead && ahead ≤ 255 then placeTimed { epoch := epoch, settings := d } s
    else if ahead = 0 || 32769 ≤ ahead then answer .late s
    else answer .badArg s

/-- SET_DUTY (R73). -/
def execSetDuty (payload : List Byte) (s : State) : Outcome State Fault Refusal :=
  goes s
    (match s.config with
    | none => answer .state s
    | some cfg =>
      if s.mc.station = .unconfigured then answer .state s
      else
        match dutyOfBytes cfg.period payload with
        | none => answer .badArg s
        | some (d, apply) => placeDuty d apply s)

/-- Remove the timed record of an apply epoch, if there is one (R77). -/
def cancelEpoch (epoch : EpochNumber) (s : State) : State :=
  if s.pcu.timed.any fun r => r.epoch = epoch then
    answer .ok (mapPcu (fun p => { p with timed := p.timed.filter fun r => r.epoch ≠ epoch }) s)
  else answer .empty s

/-- CANCEL_TIMED (R77). -/
def execCancelTimed (payload : List Byte) (s : State) : Outcome State Fault Refusal :=
  goes s
    (if s.mc.station = .unconfigured then answer .state s
    else
      match payload with
      | [e1, e0] => cancelEpoch (wordOf e1 e0) s
      | _ => answer .badArg s)

/-! ### Trip commands -/

/-- FORCE_TRIP (R104). -/
def execForceTrip (payload : List Byte) (s : State) : Outcome State Fault Refusal :=
  goes s (withoutPayload payload (fun s => answer .ok (latchCause .command s)) s)

/-- An OK clear: the set is emptied and TRIPN released, a TRIP frame still waiting is removed, and the sensed level gives the
next state (R99). That the station senses none of its own drive from this very action on, where R99 lets it be sensed low for
some counts, is the model's choice (log 40). -/
def clearCauses (s : State) : State :=
  let s := emptySlot .trip (mapTc (fun tc => { tc with causes := { pin := false, command := false, line := false } }) s)
  if tripnHigh s then enterRearm s else regate (mapTc (fun tc => { tc with trip := .trippedRemote }) s)

/-- CLEAR_TRIP (R99). -/
def execClearTrip (payload : List Byte) (s : State) : Outcome State Fault Refusal :=
  goes s
    (if s.tc.trip = .trippedLocal then
      withoutPayload payload (fun s =>
        if pinActive s || lineCauseActive s then answer .activeCause s else answer .ok (clearCauses s)) s
    else answer .state s)

/-! ### Mail commands -/

/-- Queue a mail at the tail with the next ticket; posted to an empty queue it is the head and is filled (R125, R126). -/
def queueMail (destination : StationId) (data : List Byte) (s : State) : State :=
  let mail : OutMail :=
    { destination := destination, ticket := s.mu.ticket, data := data, attempts := 0, destLost := false, outcome := none }
  let queued := mapMu (fun mu => { mu with queue := mu.queue ++ [mail], ticket := mu.ticket + 1 }) s
  if s.mu.queue.isEmpty then fillSlot (mailFrame mail) queued else queued

/-- POST_MAIL past its state check: arguments, then NO_PEER, then FULL (R125). -/
def postMail (payload : List Byte) (s : State) : State :=
  match payload with
  | [] => answer .badArg s
  | dest :: data =>
    match idOfNat dest.toNat with
    | none => answer .badArg s
    | some id =>
      if id = s.sid || data.isEmpty || 8 < data.length then answer .badArg s
      else if (s.mc.roster[id.val]).state ≠ .member then answer .noPeer s
      else if 4 ≤ s.mu.queue.length then answer .full s
      else respond .ok [s.mu.ticket] (queueMail id data s)

/-- POST_MAIL (R125). -/
def execPostMail (payload : List Byte) (s : State) : Outcome State Fault Refusal :=
  goes s (if groupState s.mc.station then postMail payload s else answer .state s)

/-- The earlier-arrived buffer is returned and freed with the overflow indication, which is cleared; with neither full,
EMPTY returns the indication alone (R133). -/
def takeMail (s : State) : State :=
  let overflow := overflowByte s.mu
  match takeEarlier s.mu with
  | some (mail, mu) => respond .ok (mailTaken overflow mail) (mapMu (fun _ => { mu with overflow := false }) s)
  | none => respond .empty [overflow] (mapMu (fun mu => { mu with overflow := false }) s)

/-- TAKE_MAIL (R133). -/
def execTakeMail (payload : List Byte) (s : State) : Outcome State Fault Refusal :=
  goes s (withoutPayload payload takeMail s)

/-- The oldest receipt is removed and returned; the room lets a blocked complete head leave (R130). -/
def takeReceipt (s : State) : State :=
  match s.mu.receipts with
  | [] => answer .empty s
  | r :: rest => respond .ok (receiptBytes r) (settleQueue (mapMu (fun mu => { mu with receipts := rest }) s))

/-- TAKE_RECEIPT (R130). -/
def execTakeReceipt (payload : List Byte) (s : State) : Outcome State Fault Refusal :=
  goes s (withoutPayload payload takeReceipt s)

/-! ### Reads -/

/-- READ_STATUS (R140). -/
def execReadStatus (payload : List Byte) (s : State) : Outcome State Fault Refusal :=
  goes s (withoutPayload payload (fun s => respond .ok (statusRecord s) s) s)

/-- READ_ROSTER (R140). -/
def execReadRoster (payload : List Byte) (s : State) : Outcome State Fault Refusal :=
  goes s
    (match payload with
    | [b] =>
      match idOfNat b.toNat with
      | some id => respond .ok (rosterRecord s id) s
      | none => answer .badArg s
    | _ => answer .badArg s)

/-- READ_EPOCH (R140). -/
def execReadEpoch (payload : List Byte) (s : State) : Outcome State Fault Refusal :=
  goes s (withoutPayload payload (fun s => respond .ok (epochRecord s) s) s)

/-- READ_TRIP (R103). -/
def execReadTrip (payload : List Byte) (s : State) : Outcome State Fault Refusal :=
  goes s (withoutPayload payload (fun s => respond .ok (tripRecord s) s) s)

/-- READ_CONFIG: the record as accepted, or EMPTY in UNCONFIGURED (R140). -/
def execReadConfig (payload : List Byte) (s : State) : Outcome State Fault Refusal :=
  goes s
    (withoutPayload payload (fun s =>
      match s.config with
      | none => answer .empty s
      | some cfg => respond .ok (configBytes cfg) s) s)

/-- READ_EVENTS: the event set is returned and every kind returned is cleared (R143). -/
def execReadEvents (payload : List Byte) (s : State) : Outcome State Fault Refusal :=
  goes s
    (withoutPayload payload (fun s =>
      respond .ok (eventBytes s.lp.events) (mapLp (fun lp => { lp with events := 0 }) s)) s)

/-- SET_EVENT_MASK: the mask is replaced; bit 23 set is BAD_ARG (R144). -/
def execSetEventMask (payload : List Byte) (s : State) : Outcome State Fault Refusal :=
  goes s
    (match payload with
    | [b2, b1, b0] =>
      if b2.getLsbD 7 then answer .badArg s
      else answer .ok (mapLp (fun lp => { lp with mask := (b2 ++ b1 ++ b0 : BitVec 24).setWidth 23 }) s)
    | _ => answer .badArg s)

/-! ### Faults of framing (R135, R137, R138) -/

/-- UNKNOWN_COMMAND is answered BAD_COMMAND and nothing else is done (R138). -/
def execUnknownCommand (_code : Byte) (_payload : List Byte) (s : State) : Outcome State Fault Refusal :=
  goes s (answer .badCommand s)

/-- FRAME_ERROR: the command is not executed and the answer is FRAME_ERROR (R137). -/
def execFrameError (_body : List Byte) (_crc : Byte) (s : State) : Outcome State Fault Refusal :=
  goes s (answer .frameError s)

/-- COMMAND_LENGTH_OVERFLOW: nothing is executed, no response is formed and SDO stays high for the rest of the window
(R137). -/
def execCommandLengthOverflow (_code _length : Byte) (s : State) : Outcome State Fault Refusal :=
  goes s (mapLp (fun lp =>
    { lp with phase := .done, shift := [], bitCount := 0, sdo := some true, response := [] }) s)

/-- WINDOW_CLOSED_EARLY: the window is discarded, nothing is answered, and the framer waits for the next (R135). -/
def execWindowClosedEarly (_bytes : List Byte) (s : State) : Outcome State Fault Refusal :=
  goes s (mapLp (fun lp =>
    { lp with phase := .waitWindow, shift := [], bitCount := 0, sdo := none, response := [] }) s)

end Sys2Proof.Machine
end

