-- ==== Sys2Proof/Machine/BoundaryCommands.lean ====
section
/-! DEFINITION. The meanings of EPOCH_BOUNDARY and of the commands that can come with it. EPOCH_BOUNDARY does all that the
rules give its count in MC, PCU, TC and MU; a command that names one of those effects does that effect alone, where the state
allows it, and otherwise nothing (log 2). -/

namespace Sys2Proof.Machine

open Host (Outcome)

/-- The position to which the phase moves at a boundary: 0, or past it by a forward step (R2, R16). -/
def boundaryPosition (cfg : ConfigRecord) (tb : TimeBase) : Nat :=
  match tb.boundary with
  | .due past => tb.position + past - carrierLength cfg
  | _ => 0

/-- TB's part of an epoch boundary: the phase moves onto carrier 0 (log 2), the epoch number goes up by one, EPO is driven in
LOCKED and HOLDOVER, a sample held counts the boundary, and an expected window opens (R2, R4, R7, R12). -/
def boundaryTb (cfg : ConfigRecord) (tb : TimeBase) : TimeBase :=
  { tb with
    carrier := 0
    position := boundaryPosition cfg tb
    boundary := .none
    epoch := tb.epoch + 1
    epo := lockHeld tb.lock
    sample := tb.sample.map fun m => { m with boundariesSince := m.boundariesSince + 1 }
    windowOpen := true
    windowSeen := false }

/-- The shared carrier start that an epoch boundary is, at MC: a beacon's deadline, and a carrier counted (R2, R22, R50, R51).
Of a boundary that a count brings, the count has taken both already (log 2). -/
def boundaryCarrier (s : State) : State :=
  if s.tb.boundary = .none then mapMc countCarrier (if s.mc.beaconDeadline then removeBeacon s else s) else s

/-- Whether the listen timer ends at a boundary commanded by itself (R22, log 2). -/
def boundaryFounds (cfg : ConfigRecord) (s : State) : Bool :=
  decide (s.tb.boundary = .none) && listenEnds cfg (boundaryCarrier s)

/-- What the blocks do at an epoch boundary, one after another (R2, log 31). -/
def takeBoundary (cfg : ConfigRecord) (s : State) : State :=
  retryHead (boundaryTc (boundaryPcu (boundaryMc cfg (mapTb (boundaryTb cfg) (boundaryCarrier s)))))

/-- EPOCH_BOUNDARY: TB takes the boundary and hands it to MC, PCU, TC and MU (R2). The order of the four is the model's
choice: a STATUS filled at the boundary at which TC rearms reports the trip state before it, and PCU makes a due record's
entry decision before it (log 31). A boundary commanded by itself at which the listen timer ends founds a group after it, and
the founder fills its STATUS (R22, R46, log 2). While TB stands still there is none (R1), and a jump of the same count taken
first leaves none (R10, R11, log 3). -/
def execEpochBoundary (s : State) : Outcome State Fault Refusal :=
  goes s
    (match s.config with
    | none => s
    | some cfg =>
      if s.tb.boundary = .overtaken then mapTb (fun tb => { tb with boundary := .none }) s
      else if boundaryFounds cfg s then fillStatus 0 (found cfg (takeBoundary cfg s))
      else takeBoundary cfg s)

/-- PEER_LOST_BY_SILENCE: the silence count of a MEMBER or LEAVING entry goes up to LOSS_EPOCHS, and the entry becomes LOST
(R40). -/
def execPeerLostBySilence (id : StationId) (s : State) : Outcome State Fault Refusal :=
  goes s
    (match s.config with
    | none => s
    | some cfg =>
      if groupState s.mc.station && cfg.lossEpochs ≤ (s.mc.roster[id.val]).silence + 1 then
        countSilenceOf cfg.lossEpochs id s
      else s)

/-- HANDOVER_TIMEOUT: the leave attempt counter of a LEAVING reference goes up to 4 (R59). -/
def execHandoverTimeout (s : State) : Outcome State Fault Refusal :=
  goes s
    (if s.mc.station = .leaving && s.mc.role = .reference && 3 ≤ s.mc.leaveAttempts then leaveDone s else s)

/-- LEAVE_TIMEOUT: the leave attempt counter of a LEAVING follower goes up to 4 (R32). -/
def execLeaveTimeout (s : State) : Outcome State Fault Refusal :=
  goes s
    (if s.mc.station = .leaving && s.mc.role ≠ .reference && 3 ≤ s.mc.leaveAttempts then leaveDone s else s)

/-- LEAVE_REFILL: a LEAVING follower with no LEAVE acknowledged fills a LEAVE (R32). -/
def execLeaveRefill (s : State) : Outcome State Fault Refusal :=
  goes s
    (if s.mc.station = .leaving && s.mc.role ≠ .reference && !s.mc.leaveAcked then fillLeave s else s)

/-- JOIN_REFILL: after an unanswered try a JOINING station fills a JOIN (R25). -/
def execJoinRefill (s : State) : Outcome State Fault Refusal :=
  goes s (if s.mc.station = .joining && s.mc.joinRefillDue then fillJoin s else s)

/-- ADMISSION_WAIT_EXPIRY: the second boundary after an accepted try passes with no admitting beacon (R26). -/
def execAdmissionWaitExpiry (s : State) : Outcome State Fault Refusal :=
  goes s (if s.mc.station = .joining && s.mc.admission.boundaries = 1 then waitBoundary s else s)

/-- JOIN_FAILURE: the join attempt counter of a JOINING station goes up to 4 (R25). -/
def execJoinFailure (s : State) : Outcome State Fault Refusal :=
  goes s (if s.mc.station = .joining && 3 ≤ s.mc.joinAttempts then joinFails s else s)

/-- TIMED_RECORD_DUE: TB hands PCU the boundary of an epoch, and the first timed record, if it is that epoch's, becomes
due (R78). -/
def execTimedRecordDue (epoch : EpochNumber) (s : State) : Outcome State Fault Refusal := goes s (takeDue epoch s)

/-- MAIL_RETRY: a due retry fills the MAIL slot with the head's frame (R127). -/
def execMailRetry (s : State) : Outcome State Fault Refusal := goes s (retryHead s)

/-- REARM: a station in REARM enters ARMED at the boundary TB hands TC, or, when its lock state is FREE or ACQUIRE, at
once (R100). -/
def execRearm (s : State) : Outcome State Fault Refusal :=
  goes s (if s.tc.trip = .rearm then enterArmed s else s)

end Sys2Proof.Machine
end

