-- ==== Sys2Proof/Machine/CarrierCommands.lean ====
section
/-! DEFINITION. The meanings of the commands at shared carrier starts, at output carrier starts and peaks, and of the
channels' compare matches and dead times. -/

namespace Sys2Proof.Machine

open Host (Outcome)

/-! ### Shared carrier starts -/

/-- LISTEN_TIMER_EXPIRY: a LISTENING station whose timer runs founds a group (R22, R46). -/
def execListenTimerExpiry (s : State) : Outcome State Fault Refusal :=
  goes s
    (match s.config with
    | none => s
    | some cfg => if s.mc.station = .listening && s.mc.listenTimer.isSome then found cfg s else s)

/-- STATUS_FILL at the shared carrier start of a carrier index (R29). -/
def execStatusFill (carrier : Nat) (s : State) : Outcome State Fault Refusal := goes s (fillStatus carrier s)

/-- CANDIDATE_FILL_POINT: a candidate builds a mask from its roster and fills a beacon (R52). -/
def execCandidateFillPoint (s : State) : Outcome State Fault Refusal :=
  goes s
    (match s.config with
    | none => s
    | some cfg => candidateFill cfg s)

/-- BEACON_DEADLINE: a beacon not past arbitration is abandoned and its slot emptied; one past arbitration completes, and
from now on is not attempted again if it fails (R49, R50, log 8). -/
def execBeaconDeadline (s : State) : Outcome State Fault Refusal :=
  goes s (if s.mc.beaconDeadline then removeBeacon s else s)

/-! ### Output carrier starts and peaks -/

/-- PCU's part of an output carrier start: the due record is applied, else the pending one, the channels' requests are
formed at the new counter, and the entry decision is made (R75, R79, R83, R88). -/
def startPcu (s : State) : State :=
  enterActive (refreshChannels (if s.pcu.due.isSome then applyDue s else applyPending s))

/-- Note that the output carrier start of this count has been taken, with or without applying a record; a start that no
tick put on this count leaves no mark (R79, log 3). -/
def markStart (recordApplied : Bool) (s : State) : State :=
  mapTb (fun tb => { tb with startMark := if tb.startMark = .due then .taken recordApplied else tb.startMark }) s

/-- OUTPUT_CARRIER_START: TB decides its steps and hands PCU the start (R3, R14, R15, R16). A count whose start a jump or
placement has overtaken is no start (R17). While TB stands still there is none (R1). -/
def execOutputCarrierStart (s : State) : Outcome State Fault Refusal :=
  goes s
    (match s.config with
    | none => s
    | some cfg =>
      if s.tb.startMark = .overtaken then mapTb (fun tb => { tb with startMark := .none }) s
      else startPcu (markStart (s.pcu.due.isSome || s.pcu.pendingDuty.isSome) (startCarrier cfg s)))

/-- PEAK: in CENTRE mode the peak of an output carrier is handed to PCU, an apply point when APPLY_AT_PEAK is 1. The interval
that a jump or a placement begins holds none, so one taken first on the peak's count leaves no peak (R3, R75). -/
def execPeak (s : State) : Outcome State Fault Refusal :=
  goes s
    (match s.config with
    | none => s
    | some cfg => if cfg.mode = .centre && cfg.applyAtPeak && s.tb.inCarrier then applyPending s else s)

/-- PENDING_RECORD_APPLY: at an apply point the pending record becomes the applied setting (R75). -/
def execPendingRecordApply (s : State) : Outcome State Fault Refusal :=
  goes s (if running s then applyPending s else s)

/-- DUE_RECORD_APPLY: at an output carrier start the due record is applied (R79). -/
def execDueRecordApply (s : State) : Outcome State Fault Refusal :=
  goes s (if running s then applyDue s else s)

/-- OUTPUT_ACTIVE_ENTRY: the entry decision of an output carrier start (R88). -/
def execOutputActiveEntry (s : State) : Outcome State Fault Refusal := goes s (enterActive s)

/-! ### Channels -/

/-- COMPARE_MATCH: the ideal signal of a channel is formed at the output counter, and a request that differs from that of the
count before restarts the hold count (R82, R83). -/
def execCompareMatch (ch : Channel) (s : State) : Outcome State Fault Refusal :=
  goes s
    (match s.config with
    | none => s
    | some cfg =>
      if (channelOf s.pcu ch).setting.mode = .pwm then
        mapPcu (mapChannel ch (refreshChannel (counterNow cfg s))) s
      else s)

/-- DEAD_TIME_EXPIRY: the hold count of a channel with a side requested goes from D - 1 to D, and the requested side turns
on (R83). -/
def execDeadTimeExpiry (ch : Channel) (s : State) : Outcome State Fault Refusal :=
  goes s
    (match s.config with
    | none => s
    | some cfg =>
      if (channelOf s.pcu ch).hold + 1 = cfg.deadTime then
        mapPcu (mapChannel ch (advanceHold cfg.deadTime)) s
      else s)

end Sys2Proof.Machine
end

