-- ==== Sys2Proof/Machine/BeaconCommands.lean ====
section
/-! DEFINITION. The meanings of the beacon commands: markers, beacons received, missed beacons, holdover expiry and the start
of an election. -/

namespace Sys2Proof.Machine

open Host (Outcome)

/-- LC decides to drive reply bits for the frame being received (R113). -/
def planReply (ack refuse : Bool) (s : State) : State :=
  mapLc (fun lc => { lc with replyAck := ack, replyRefuse := refuse }) s

/-- The epoch number, carrier index and position sampled at the marker are written into an own beacon (R112). -/
def stampBeacon (m : MarkerSample) (own : OwnFrame) : OwnFrame :=
  match own.frame with
  | .beacon b =>
    { own with
      frame := .beacon
        { b with
          epoch := m.epoch, carrier := BitVec.ofNat 8 m.carrier, position := BitVec.ofNat 16 m.position } }
  | _ => own

/-- Whether the own frame on the line is a beacon. -/
def sendingBeacon (s : State) : Bool :=
  match s.lc.onLine with
  | none => false
  | some own => frameKind own.frame == .beacon

/-- BEACON_MARKER: TB samples its settled phase. A sender's beacon takes the sample; a receiver holds it for the frame. A
frame that began before TB ran carries no sample (R6, R112). -/
def execBeaconMarker (s : State) : Outcome State Fault Refusal :=
  goes s
    (match s.config with
    | none => dropSample s
    | some cfg =>
      if sendingBeacon s then
        mapLc (fun lc => { lc with onLine := lc.onLine.map (stampBeacon (markerSample cfg s.tb)) }) (dropSample s)
      else if s.lc.beganStill then dropSample s
      else mapTb (fun tb => { tb with sample := some (markerSample cfg tb) }) s)

/-- BEACON_RECEIVED: the source is reported, then the beacon is delivered to MC, and LC acknowledges it (R37, R43, R44,
R113, R115). -/
def execBeaconReceived (src : StationId) (b : Beacon) (s : State) : Outcome State Fault Refusal :=
  goes s (planReply true false (deliverBeacon src b (sourceReport src s)))

/-- The end of an expected window with no beacon: the miss is counted, and a count of 2 is told to MC (R12, R51). -/
def missBeacon (cfg : ConfigRecord) (s : State) : State :=
  let s := countMiss cfg s
  if s.tb.missed = 2 then startElection s else s

/-- MISSED_BEACON: an expected window that TB watches ends with no beacon handed to it. A window in which one was handed
closes without effect (R12). -/
def execMissedBeacon (s : State) : Outcome State Fault Refusal :=
  goes s
    (match s.config with
    | none => s
    | some cfg =>
      if watchesWindow s && !s.tb.windowSeen then missBeacon cfg s
      else mapTb (fun tb => { tb with windowOpen := false, windowSeen := false }) s)

/-- HOLDOVER_EXPIRY: the miss that takes the missed-beacon count to HOLDOVER_EPOCHS in LOCKED or HOLDOVER (R12). -/
def execHoldoverExpiry (s : State) : Outcome State Fault Refusal :=
  goes s
    (match s.config with
    | none => s
    | some cfg =>
      if watchesWindow s && !s.tb.windowSeen && lockHeld s.tb.lock && cfg.holdoverEpochs ≤ s.tb.missed + 1 then
        missBeacon cfg s
      else s)

/-- ELECTION_START: TB's notice of two missed beacons reaches MC; a reference is given none (R12, R13, R51). -/
def execElectionStart (s : State) : Outcome State Fault Refusal :=
  goes s (if s.mc.role = .reference then s else startElection s)

end Sys2Proof.Machine
end

