-- ==== Sys2Proof/Machine/FrameCommands.lean ====
section
/-! DEFINITION. The meanings of the commands of received frames other than beacons (R24, R37 to R39, R102, R113 to R115,
R131). Each reports its source, then the owner acts, then LC plans its reply bits (log 10). -/

namespace Sys2Proof.Machine

open Host (Outcome)

/-! ### JOIN and LEAVE -/

/-- Whether the station refuses a JOIN because its source holds the station's own ID (R24). -/
def sameIdJoin (src : StationId) (s : State) : Bool := s.mc.station == .member && src == s.sid

/-- Whether the station answers a JOIN as the reference (R24). -/
def referenceAnswers (src : StationId) (s : State) : Bool := s.mc.role == .reference && src != s.sid

/-- The acknowledge and refusal bits the station drives for a JOIN (R24). -/
def joinReply (src : StationId) (request : JoinRequest) (s : State) : Bool × Bool :=
  match s.config with
  | none => (false, false)
  | some cfg =>
    if sameIdJoin src s then (false, true)
    else if referenceAnswers src s then
      if sameGeometry cfg request.period request.mode request.length then (true, false) else (false, true)
    else (false, false)

/-- JOIN_RECEIVED: MC decides the reply bits; a MEMBER of the same ID posts CONFLICT_SEEN (R24). -/
def execJoinReceived (src : StationId) (request : JoinRequest) (s : State) : Outcome State Fault Refusal :=
  let reply := joinReply src request s
  goes s (planReply reply.1 reply.2 (postIf (running s && sameIdJoin src s) .conflictSeen (sourceReport src s)))

/-- LEAVE_RECEIVED: the source is reported and LC acknowledges; the roster effect waits for the reply bits (R113, R115). -/
def execLeaveReceived (src : StationId) (s : State) : Outcome State Fault Refusal :=
  goes s (planReply true false (sourceReport src s))

/-- The roster effect of a JOIN or LEAVE whose reply bits are complete (R38). -/
def replyEffect (src : StationId) (kind : ReplyKind) (ack refuse : Bool) (s : State) : State :=
  if groupState s.mc.station && src != s.sid then
    match kind with
    | .join => if ack && !refuse then setEntryState src .joining false s else s
    | .leave =>
      match (s.mc.roster[src.val]).state with
      | .member => setEntryState src .leaving false s
      | .joining => setEntryState src .absent false s
      | _ => s
  else s

/-- The refusal bit has been sampled: a frame in progress ends and the framer waits for idle (R108, log 24). -/
def endFrame (s : State) : State :=
  let s := planReply false false s
  if s.lc.framer = .frame then toWaitIdle s else s

/-- JOIN_LEAVE_REPLY_COMPLETE: the frame ends and the source's entry changes by the reply bits (R38, R113). -/
def execJoinLeaveReplyComplete (src : StationId) (kind : ReplyKind) (ack refuse : Bool) (s : State) :
    Outcome State Fault Refusal :=
  goes s (replyEffect src kind ack refuse (endFrame s))

/-! ### STATUS, MAIL and TRIP -/

/-- STATUS_RECEIVED: the source's entry takes the report and the phase error (R39). -/
def execStatusReceived (src : StationId) (status : StatusReport) (s : State) : Outcome State Fault Refusal :=
  let heard := sourceReport src s
  goes s (planReply true false
    (if groupState s.mc.station then
      mapEntry src (fun e => { e with report := some status.report, phaseError := some status.phaseError }) heard
    else heard))

/-- MU decides on a MAIL addressed to the station: duplicate, stored, or refused (R131). -/
def takeInMail (mail : InMail) (s : State) : State :=
  if s.mu.filter[mail.source.val] = some mail.ticket then planReply true false s
  else if s.mu.bufA.isNone || s.mu.bufB.isNone then
    planReply true false (post .mailIn (mapMu (storeMail mail) s))
  else planReply false true (post .mailOverflow (mapMu (fun mu => { mu with overflow := true }) s))

/-- MAIL_RECEIVED: in JOINING, MEMBER and LEAVING MU decides; in every other state neither bit is driven and nothing is
stored (R131). -/
def execMailReceived (src : StationId) (ticket : Byte) (data : List Byte) (s : State) : Outcome State Fault Refusal :=
  let heard := sourceReport src s
  goes s
    (if groupState s.mc.station then takeInMail { source := src, ticket := ticket, data := data } heard
    else planReply false false heard)

/-- MAIL_FOR_OTHER_DESTINATION: the source is reported and nothing else is done (R115). -/
def execMailForOtherDestination (src : StationId) (s : State) : Outcome State Fault Refusal :=
  goes s (planReply false false (sourceReport src s))

/-- TRIP_FRAME_RECEIVED: the source joins the origin list unless the trip state is ARMED (R102). -/
def execTripFrameReceived (src : StationId) (_cause : Byte) (_epoch : EpochNumber) (s : State) :
    Outcome State Fault Refusal :=
  let heard := sourceReport src s
  goes s (planReply true false
    (if s.tc.trip = .armed then heard
    else mapTc (fun tc => { tc with origins := appendOrigin src tc.origins }) heard))

/-! ### Frames that end without delivery -/

/-- FRAME_DISCARDED: TB's sample is discarded; a format error stops the frame, any other fault lets it run on without
reply bits (R112, R114). -/
def execFrameDiscarded (why : FrameFault) (s : State) : Outcome State Fault Refusal :=
  let dropped := planReply false false (dropSample s)
  goes s
    (match why with
    | .format => if s.lc.framer = .frame then toWaitIdle dropped else dropped
    | .badCrc | .kindOrLength => mapLc (fun lc => { lc with failed := true }) dropped)

/-- REFUSAL_BIT_SAMPLED: at a receiver the frame ends and the framer waits for idle (R108). -/
def execRefusalBitSampled (s : State) : Outcome State Fault Refusal :=
  goes s (if s.lc.onLine.isNone && s.lc.attempt.isNone then endFrame s else s)

end Sys2Proof.Machine
end

