-- ==== Sys2Proof/Machine/LineCommands.lean ====
section
/-! DEFINITION. The meanings of the commands of the receive framer, of the station's own frames, of the mail queue's head and of
the line monitor (chapters 7 and 8). -/

namespace Sys2Proof.Machine

open Host (Outcome)

/-! ### Framer and start -/

/-- FRAMER_IDLE: twelve recessive bit times take the framer from WAIT_IDLE to IDLE (R108). -/
def execFramerIdle (s : State) : Outcome State Fault Refusal :=
  goes s (mapLc (fun lc => { lc with framer := if lc.framer = .waitIdle then .idle else lc.framer }) s)

/-- The framer enters FRAME at the first count of a start bit; `still` says that TB stands still (R6, R108). -/
def beginFrame (still : Bool) (lc : LineController) : LineController :=
  { lc with
    framer := .frame
    beganStill := still
    replyAck := false
    replyRefuse := false
    bitPhase := 0
    bitIndex := 0
    rxBits := []
    failed := false
    replyDue := false }

/-- FRAME_START_SEEN: a falling edge in IDLE is taken as a start bit (R108). -/
def execFrameStartSeen (s : State) : Outcome State Fault Refusal :=
  goes s (if s.lc.framer = .idle then mapLc (beginFrame !(running s)) s else s)

/-- START_OPPORTUNITY: with the framer IDLE and the transmitter on, the full slot of the lowest kind starts its attempt and
a start bit is driven (R108, R117). -/
def execStartOpportunity (s : State) : Outcome State Fault Refusal :=
  goes s
    (if s.lc.framer = .idle && s.lc.txOn then
      match lowestFull s.lc.slots with
      | none => s
      | some kind =>
        mapLc (fun lc =>
          { beginFrame (!(running s)) lc with
            attempt := some kind
            ltx := false
            dominantRun := if lrxLevel s.pins false then lc.dominantRun else max 1 lc.dominantRun }) s
    else s)

/-! ### Arbitration -/

/-- ARBITRATION_LOST: the station stops driving and receives; its frame stays in its slot (R111). -/
def execArbitrationLost (s : State) : Outcome State Fault Refusal :=
  goes s
    (if s.lc.attempt.isSome then mapLc (fun lc => { lc with attempt := none, ltx := true }) s else s)

/-- ARBITRATION_PASSED: the slot's frame is taken into the transmitter, whose first length bit begins, and the slot becomes
empty; a mail's flight begins (R111, R118, R126). -/
def execArbitrationPassed (s : State) : Outcome State Fault Refusal :=
  goes s
    (match s.lc.attempt with
    | none => s
    | some kind =>
      let taken := (slotOf s.lc.slots kind).map fun f =>
        { frame := f, returnable := true, restarted := false, stale := false : OwnFrame }
      let first := match slotOf s.lc.slots kind with
        | none => true
        | some f => (frameBits s.sid f).getD 9 true
      let s := mapLc (fun lc =>
        { lc with attempt := none, slots := setSlot lc.slots kind none, onLine := taken, ltx := first || !lc.txOn }) s
      if kind = .mail && taken.isSome then mapMu (fun mu => { mu with inFlight := true }) s else s)

/-! ### Outcomes (R118) -/

/-- An own frame is no longer on the line: the station stops driving and its framer waits for idle. -/
def clearLine (s : State) : State :=
  toWaitIdle (mapLc (fun lc => { lc with onLine := none, ltx := true, replyAck := false, replyRefuse := false }) s)

/-- The owner of a frame is given its success (R101, R118): BEACON, JOIN and LEAVE to MC, MAIL to MU. TC and a STATUS's
owner take no action. -/
def giveOutcome (f : TxFrame) (ack refuse : Bool) (s : State) : State :=
  match f with
  | .trip _ _ => s
  | .beacon b => beaconSent b s
  | .join _ => joinOutcome ack refuse s
  | .leave => leaveOutcome ack s
  | .status _ => s
  | .mail _ => mailReported ack refuse s

/-- FRAME_SUCCESS: the failure count goes to 0 and the owner is given the reply bits, unless LC or the owner discards the
outcome (R118, R119). -/
def execFrameSuccess (ack refuse : Bool) (s : State) : Outcome State Fault Refusal :=
  goes s
    (match s.lc.onLine with
    | none => s
    | some own =>
      let s := mapLc (fun lc => { lc with failures := 0 }) (clearLine s)
      if own.restarted || own.stale then s else giveOutcome own.frame ack refuse s)

/-- One transmit failure is counted; at 16 the station is isolated (R119, R34). -/
def countFailure (s : State) : State :=
  let s := mapLc (fun lc => { lc with failures := min 16 (lc.failures + 1) }) s
  if 16 ≤ s.lc.failures then isolate s else s

/-- A returnable frame goes back into its slot (R118). -/
def returnFrame (own : OwnFrame) (s : State) : State :=
  if own.returnable then
    mapLc (fun lc => { lc with slots := setSlot lc.slots (frameKind own.frame) (some own.frame) }) s
  else s

/-- LC's failure notice reaches the owner; MU alone acts on it (R118, R126, R129). -/
def failureNotice (f : TxFrame) (s : State) : State :=
  match f with
  | .mail _ => mailFailed s
  | _ => s

/-- TRANSMIT_FAILURE: the station stops driving; a frame that was on the line at RESTART is neither returned nor counted;
any other goes back if returnable, its owner is given the notice and the failure is counted (R118, R119, R123, log 16). -/
def execTransmitFailure (s : State) : Outcome State Fault Refusal :=
  goes s
    (match s.lc.onLine with
    | none => s
    | some own =>
      let s := clearLine s
      if own.restarted then s else countFailure (failureNotice own.frame (returnFrame own s)))

/-- ISOLATION: the failure count goes to 16, the transmitter turns off, all slots are emptied and MC acts (R34, R119). -/
def execIsolation (s : State) : Outcome State Fault Refusal :=
  goes s
    (if s.lc.txOn && 15 ≤ s.lc.failures then
      isolate (mapLc (fun lc => { lc with failures := 16, onLine := none }) s)
    else s)

/-! ### Mail head and line monitor -/

/-- MAIL_COMPLETION: complete heads leave as far as the receipt list has room (R128). -/
def execMailCompletion (s : State) : Outcome State Fault Refusal := goes s (settleQueue s)

/-- LINE_RAISED: LINE is active and handed to TC, which latches it; LINE_FAULT is posted (R94, R106, R121). -/
def execLineRaised (s : State) : Outcome State Fault Refusal :=
  goes s (latchCause .line (post .lineFault (mapLc (fun lc => { lc with lineActive := true }) s)))

/-- LINE_INACTIVE: twelve consecutive recessive bit times end LINE (R121). -/
def execLineInactive (s : State) : Outcome State Fault Refusal :=
  goes s (mapLc (fun lc => { lc with lineActive := false }) s)

end Sys2Proof.Machine
end

