-- ==== Sys2Proof/Machine/PinCommands.lean ====
section
/-! DEFINITION. The meanings of the edges of FLTN and of the levels of TRIPN (R89, R94, R96, R98). The pins
take their levels with RESETN low too. -/

namespace Sys2Proof.Machine

open Host (Outcome)

/-- FLTN_FALL: FLTN goes low, which forces the gates off, and PIN is latched (R89, R96, R97). -/
def execFltnFall (s : State) : Outcome State Fault Refusal :=
  let s := mapPins (fun p => { p with fltn := false }) s
  goes s (latchCause .pin s)

/-- FLTN_RISE: FLTN returns high and PIN becomes inactive (R89, R94). -/
def execFltnRise (s : State) : Outcome State Fault Refusal := .next (mapPins (fun p => { p with fltn := true }) s)

/-- TRIPN_LOW: another station drives TRIPN; ARMED and REARM go to TRIPPED_REMOTE (R98). -/
def execTripnLow (s : State) : Outcome State Fault Refusal :=
  let s := mapPins (fun p => { p with tripn := false }) s
  goes s (senseTripn s)

/-- TRIPN_HIGH: no other station drives TRIPN; TRIPPED_REMOTE goes to REARM (R98). -/
def execTripnHigh (s : State) : Outcome State Fault Refusal :=
  let s := mapPins (fun p => { p with tripn := true }) s
  goes s (senseTripn s)

end Sys2Proof.Machine
end

