-- ==== Sys2Proof/Machine/Dispatch.lean ====
section
/-! DEFINITION. The meaning of every command, arm by arm. -/

namespace Sys2Proof.Machine

/-- The effect of a command on everything but the queue. -/
def exec (i : Instr) (s : State) : Host.Outcome State Fault Refusal :=
  match i with
  | .hardwareReset sid fltn => Sys2Proof.Machine.execHardwareReset sid fltn s
  | .loadConfig payload => Sys2Proof.Machine.execLoadConfig payload s
  | .start payload => Sys2Proof.Machine.execStart payload s
  | .leave payload => Sys2Proof.Machine.execLeave payload s
  | .restart payload => Sys2Proof.Machine.execRestart payload s
  | .run payload => Sys2Proof.Machine.execRun payload s
  | .halt payload => Sys2Proof.Machine.execHalt payload s
  | .setDuty payload => Sys2Proof.Machine.execSetDuty payload s
  | .cancelTimed payload => Sys2Proof.Machine.execCancelTimed payload s
  | .forceTrip payload => Sys2Proof.Machine.execForceTrip payload s
  | .clearTrip payload => Sys2Proof.Machine.execClearTrip payload s
  | .postMail payload => Sys2Proof.Machine.execPostMail payload s
  | .takeMail payload => Sys2Proof.Machine.execTakeMail payload s
  | .takeReceipt payload => Sys2Proof.Machine.execTakeReceipt payload s
  | .readStatus payload => Sys2Proof.Machine.execReadStatus payload s
  | .readRoster payload => Sys2Proof.Machine.execReadRoster payload s
  | .readEpoch payload => Sys2Proof.Machine.execReadEpoch payload s
  | .readTrip payload => Sys2Proof.Machine.execReadTrip payload s
  | .readConfig payload => Sys2Proof.Machine.execReadConfig payload s
  | .readEvents payload => Sys2Proof.Machine.execReadEvents payload s
  | .setEventMask payload => Sys2Proof.Machine.execSetEventMask payload s
  | .unknownCommand code payload => Sys2Proof.Machine.execUnknownCommand code payload s
  | .frameError body crc => Sys2Proof.Machine.execFrameError body crc s
  | .commandLengthOverflow code length => Sys2Proof.Machine.execCommandLengthOverflow code length s
  | .windowClosedEarly bytes => Sys2Proof.Machine.execWindowClosedEarly bytes s
  | .epochBoundary => Sys2Proof.Machine.execEpochBoundary s
  | .peerLostBySilence id => Sys2Proof.Machine.execPeerLostBySilence id s
  | .handoverTimeout => Sys2Proof.Machine.execHandoverTimeout s
  | .leaveTimeout => Sys2Proof.Machine.execLeaveTimeout s
  | .leaveRefill => Sys2Proof.Machine.execLeaveRefill s
  | .joinRefill => Sys2Proof.Machine.execJoinRefill s
  | .admissionWaitExpiry => Sys2Proof.Machine.execAdmissionWaitExpiry s
  | .joinFailure => Sys2Proof.Machine.execJoinFailure s
  | .listenTimerExpiry => Sys2Proof.Machine.execListenTimerExpiry s
  | .statusFill carrier => Sys2Proof.Machine.execStatusFill carrier s
  | .candidateFillPoint => Sys2Proof.Machine.execCandidateFillPoint s
  | .beaconDeadline => Sys2Proof.Machine.execBeaconDeadline s
  | .outputCarrierStart => Sys2Proof.Machine.execOutputCarrierStart s
  | .peak => Sys2Proof.Machine.execPeak s
  | .pendingRecordApply => Sys2Proof.Machine.execPendingRecordApply s
  | .timedRecordDue epoch => Sys2Proof.Machine.execTimedRecordDue epoch s
  | .dueRecordApply => Sys2Proof.Machine.execDueRecordApply s
  | .outputActiveEntry => Sys2Proof.Machine.execOutputActiveEntry s
  | .missedBeacon => Sys2Proof.Machine.execMissedBeacon s
  | .holdoverExpiry => Sys2Proof.Machine.execHoldoverExpiry s
  | .electionStart => Sys2Proof.Machine.execElectionStart s
  | .beaconMarker => Sys2Proof.Machine.execBeaconMarker s
  | .beaconReceived src beacon => Sys2Proof.Machine.execBeaconReceived src beacon s
  | .joinReceived src request => Sys2Proof.Machine.execJoinReceived src request s
  | .joinLeaveReplyComplete src kind ack refuse => Sys2Proof.Machine.execJoinLeaveReplyComplete src kind ack refuse s
  | .statusReceived src status => Sys2Proof.Machine.execStatusReceived src status s
  | .mailReceived src ticket data => Sys2Proof.Machine.execMailReceived src ticket data s
  | .tripFrameReceived src cause epoch => Sys2Proof.Machine.execTripFrameReceived src cause epoch s
  | .frameDiscarded why => Sys2Proof.Machine.execFrameDiscarded why s
  | .framerIdle => Sys2Proof.Machine.execFramerIdle s
  | .startOpportunity => Sys2Proof.Machine.execStartOpportunity s
  | .arbitrationLost => Sys2Proof.Machine.execArbitrationLost s
  | .arbitrationPassed => Sys2Proof.Machine.execArbitrationPassed s
  | .frameSuccess ack refuse => Sys2Proof.Machine.execFrameSuccess ack refuse s
  | .transmitFailure => Sys2Proof.Machine.execTransmitFailure s
  | .isolation => Sys2Proof.Machine.execIsolation s
  | .mailRetry => Sys2Proof.Machine.execMailRetry s
  | .mailCompletion => Sys2Proof.Machine.execMailCompletion s
  | .lineRaised => Sys2Proof.Machine.execLineRaised s
  | .lineInactive => Sys2Proof.Machine.execLineInactive s
  | .fltnFall => Sys2Proof.Machine.execFltnFall s
  | .fltnRise => Sys2Proof.Machine.execFltnRise s
  | .tripnLow => Sys2Proof.Machine.execTripnLow s
  | .tripnHigh => Sys2Proof.Machine.execTripnHigh s
  | .rearm => Sys2Proof.Machine.execRearm s
  | .frameStartSeen => Sys2Proof.Machine.execFrameStartSeen s
  | .refusalBitSampled => Sys2Proof.Machine.execRefusalBitSampled s
  | .mailForOtherDestination src => Sys2Proof.Machine.execMailForOtherDestination src s
  | .leaveReceived src => Sys2Proof.Machine.execLeaveReceived src s
  | .compareMatch channel => Sys2Proof.Machine.execCompareMatch channel s
  | .deadTimeExpiry channel => Sys2Proof.Machine.execDeadTimeExpiry channel s

end Sys2Proof.Machine
end

