-- ==== Sys2Proof/Machine/TimeTick.lean ====
section
/-! DEFINITION. One count of the Time Base and of the channels (R2, R3, R16, R22, R51, R83): what the count clock moves of
itself, and the commands that fall on the count. -/

namespace Sys2Proof.Machine

/-! ### The shared phase -/

/-- The positions the phase advances at a count: one, two while a forward step is realised, none while a holding one is
(R2, R16). -/
def advanceOf (syncLeft : Int) : Nat := if 0 < syncLeft then 2 else if syncLeft < 0 then 0 else 1

/-- What is left of a sync step after one more count (R16). -/
def syncAfter (syncLeft : Int) : Int := if 0 < syncLeft then syncLeft - 1 else if syncLeft < 0 then syncLeft + 1 else 0

/-- The carrier whose shared carrier start falls on this count (R2). -/
def carrierReached (cfg : ConfigRecord) (tb : TimeBase) : Option Nat :=
  if tb.position + advanceOf tb.syncLeft < carrierLength cfg then none
  else if tb.carrier + 1 < epochCarriers cfg then some (tb.carrier + 1)
  else some 0

/-- The phase advances. Onto carrier 0 it moves when the boundary is taken (R2, log 3). -/
def advancePhase (cfg : ConfigRecord) (tb : TimeBase) : TimeBase :=
  let moved := { tb with syncLeft := syncAfter tb.syncLeft }
  match carrierReached cfg tb with
  | none => { moved with position := tb.position + advanceOf tb.syncLeft }
  | some 0 => { moved with boundary := .due (advanceOf tb.syncLeft) }
  | some c => { moved with carrier := c, position := tb.position + advanceOf tb.syncLeft - carrierLength cfg }

/-! ### The output position -/

/-- The output position counts on; at the end of its interval a start falls on the count (R3, R16). -/
def advanceOutput (cfg : ConfigRecord) (tb : TimeBase) : TimeBase :=
  if outCarrierLength cfg tb ≤ tb.outPos + 1 then { tb with outPos := 0, netStep := 0, startMark := .due }
  else { tb with outPos := tb.outPos + 1 }

/-- Whether the count is the peak of an output carrier (R3). -/
def atPeak (cfg : ConfigRecord) (tb : TimeBase) : Bool := cfg.mode == .centre && tb.inCarrier && tb.outPos == cfg.period

/-! ### Shared carrier starts at MC -/

/-- One command, if a condition holds. -/
def rowIf (c : Bool) (i : Instr) : List Instr := if c then [i] else []

/-- The commands of a shared carrier start beside its epoch boundary: the end of the listen timer, the fill point, the STATUS
fill and the end of the expected window (R12, R22, R29, R52). EPOCH_BOUNDARY makes the fills of carrier 0 itself, but for the
STATUS of a station that founds after it, which is the model's choice (R46, log 31). -/
def carrierRows (cfg : ConfigRecord) (c : Nat) (s : State) : List Instr :=
  rowIf (listenEnds cfg s) .listenTimerExpiry ++
    rowIf (c != 0 && fillPointNow s.mc) .candidateFillPoint ++
    rowIf (c != 0 || listenEnds cfg s) (.statusFill c) ++
    rowIf (c == 2 && s.tb.windowOpen) .missedBeacon

/-- The shared carrier start and the output carrier start of one count, in the order the count takes them (R17, R66, R79, R88,
R100, log 3). -/
def boundaryAndStart (now : Nat) (boundary start : Bool) (rest : List Instr) : List Instr :=
  if start && Config.startFirst now then [.outputCarrierStart] ++ rowIf boundary .epochBoundary ++ rest
  else rowIf boundary .epochBoundary ++ rest ++ rowIf start .outputCarrierStart

/-! ### Channels -/

/-- The channels. -/
def allChannels : List Channel := [.u, .v, .w]

/-- Whether the ideal signal of a PWM channel changes at a counter value (R82). -/
def matchNow (counter : Nat) (c : ChannelState) : Bool :=
  c.setting.mode == .pwm && requestOf c.setting counter != c.request

/-- One count of the three stages: each hold count goes up by one, which a command of the count undoes where it leaves the
request or the mode changed (R83). The rows are the compare matches. -/
def channelTick (cfg : ConfigRecord) (s : State) : List Instr × State :=
  let n := counterNow cfg s
  let advance := advanceHold cfg.deadTime
  ((allChannels.filter fun ch => matchNow n (channelOf s.pcu ch)).map .compareMatch,
    mapPcu (fun p => { p with u := advance p.u, v := advance p.v, w := advance p.w }) s)

/-! ### One count -/

/-- What a new count forgets of the last: the marks of one count and the EPO pulse (R4, log 3). -/
def freshCount (tb : TimeBase) : TimeBase := { tb with epo := false, boundary := .none, startMark := .none }

/-- One count of the Time Base and the channels: the commands that fall on it, and the state after what moves of itself. The
carriers are counted before any command of the count, and a shared carrier start that is no epoch boundary is taken whatever
else the count takes (log 31). -/
def timeTick (cfg : ConfigRecord) (s : State) : List Instr × State :=
  let reached := carrierReached cfg s.tb
  let deadline := s.mc.beaconDeadline
  let s := mapTb (fun tb => advanceOutput cfg (advancePhase cfg tb)) s
  let s := if reached.isSome then mapMc countCarrier s else s
  let starts := s.tb.startMark == .due
  let rest := match reached with
    | none => []
    | some c => carrierRows cfg c s
  let (matched, s) := channelTick cfg s
  (rowIf (reached.isSome && deadline) .beaconDeadline ++
      boundaryAndStart s.now (reached == some 0) starts rest ++ rowIf (atPeak cfg s.tb) .peak ++ matched, s)

end Sys2Proof.Machine
end

