-- ==== Sys2Proof/Machine/LineTick.lean ====
section
/-! DEFINITION. One count of the Line Controller: bit times, the level driven, the samples, the receive framer and the line
monitor (R108 to R114, R117, R118, R121). -/

namespace Sys2Proof.Machine

/-! ### Own frame -/

/-- The frame the station is sending: the one on the line, or the one in its arbitration field. -/
def sending (lc : LineController) : Option TxFrame :=
  match lc.onLine with
  | some own => some own.frame
  | none => lc.attempt.bind (slotOf lc.slots)

/-- The bits of the frame being sent, through its last CRC bit. -/
def ownBits (s : State) : Option (List Bool) := (sending s.lc).map (frameBits s.sid)

/-! ### The level driven (R109, R113, R120) -/

/-- The level of a reply bit that follows the bits received: the acknowledge bit, then the refusal bit, dominant where the
plan says so and no check failed (R113). -/
def replyLevel (lc : LineController) : Bool :=
  match rxStatus lc.rxBits with
  | .complete _ _ _ _ [] => !(lc.replyAck && !lc.failed)
  | .complete _ _ _ _ [_] => !(lc.replyRefuse && !lc.failed)
  | _ => true

/-- The level the station drives for bit `index` of a frame, from the first count of its bit time (R108). -/
def driveLevel (s : State) (index : Nat) : Bool :=
  if s.lc.framer = .frame && s.lc.txOn then
    match ownBits s with
    | some bits => bits.getD (index - 1) true
    | none => replyLevel s.lc
  else true

/-- A bit boundary: the next bit's level is driven (R108). That the level goes by the transmitter as it stands before any
command of the count, so that one turned on at the count on which a reply bit begins does not drive it, is the model's choice
(R113, log 36). -/
def bitBoundary (s : State) : State :=
  mapLc (fun lc =>
    { lc with
      bitIndex := if lc.framer = .frame then lc.bitIndex + 1 else lc.bitIndex
      ltx := driveLevel s (lc.bitIndex + 1)
      replyDue := false }) s

/-- Whether the frame in progress is a BEACON: by its own frame at a sender, whose dominant bits sampled recessive in the
arbitration field have no effect, and by the kind field received at every other station (R111, R112). -/
def beaconUnderWay (lc : LineController) : Bool :=
  match sending lc with
  | some f => frameKind f == .beacon
  | none => natOfBits (lc.rxBits.take 4) == 1

/-- What the reply bits of a frame that has ended give: the sender's success, or a receiver's roster report (R113, R118). -/
def replyRows (s : State) : List Instr :=
  match s.lc.onLine with
  | some own =>
    let replies := s.lc.rxBits.drop (frameBits s.sid own.frame).length
    [.frameSuccess (!(replies.getD 0 true)) (!(replies.getD 1 true))]
  | none =>
    match rxStatus s.lc.rxBits with
    | .complete kind src _ _ [ack, refuse] =>
      [.joinLeaveReplyComplete src (if kind = 3 then .join else .leave) (!ack) (!refuse)]
    | _ => []

/-- The commands of a bit boundary, before its level is driven (R111, R112, R117, R118). -/
def boundaryRows (s : State) : List Instr :=
  if s.lc.replyDue then replyRows s
  else if s.lc.framer = .frame && s.lc.bitIndex = 9 then
    rowIf s.lc.attempt.isSome .arbitrationPassed ++ rowIf (beaconUnderWay s.lc) .beaconMarker
  else []

/-! ### Samples (R108, R111, R114, R118) -/

/-- Whether a frame whose checks passed is a JOIN or a LEAVE, whose reply bits MC reads (R113). -/
def repliesRead (kind : Nat) (failed : Bool) : Bool := (kind == 3 || kind == 4) && !failed

/-- A receiver's sample: a format error, the end of the checks, the end of the refusal bit, or nothing. A JOIN or LEAVE
waits for the end of its refusal bit. -/
def receiverSample (s : State) : List Instr × State :=
  match rxStatus s.lc.rxBits with
  | .inProgress => ([], s)
  | .formatError => ([.frameDiscarded .format], s)
  | .complete kind src payload crcGood replies =>
    match replies with
    | [] => ([endOfChecks s.sid kind src payload crcGood], s)
    | [_] => ([], s)
    | _ =>
      if repliesRead kind s.lc.failed then ([], toWaitIdle (mapLc (fun lc => { lc with replyDue := true }) s))
      else ([.refusalBitSampled], s)

/-- A sender's sample of bit `index`: lost arbitration, a mismatch after it, the refusal bit, or nothing. -/
def senderSample (bits : List Bool) (index : Nat) (bit : Bool) (s : State) : List Instr × State :=
  if index ≤ 9 then (rowIf (s.lc.attempt.isSome && s.lc.ltx && !bit) .arbitrationLost, s)
  else if index ≤ bits.length then (rowIf (s.lc.ltx != bit) .transmitFailure, s)
  else if index = bits.length + 2 then ([], toWaitIdle (mapLc (fun lc => { lc with replyDue := true }) s))
  else ([], s)

/-- A sample in FRAME. The start bit is not kept. -/
def frameSample (bit : Bool) (s : State) : List Instr × State :=
  if s.lc.bitIndex = 0 then ([], s)
  else
    let s := mapLc (fun lc => { lc with rxBits := lc.rxBits ++ [bit] }) s
    match ownBits s with
    | some bits => senderSample bits s.lc.bitIndex bit s
    | none => receiverSample s

/-- A sample in WAIT_IDLE: the run of recessive bits. -/
def idleSample (bit : Bool) (s : State) : List Instr × State :=
  let s := mapLc (fun lc => { lc with idleRun := if bit then lc.idleRun + 1 else 0 }) s
  (rowIf (12 ≤ s.lc.idleRun) .framerIdle, s)

/-- The sample of a bit time, at its fifth count: the line monitor's recessive run, and the framer (R108, R121). -/
def sampleBit (bit : Bool) (s : State) : List Instr × State :=
  let s := mapLc (fun lc => { lc with recessiveRun := if bit then min 12 (lc.recessiveRun + 1) else 0 }) s
  let quiet := rowIf (s.lc.lineActive && s.lc.recessiveRun == 12) .lineInactive
  let (rows, s) := match s.lc.framer with
    | .waitIdle => idleSample bit s
    | .idle => ([], s)
    | .frame => frameSample bit s
  (quiet ++ rows, s)

/-! ### One count -/

/-- The line monitor's dominant run at a level of LRX, which raises LINE at its 513th count (R121). -/
def monitorTick (level : Bool) (s : State) : List Instr × State :=
  let s := mapLc (fun lc => { lc with dominantRun := if level then 0 else lc.dominantRun + 1 }) s
  (rowIf (s.lc.dominantRun == 513) .lineRaised, s)

/-- The commands of an IDLE framer: an edge seen, and a start opportunity, in the order the count takes them (R108, R117,
log 3). Each bit boundary is an opportunity, which a slot filled first on its count can take. -/
def idleRows (level : Bool) (s : State) : List Instr :=
  if s.lc.framer = .idle then
    let edge := rowIf (s.lc.lrxLast && !level) .frameStartSeen
    let opportunity := rowIf (s.lc.bitPhase == 0) .startOpportunity
    if Config.ownStartFirst s.now then opportunity ++ edge else edge ++ opportunity
  else []

/-- One count of the Line Controller: the commands that fall on it, and the state after what moves of itself. -/
def lineTick (s : State) : List Instr × State :=
  let s := mapLc (fun lc => { lc with bitPhase := (lc.bitPhase + 1) % 8 }) s
  let atBoundary := s.lc.bitPhase = 0
  let begun := if atBoundary then boundaryRows s else []
  let s := if atBoundary then bitBoundary s else s
  let level := lrxLevel s.pins s.lc.ltx
  let (raised, s) := monitorTick level s
  let starts := idleRows level s
  let (sampled, s) := if s.lc.bitPhase = 4 then sampleBit level s else ([], s)
  (raised ++ begun ++ starts ++ sampled, mapLc (fun lc => { lc with lrxLast := level }) s)

end Sys2Proof.Machine
end

