-- ==== Sys2Proof/Machine/PortTick.lean ====
section
/-! DEFINITION. One count of the local port's pins: the select window and its four phases (R135, R137). -/

namespace Sys2Proof.Machine

/-- A window opens: COMMAND, with SDO held high (R135). -/
def openWindow (lp : LocalPort) : LocalPort := { lp with phase := .command, shift := [], bitCount := 0, sdo := some true }

/-- A window closes after its command was taken, or in DONE: SDO goes to high impedance (R135). -/
def closeWindow (lp : LocalPort) : LocalPort := { lp with phase := .waitWindow, shift := [], bitCount := 0, sdo := none }

/-- The level sampled on SELN moves the framer between windows; a window that closes in COMMAND closed early (R135). SDO is
not driven while the framer waits for SELN high after a hardware reset (log 43). -/
def selectTick (seln : Bool) (lp : LocalPort) : List Instr × LocalPort :=
  match lp.phase, seln with
  | .waitHigh, true => ([], { lp with phase := .waitWindow })
  | .waitHigh, false => ([], lp)
  | .waitWindow, true => ([], lp)
  | .waitWindow, false => ([], openWindow lp)
  | .command, true => ([.windowClosedEarly (bytesOfBits lp.shift)], lp)
  | .turnaround, true => ([], closeWindow lp)
  | .response, true => ([], closeWindow lp)
  | .done, true => ([], closeWindow lp)
  | _, false => ([], lp)

/-- A rising edge of SCK: SDI is sampled in COMMAND, and a whole byte may give a command; TURNAROUND counts its four bytes
(R135, R136). -/
def risingEdge (sdi : Bool) (lp : LocalPort) : List Instr × LocalPort :=
  match lp.phase with
  | .command =>
    let shift := lp.shift ++ [sdi]
    ((if shift.length % 8 = 0 then (commandOfWindow (bytesOfBits shift)).toList else []), { lp with shift := shift })
  | .turnaround =>
    if lp.bitCount + 1 = 32 then ([], { lp with phase := .response, bitCount := 0 })
    else ([], { lp with bitCount := lp.bitCount + 1 })
  | _ => ([], lp)

/-- A falling edge of SCK in RESPONSE: SDO changes to the next bit, or after the last one is held high in DONE (R135). -/
def fallingEdge (lp : LocalPort) : LocalPort :=
  match lp.phase with
  | .response =>
    match (lp.response.flatMap bitsOfByte)[lp.bitCount]? with
    | some bit => { lp with sdo := some bit, bitCount := lp.bitCount + 1 }
    | none => { lp with phase := .done, sdo := some true }
  | _ => lp

/-- One count of the local port. SCK and SDI are ignored while SELN is high (R135); an edge is told from the level of SCK one
count before, which is the model's choice where SELN was high then (log 31). -/
def portTick (s : State) : List Instr × State :=
  let (closed, lp) := selectTick s.pins.seln s.lp
  let (taken, lp) :=
    if s.pins.seln then ([], lp)
    else if s.pins.sck && !lp.lastSck then risingEdge s.pins.sdi lp
    else if !s.pins.sck && lp.lastSck then ([], fallingEdge lp)
    else ([], lp)
  (closed ++ taken, mapLp (fun _ => { lp with lastSck := s.pins.sck }) s)

end Sys2Proof.Machine
end

