-- ==== Sys2Proof/Machine/Idle.lean ====
section
/-! DEFINITION. One count of the station, which a step on an empty queue is (log 1): the pins are sampled, what the count clock
moves moves, and the commands that fall on the count enter the queue in one of the orders left open (log 3). -/

namespace Sys2Proof.Machine

/-! ### Pins -/

/-- The pin levels of a new count: the next of the stimulus, or those that stand (log 4). -/
def nextPins (s : State) : InputPins := s.stimulus.headD s.pins

/-- The edge of FLTN that a new level makes (R89, R96). -/
def fltnRows (old new : Bool) : List Instr := rowIf (old && !new) .fltnFall ++ rowIf (!old && new) .fltnRise

/-- Whether a sensed level of TRIPN moves a station without a local cause (R98). -/
def tripnMoves (trip : TripState) (high : Bool) : Bool :=
  match trip with
  | .armed | .rearm => !high
  | .trippedRemote => high
  | .trippedLocal => false

/-- The command that a level of TRIPN gives, if it moves the station. -/
def tripnRows (trip : TripState) (high : Bool) : List Instr :=
  if tripnMoves trip high then [if high then .tripnHigh else .tripnLow] else []

/-- The commands of the pins: of both on one count, in a free order (R96, log 3). -/
def pinRows (now : Nat) (fltn tripn : List Instr) : List Instr :=
  if !fltn.isEmpty && !tripn.isEmpty && Config.fltnFirst now then fltn ++ tripn else tripn ++ fltn

/-- The pins of a new count are sampled. FLTN takes its new level with its edge's command, and so does TRIPN where it moves
the trip state. That a command of the count taken before that one, a READ_TRIP among them, finds the level of the count before
is the model's choice (R94, R103, log 39). -/
def pinTick (s : State) : List Instr × State :=
  let new := nextPins s
  let moves := tripnMoves s.tc.trip new.tripn
  (pinRows (s.now + 1) (fltnRows s.pins.fltn new.fltn) (tripnRows s.tc.trip new.tripn),
    { s with
      now := s.now + 1
      stimulus := s.stimulus.drop 1
      pins := { new with fltn := s.pins.fltn, tripn := if moves then s.pins.tripn else new.tripn } })

/-! ### The orders of one count -/

/-- Take groups one after another, each time the one that the number names of those left. -/
def takeGroups : Nat → Nat → List (List Instr) → List Instr
  | 0, _, _ => []
  | fuel + 1, n, groups =>
    groups.getD (n % groups.length) [] ++ takeGroups fuel (n / groups.length) (groups.eraseIdx (n % groups.length))

/-- The commands of one count in one queue: as they stand when at most one group has any, else in a free order (log 3). -/
def arrange (now : Nat) (groups : List (List Instr)) : List Instr :=
  if (groups.filter fun g => !g.isEmpty).length ≤ 1 then groups.flatten
  else takeGroups groups.length (Config.countOrder now) groups

/-! ### Marks of the Mail Unit (R132, log 3) -/

/-- Whether a command delivers mail to the station. -/
def deliversMail : Instr → Bool
  | .mailReceived _ _ _ => true
  | _ => false

/-- A new count: no store yet, and whether one may fall on it. -/
def freshMail (rows : List Instr) (mu : MailUnit) : MailUnit :=
  { mu with storeDue := rows.any deliversMail, storedNow := none }

/-- Whether the head of the outbound queue is complete and the receipt list has room (R128). -/
def headLeaves (mu : MailUnit) : Bool :=
  match mu.queue with
  | [] => false
  | head :: _ => head.outcome.isSome && decide (mu.receipts.length < 4)

/-! ### One count -/

/-- The time base's part of a count: none while it stands still (R1). -/
def timePart (s : State) : List Instr × State :=
  let s := mapTb freshCount s
  match s.config with
  | none => ([], s)
  | some cfg => timeTick cfg s

/-- One count of the station with RESETN high. -/
def runningTick (s : State) : State :=
  let (pinRows, s) := pinTick s
  let (timeRows, s) := timePart s
  let (lineRows, s) := lineTick s
  let (portRows, s) := portTick s
  let s := mapMu (freshMail lineRows) s
  let timeRows := timeRows ++ rowIf (headLeaves s.mu) .mailCompletion
  { s with pending := arrange s.now [pinRows, timeRows, lineRows, portRows] }

/-- One count with RESETN low: no block holds any state, so that TRIPN is not driven and nothing moves (R95, R123, log 22). -/
def heldInReset (s : State) : State :=
  { State.reset with
    now := s.now + 1, stimulus := s.stimulus.drop 1, sid := s.sid, pins := nextPins s, lp := LocalPort.reset }

/-- One count of the station. At the count at which RESETN is released the straps, FLTN and SELN are sampled (R94, R107,
R135). TRIPN is sensed from the count after it on, which is the model's choice (R95, log 34), and LC takes LRX from the count
after it on, which is so too (R123, log 37). -/
def tick (s : State) : State :=
  let new := nextPins s
  if !new.resetn then heldInReset s
  else if !s.pins.resetn then { heldInReset s with pending := [.hardwareReset new.straps new.fltn] }
  else runningTick s

end Sys2Proof.Machine
end

