-- ==== Sys2Proof/Safety.lean ====
section
/-! DEFINITION. What claims speak of: the laws of the device, and the shapes in which statements say what a command does and
what it leaves alone. -/

namespace Sys2Proof.Machine

/-! ### Shapes of statements -/

/-- LP with a response formed: status code, length, payload and the CRC-8 over them; the framer is in TURNAROUND with SDO
high (R135, R136, 10.3). That a command row does this with no window open too, and that the response stands until the next, is
the model's choice (log 19). -/
def answered (status : Byte) (payload : List Byte) (lp : LocalPort) : LocalPort :=
  { lp with
    phase := .turnaround
    shift := []
    bitCount := 0
    sdo := some true
    response :=
      status :: BitVec.ofNat 8 payload.length :: payload ++
        [crc8 (status :: BitVec.ofNat 8 payload.length :: payload)] }

/-- A command that is answered and changes nothing else. -/
def answersOnly (c : Instr) (status : Byte) (payload : List Byte) (s : State) : Prop :=
  exec c s = .next { s with lp := answered status payload s.lp }

/-- What the outside world owns, and what is fixed at a hardware reset, stands. -/
def hostKept (s t : State) : Prop :=
  t.pending = s.pending ∧ t.now = s.now ∧ t.stimulus = s.stimulus ∧ t.sid = s.sid ∧ t.pins = s.pins ∧
    t.config = s.config

/-- The local port stands but for kinds of events added to its set (R142). -/
def eventsAdded (events : EventSet) (s t : State) : Prop := t.lp = { s.lp with events := s.lp.events ||| events }

/-- The local port stands but for kinds added to its event set: all of `must`, and any of `may` (R142). -/
def eventsBetween (must may : EventSet) (s t : State) : Prop :=
  ∃ x, x &&& may = x ∧ t.lp = { s.lp with events := s.lp.events ||| must ||| x }

/-- The event set with kinds added, and then a response formed (R136, R142). -/
def answeredAfter (events : EventSet) (status : Byte) (payload : List Byte) (lp : LocalPort) : LocalPort :=
  answered status payload { lp with events := lp.events ||| events }

/-- The kind's bit when a condition holds, and no kind when it does not. -/
def eventIf (c : Prop) [Decidable c] (e : Event) : EventSet := if c then eventMask e else 0

/-- A record of accepted values (R139). -/
def acceptedValues (cfg : ConfigRecord) : Prop :=
  ((cfg.mode = .edge ∧ 1200 ≤ cfg.period ∧ cfg.period ≤ 65535) ∨
      (cfg.mode = .centre ∧ 600 ≤ cfg.period ∧ cfg.period ≤ 32767)) ∧
    (cfg.deadTime ≤ 255 ∧ 8 * cfg.deadTime ≤ carrierLength cfg) ∧ (1 ≤ cfg.slewMax ∧ cfg.slewMax ≤ 255) ∧
    (1 ≤ cfg.window ∧ cfg.window ≤ 255) ∧ (1 ≤ cfg.holdoverEpochs ∧ cfg.holdoverEpochs ≤ 8) ∧
    (2 ≤ cfg.lossEpochs ∧ cfg.lossEpochs ≤ 8) ∧ (1 ≤ cfg.listenEpochs ∧ cfg.listenEpochs ≤ 8) ∧ cfg.lineDelay ≤ 255

/-- The slots after a fill: the frame is in its slot while the transmitter is on, and else the fill is discarded (R116,
R120). -/
def slotsFilled (lc : LineController) (f : TxFrame) : TxSlots :=
  if lc.txOn then setSlot lc.slots (frameKind f) (some f) else lc.slots

/-- The code of a channel mode (10.1). -/
def channelCode : ChannelMode → Byte
  | .forceOff => 0
  | .pwm => 1
  | .forceHigh => 2
  | .forceLow => 3

/-- The bytes of a channel setting in a SET_DUTY (10.3). -/
def settingBytes (c : ChannelSetting) : List Byte := channelCode c.mode :: natWordBytes c.compare

/-- The payload of a SET_DUTY that carries a duty record: 9 bytes, and 2 more for an apply epoch (10.3). -/
def dutyBytes (d : DutySettings) (apply : Option EpochNumber) : List Byte :=
  settingBytes d.u ++ settingBytes d.v ++ settingBytes d.w ++
    match apply with
    | none => []
    | some e => wordBytes e

/-- A channel at the count at which a setting is applied to it, or its own stands and the request is formed afresh, with the
output counter at a value: FORCE_HIGH requests HIGH, FORCE_LOW LOW and FORCE_OFF neither, and PWM HIGH while the counter is
below the compare value; a changed request or mode restarts the hold count (R72, R75, R79, R82, R83). The request of the count
before and a changed mode are held in the model's own marks (log 3, log 29). -/
structure ChannelApplied (counter : Nat) (new : ChannelSetting) (before after : ChannelState) : Prop where
  setting : after.setting = new
  forceOff : new.mode = .forceOff → after.request = .none
  forceHigh : new.mode = .forceHigh → after.request = .high
  forceLow : new.mode = .forceLow → after.request = .low
  pwm : new.mode = .pwm → after.request = if counter < new.compare then .high else .low
  hold : after.hold =
    if after.request = before.lastRequest ∧ before.modeChanged = false ∧ new.mode = before.setting.mode then before.runHold
    else 0
  marks : after.lastRequest = before.lastRequest ∧ after.runHold = before.runHold ∧
    (after.modeChanged = true ↔ before.modeChanged = true ∨ new.mode ≠ before.setting.mode)

/-- A duty record becomes the setting of all three channels at a value of the output counter (R72, R75, R79). -/
def recordApplied (counter : Nat) (d : DutySettings) (p q : ChannelUnit) : Prop :=
  ChannelApplied counter d.u p.u q.u ∧ ChannelApplied counter d.v p.v q.v ∧ ChannelApplied counter d.w p.w q.w

/-- The settings of all three channels stand, and their requests are formed at a value of the output counter (R83). -/
def requestsFormed (counter : Nat) (p q : ChannelUnit) : Prop :=
  recordApplied counter { u := p.u.setting, v := p.v.setting, w := p.w.setting } p q

/-- The output position is re-based to the shared phase less the current offset, modulo L, and the interval that begins is no
output carrier and has the length L (R10, R15, R18, R66, R75). -/
def outputRebased (cfg : ConfigRecord) (tb : TimeBase) : Prop :=
  (tb.outPos : Int) = ((tb.position + countsPast tb : Nat) - tb.current : Int) % carrierLength cfg ∧ tb.netStep = 0 ∧
    tb.inCarrier = false

/-- The state of LC once a beacon's deadline has been taken by a boundary that is commanded by itself (R49, R50, log 2). -/
def pastDeadline (s : State) : State :=
  if s.tb.boundary = .none ∧ s.mc.beaconDeadline = true then emptySlot .beacon s else s

/-- Whether a peer's entry is neither lost nor made ABSENT between two states, which is what ends its mail (R129). -/
def peerStays (s t : State) (id : StationId) : Prop :=
  t.mc.roster[id.val].state = s.mc.roster[id.val].state ∨
    (t.mc.roster[id.val].state ≠ .lost ∧ t.mc.roster[id.val].state ≠ .absent)

/-- What a boundary does for the head of the mail queue while an open head's destination stays: a due retry fills the MAIL slot
with the head's frame, and with none due the slot stands (R126, R127). -/
def retryTaken (s t : State) : Prop :=
  (∀ head, s.mu.queue.head? = some head → head.outcome = none → peerStays s t head.destination) →
    t.mu.queue.head? = s.mu.queue.head? ∧ t.mu.inFlight = s.mu.inFlight ∧
      (s.mu.retryDue = false → t.mu.retryDue = false ∧ t.lc.slots.mail = s.lc.slots.mail) ∧
      (∀ head rest, s.mu.queue = head :: rest → head.outcome = none → s.mu.retryDue = true →
        t.mu.retryDue = false ∧ t.lc.slots.mail = (slotsFilled (pastDeadline s).lc (mailFrame head)).mail)

/-- Whether a beacon's deadline still stands after a boundary, which takes it when it is commanded by itself (R50, log 2). -/
def deadlineLeft (s : State) : Bool := s.mc.beaconDeadline && decide (s.tb.boundary ≠ .none)

/-- The applied setting of each channel, and whether any has been applied, stand (R72, R90). -/
def settingsKept (s t : State) : Prop :=
  t.pcu.hasApplied = s.pcu.hasApplied ∧ t.pcu.u.setting = s.pcu.u.setting ∧ t.pcu.v.setting = s.pcu.v.setting ∧
    t.pcu.w.setting = s.pcu.w.setting

/-- The step that a state takes is one count with RESETN high, the count before included (log 1, log 22). -/
def oneCount (s : State) : Prop := s.pending = [] ∧ s.pins.resetn = true ∧ (nextPins s).resetn = true

/-- The first timed record is for the epoch that a boundary begins (R78). -/
def recordComesDue (s : State) : Prop := ∃ r, s.pcu.timed.head? = some r ∧ r.epoch = s.tb.epoch + 1

/-- The shared phase and the epoch number stand (R18). -/
def phaseKept (s t : State) : Prop :=
  t.tb.carrier = s.tb.carrier ∧ t.tb.position = s.tb.position ∧ t.tb.epoch = s.tb.epoch

/-- What leaving the line for a station state leaves, RESTART included (R18, R33, R45, R90, R91, R123, R134). The LEAVE slot,
the applied settings, the trip state and the events are said by each statement. That the filter entry of a mail stored on the
same count is cleared too is the model's choice (log 35). -/
structure LeftTheLine (to_ : StationState) (s t : State) : Prop where
  station : t.mc.station = to_
  role : t.mc.role = .none
  record : t.mc.record = none
  roster : ∀ id : StationId, t.mc.roster[id.val] = RosterEntry.blank
  attempts : t.mc.joinAttempts = 0 ∧ t.mc.leaveAttempts = 0
  waits : t.mc.admission = { accepted := false, boundaries := 0 } ∧ t.mc.leaveAcked = false ∧ t.mc.statusFilled = false
  election : t.mc.election = none
  timer : t.mc.listenTimer = none
  lock : t.tb.lock = .free ∧ t.tb.inWindow = 0 ∧ t.tb.missed = 0 ∧ t.tb.phaseError = none
  steps : t.tb.residual = 0 ∧ t.tb.syncLeft = 0 ∧ t.tb.target = 0 ∧ t.tb.current = 0
  output : ∀ cfg, s.config = some cfg → outputRebased cfg t.tb
  duty : t.pcu.run = false ∧ t.pcu.output = .off ∧ t.pcu.pendingDuty = none ∧ t.pcu.due = none ∧ t.pcu.timed = []
  mail : t.mu.queue = [] ∧ t.mu.receipts = [] ∧ t.mu.retryDue = false ∧ t.mu.filter = Vector.replicate 32 none
  inbound : t.mu.bufA = s.mu.bufA ∧ t.mu.bufB = s.mu.bufB ∧ t.mu.overflow = s.mu.overflow ∧ t.mu.ticket = s.mu.ticket
  slots : t.lc.slots.beacon = none ∧ t.lc.slots.join = none ∧ t.lc.slots.status = none ∧ t.lc.slots.mail = none
  causes : t.tc.causes = s.tc.causes ∧ t.tc.tripEpoch = s.tc.tripEpoch
  host : hostKept s t

/-- The trip state and the origin list that an unlocked station goes on with: REARM is left for ARMED at once, and ends the
episode (R100, R102). -/
def unlockedTrip (tc : TripController) : TripController :=
  if tc.trip = .rearm then { tc with trip := .armed, origins := [] } else tc

/-- What an unlocked station posts for it (R100, R107). -/
def unlockedEvents (tc : TripController) : EventSet := if tc.trip = .rearm then eventMask .rearmed else 0

/-- The output state by the gate: OFF while a condition fails; STANDBY from OFF when all hold (R87, R88). -/
def gatedOutput (station : StationState) (lock : LockState) (run : Bool) (trip : TripState) (output : OutputState) :
    OutputState :=
  if (station = .member ∨ station = .leaving) ∧ (lock = .locked ∨ lock = .holdover) ∧ run = true ∧ trip = .armed then
    (if output = .off then .standby else output)
  else .off

/-- What an epoch boundary does in PCU and TC at a station that does not leave the line (R78, R79, R100). The order in which MC,
PCU and TC take it is the model's choice (log 31). -/
structure BoundaryAtPcuAndTc (s t : State) : Prop where
  run : t.pcu.run = s.pcu.run
  notDue : ¬recordComesDue s →
    t.pcu.timed = s.pcu.timed ∧ t.pcu.due = s.pcu.due ∧ t.pcu.pendingDuty = s.pcu.pendingDuty ∧ settingsKept s t ∧
      hasEvent t.lp.events .dutyDue = hasEvent s.lp.events .dutyDue ∧
      hasEvent t.lp.events .dutyDropped = hasEvent s.lp.events .dutyDropped
  becomesDue : ∀ r rest, s.pcu.timed = r :: rest → r.epoch = s.tb.epoch + 1 → (∀ a, s.tb.startMark ≠ .taken a) →
    t.pcu.timed = rest ∧ t.pcu.due = some r.settings ∧ t.pcu.pendingDuty = s.pcu.pendingDuty ∧ settingsKept s t ∧
      hasEvent t.lp.events .dutyDue = hasEvent s.lp.events .dutyDue ∧
      (hasEvent t.lp.events .dutyDropped = true ↔ hasEvent s.lp.events .dutyDropped = true ∨ s.pcu.due ≠ none)
  appliedAtOnce : ∀ r rest a, s.pcu.timed = r :: rest → r.epoch = s.tb.epoch + 1 → s.tb.startMark = .taken a →
    t.pcu.timed = rest ∧ t.pcu.due = none ∧ t.pcu.pendingDuty = none ∧ t.pcu.hasApplied = true ∧
      t.pcu.u.setting = r.settings.u ∧ t.pcu.v.setting = r.settings.v ∧ t.pcu.w.setting = r.settings.w ∧
      (∀ cfg, s.config = some cfg →
        recordApplied (outputCounter cfg s.tb.outPos s.tb.netStep) r.settings s.pcu t.pcu) ∧
      hasEvent t.lp.events .dutyDue = true ∧
      (hasEvent t.lp.events .dutyDropped = true ↔
        hasEvent s.lp.events .dutyDropped = true ∨ s.pcu.due ≠ none ∨ a = true ∨ s.pcu.pendingDuty ≠ none)
  outputEnters : s.tc.trip ≠ .rearm → recordComesDue s → (∃ a, s.tb.startMark = .taken a) → s.pcu.output = .standby →
    gateOpen s = true → t.pcu.output = .active
  outputKept : s.tc.trip ≠ .rearm →
    ¬(recordComesDue s ∧ (∃ a, s.tb.startMark = .taken a) ∧ s.pcu.output = .standby ∧ gateOpen s = true) →
    t.pcu.output = s.pcu.output
  rearms : s.tc.trip = .rearm → lockHeld s.tb.lock = true →
    t.tc = { s.tc with trip := .armed, origins := [] } ∧ hasEvent t.lp.events .rearmed = true ∧
      t.pcu.output = gatedOutput s.mc.station s.tb.lock s.pcu.run .armed .off
  stays : s.tc.trip ≠ .rearm ∨ lockHeld s.tb.lock = false →
    t.tc = s.tc ∧ hasEvent t.lp.events .rearmed = hasEvent s.lp.events .rearmed

/-- A received frame: its source is reported, the reply bits are planned, and only the source's roster entry, TC, MU and
the event set may change (R37, R113, R115). The plan of the reply bits is held in the model's own fields (log 20). -/
def heardFrom (src : StationId) (ack refuse : Bool) (s t : State) : Prop :=
  hostKept s t ∧ t.tb = s.tb ∧ t.pcu = s.pcu ∧ t.lc = { s.lc with replyAck := ack, replyRefuse := refuse } ∧
    t.mc = { s.mc with roster := t.mc.roster } ∧
    ∀ id : StationId, id ≠ src → t.mc.roster[id.val] = s.mc.roster[id.val]

/-- LC once a frame in progress has ended: no reply bit is planned and the framer waits for idle (R108, R113). The plan of the
reply bits is held in the model's own fields (log 20), and that the framer leaves FRAME here is read from the rules (log 24). -/
def frameEnded (lc : LineController) : LineController :=
  { lc with
    replyAck := false
    replyRefuse := false
    framer := if lc.framer = .frame then .waitIdle else lc.framer
    idleRun := if lc.framer = .frame then 0 else lc.idleRun }

/-- LC at the first count of a start bit (R6, R108). The reply bits planned and the mark of a failed check are the model's own
fields (log 20), and so are those of the bit engine (log 30). -/
def frameBegun (config : Option ConfigRecord) (lc : LineController) : LineController :=
  { lc with
    framer := .frame
    beganStill := config.isNone
    replyAck := false
    replyRefuse := false
    bitPhase := 0
    bitIndex := 0
    rxBits := []
    failed := false
    replyDue := false }

/-- LC once its own frame is off the line: it drives nothing and its framer waits for idle (R108, R118). The plan of the reply
bits is held in the model's own fields (log 20), and that a sender's framer waits for idle here is read from the rules (log 24,
log 28). -/
def offTheLine (lc : LineController) : LineController :=
  { lc with onLine := none, ltx := true, replyAck := false, replyRefuse := false, framer := .waitIdle, idleRun := 0 }

/-- The failure count has reached 16 (R34, R119, R120): the transmitter is off, every slot empty and no frame on the line; the
station is ISOLATED, an on-line one having left the line, but for UNCONFIGURED, ISOLATED and MISMATCH, which stand. -/
def isolatedFrom (s t : State) : Prop :=
  t.lc.failures = 16 ∧ t.lc.txOn = false ∧ t.lc.ltx = true ∧ t.lc.attempt = none ∧ t.lc.onLine = none ∧
    (∀ kind, slotOf t.lc.slots kind = none) ∧
    (onLineState s.mc.station = true → LeftTheLine .isolated s t ∧ hasEvent t.lp.events .isolated = true) ∧
    (s.mc.station = .configured ∨ s.mc.station = .conflict →
      t.mc = { s.mc with station := .isolated } ∧ hasEvent t.lp.events .isolated = true) ∧
    (s.mc.station = .unconfigured ∨ s.mc.station = .isolated ∨ s.mc.station = .mismatch →
      t.mc = s.mc ∧ hasEvent t.lp.events .isolated = hasEvent s.lp.events .isolated)

/-! ### Membership, in the words of the rules -/

/-- The roster after a good frame of a source is reported: in an on-line state a peer's silence count is 0 and its last heard
epoch the current one, and its state is not changed (R37). -/
def heardRoster (src : StationId) (s : State) (id : StationId) : RosterEntry :=
  if id = src ∧ src ≠ s.sid ∧ onLineState s.mc.station = true then
    { s.mc.roster[id.val] with silence := 0, lastHeard := s.tb.epoch }
  else s.mc.roster[id.val]

/-- A roster entry after a mask is adopted (R41). `excused` says that the entry is of the sender of a handover beacon. -/
def adoptedEntry (member excused : Bool) (e : RosterEntry) : RosterEntry :=
  if member then { e with state := .member, silence := if e.state = .member then e.silence else 0 }
  else
    { e with
      state :=
        if excused then .absent
        else if e.state = .member then .lost
        else if e.state = .leaving then .absent
        else e.state }

/-- A roster entry after a boundary's silence counting (R40). -/
def countedEntry (lossEpochs : Nat) (e : RosterEntry) : RosterEntry :=
  if e.state = .member ∨ e.state = .leaving then
    { e with silence := e.silence + 1, state := if lossEpochs ≤ e.silence + 1 then .lost else e.state }
  else e

/-- Whether a beacon of a source and a matching geometry is accepted (R43). -/
def acceptedBy43 (src : StationId) (s : State) : Prop :=
  match s.mc.station with
  | .listening => True
  | .joining | .member | .leaving =>
    (s.mc.role = .reference ∧ src < s.sid) ∨
      (s.mc.role ≠ .reference ∧
        (s.mc.record = none ∨ s.mc.election ≠ none ∨
          ∃ r, s.mc.record = some r ∧ ∀ id, r.reference = some id → src = id ∨ src < id))
  | _ => False

/-- Whether an accepted beacon leaves the station with a slot: its own ID is in the mask, and it is MEMBER or LEAVING, or is
JOINING with a try of its join sequence accepted, and so is admitted (R26, R44). -/
def slotAfter (b : Beacon) (s : State) : Prop :=
  inMask b.mask s.sid = true ∧
    (s.mc.station = .member ∨ s.mc.station = .leaving ∨ (s.mc.station = .joining ∧ s.mc.admission.accepted = true))

/-- The reference ID that an accepted beacon gives (R44, R61). -/
def referenceAfter (src : StationId) (b : Beacon) (s : State) : Option StationId → Prop := fun r =>
  (b.handover = false → r = if src = s.sid then none else some src) ∧
    (b.handover = true → lowestId b.mask ≠ some s.sid ∨ slotAfter b s → r = lowestId b.mask) ∧
    (b.handover = true → lowestId b.mask = some s.sid → ¬slotAfter b s → r = lowestOther b.mask s.sid)

/-- What the report of a lost or absent peer does to the mails and the filter, and the events it may add (R129, R132). -/
def lossEvents : EventSet := eventMask .peerLost ||| eventMask .receipt

/-! ### Laws of the device -/

/-- The law of RESETN: while it is low the blocks stand at their values after hardware reset, whatever commands wait and
whatever the levels of the pins (R95, R123, log 22). -/
def heldLaw (s : State) : Prop :=
  s.pins.resetn = false →
    s = { State.reset with
      pending := s.pending, now := s.now, stimulus := s.stimulus, sid := s.sid, pins := s.pins, lp := LocalPort.reset }

/-- The configuration law: a record is held in every station state but UNCONFIGURED (R21, R139, R146). -/
def configLaw (s : State) : Prop := s.config = none ↔ s.mc.station = .unconfigured

/-- The standing-still law: until a configuration is accepted the shared phase holds (0, 0), the epoch number 0 and EPO low,
and the lock state is FREE (R1). -/
def standingStillLaw (s : State) : Prop :=
  s.config = none →
    s.tb.carrier = 0 ∧ s.tb.position = 0 ∧ s.tb.epoch = 0 ∧ s.tb.lock = .free ∧ s.tb.epo = false

/-- The trip law: the set is not empty exactly in TRIPPED_LOCAL, and the origin list holds at most 8 IDs with no repeats and
none in ARMED (R93, R95, R102). -/
def tripLaw (s : State) : Prop :=
  (anyCause s.tc.causes = true ↔ s.tc.trip = .trippedLocal) ∧ s.tc.origins.length ≤ 8 ∧ s.tc.origins.Nodup ∧
    (s.tc.trip = .armed → s.tc.origins = [])

/-- The output law: OFF exactly when a condition of the gate fails, and ACTIVE only once a record has been applied (R87,
R88). -/
def outputLaw (s : State) : Prop :=
  (s.pcu.output = .off ↔ gateOpen s = false) ∧ (s.pcu.output = .active → s.pcu.hasApplied = true)

/-- The law of the timed duty list: at most 4 records, each 1 to 255 epochs ahead, in strictly ascending distance; and none
before a configuration is accepted (R73, R76). -/
def dutyListLaw (s : State) : Prop :=
  s.pcu.timed.length ≤ 4 ∧
    s.pcu.timed.Pairwise (fun a b => epochsAhead a.epoch s.tb.epoch < epochsAhead b.epoch s.tb.epoch) ∧
    (∀ r ∈ s.pcu.timed, 1 ≤ epochsAhead r.epoch s.tb.epoch ∧ epochsAhead r.epoch s.tb.epoch ≤ 255) ∧
    (s.mc.station = .unconfigured → s.pcu.timed = [])

/-- The role law: REFERENCE exactly when the record names the station's own ID; a role exactly in MEMBER and LEAVING; a
candidate is a MEMBER; and a record only in JOINING, MEMBER and LEAVING (R20, R42). -/
def roleLaw (s : State) : Prop :=
  (s.mc.role = .reference ↔ s.mc.record.bind (·.reference) = some s.sid) ∧
    (s.mc.role ≠ .none ↔ slotState s.mc.station = true) ∧
    (s.mc.role = .candidate → s.mc.station = .member) ∧
    (s.mc.record ≠ none → groupState s.mc.station = true)

/-- The election law: a candidate has an election in progress (R51, R54). -/
def electionLaw (s : State) : Prop := s.mc.role = .candidate → s.mc.election ≠ none

/-- The law of a channel's hold count: it is 0 if the request differs from that of the count before or the mode has changed at
this count, and else the count before's gone up by one (R83). The last two are held in the model's own marks (log 3). -/
def stageLaw (c : ChannelState) : Prop :=
  c.hold = if c.request = c.lastRequest ∧ c.modeChanged = false then c.runHold else 0

/-- The bounds of the counts: in-window 0 to 2, missed beacons 0 to 8, failures 0 to 16 (R5, R119). -/
def countsLaw (s : State) : Prop := s.tb.inWindow ≤ 2 ∧ s.tb.missed ≤ 8 ∧ s.lc.failures ≤ 16

/-- A mail of the outbound queue that has no outcome yet and is the head. -/
def openHead (mu : MailUnit) (frame : TxFrame) : Prop :=
  ∃ head rest, mu.queue = head :: rest ∧ head.outcome = none ∧ frame = mailFrame head

/-- The mail law: at most 4 mails and 4 receipts; a mail has at most 3 attempts, and fewer while it has no outcome; the MAIL
slot, and a MAIL frame on the line that can come back to it, hold the head of the queue, which has no outcome; and a flight or a
due retry is of such a head (R116, R124, R126, R127). -/
def mailLaw (s : State) : Prop :=
  s.mu.queue.length ≤ 4 ∧ s.mu.receipts.length ≤ 4 ∧
    (∀ m ∈ s.mu.queue, m.attempts ≤ 3 ∧ (m.outcome = none → m.attempts ≤ 2)) ∧
    (∀ f, s.lc.slots.mail = some f → openHead s.mu f) ∧
    (∀ own, s.lc.onLine = some own → frameKind own.frame = .mail → own.returnable = true → openHead s.mu own.frame) ∧
    (s.mu.inFlight = true ∨ s.mu.retryDue = true → ∃ head rest, s.mu.queue = head :: rest ∧ head.outcome = none)

/-- The slot law: each slot holds a frame of its own kind or nothing (R116). -/
def slotLaw (s : State) : Prop := ∀ kind f, slotOf s.lc.slots kind = some f → frameKind f = kind

/-- The record law: in MEMBER and LEAVING the record's mask holds the station's own ID, with the rank and target it gives; in
every other state a record has neither (R42, R62). -/
def recordLaw (s : State) : Prop :=
  (slotState s.mc.station = true → ∃ cfg r, s.config = some cfg ∧ s.mc.record = some r ∧ inMask r.mask s.sid = true ∧
      r.slot = some (slotIn cfg r.mask s.sid)) ∧
    (slotState s.mc.station = false → ∀ r, s.mc.record = some r → r.slot = none)

/-- The law of own beacons: but in LEAVING, whose beacons are handovers, a beacon that waits, or is on the line and whose
outcome counts, has the station's own ID in its mask; and a frame whose outcome does not count does not come back to its slot
(R33, R48, R52, R118). -/
def ownBeaconLaw (s : State) : Prop :=
  (s.mc.station ≠ .leaving →
    (∀ b, s.lc.slots.beacon = some (.beacon b) → inMask b.mask s.sid = true) ∧
      ∀ own b, s.lc.onLine = some own → own.stale = false → own.restarted = false → own.frame = .beacon b →
        inMask b.mask s.sid = true) ∧
    ∀ own, s.lc.onLine = some own → own.stale = true ∨ own.restarted = true → own.returnable = false

end Sys2Proof.Machine
end

