-- ==== Sys2Proof/Certificates/Slice0/Obligations.lean ====
section
/-! DEFINITION. The statements for the provers. A premise that RESETN is high stands in every statement of what a command
does, as no block holds any state while it is low (R95, R123); what a command does then is said by HardwareReset (log 22). -/

open Sys2Proof Sys2Proof.Machine

/-! ### The queue, reset and the local port -/

/-- Sys2Proof.Machine.step runs the command at the front of the queue on the state with the queue's rest (log 1). -/
def Obligations.StepRunsFront : Prop :=
  ∀ (c : Instr) (rest : List Instr) (s : State), s.pending = c :: rest → step s = exec c { s with pending := rest }

/-- HARDWARE_RESET (R18, R45, R91, R94, R95, R107, R123, R134, R146): every block at its reset values and the straps sampled;
the queue, the count and the other pins stand. FLTN low at the release latches PIN, and differs from FLTN high in TC, the pin
and the event set alone; SELN high at it makes the next count with SELN low a window's first, and SELN low makes the framer
wait for SELN high (R135), with SDO at high impedance till then by the model's choice (log 43). At a count with RESETN low the
blocks hold nothing and TRIPN is not driven; the count at which RESETN is released gives the command with the straps and the
level of FLTN. Every other command taken with RESETN low does nothing, but that the pins FLTN and TRIPN take their levels.
That the command is the release, that the blocks stand at their reset values before it and that such a command does nothing is
the model's (log 22); so is that TRIPN is sensed from the count after the release on (log 34) and LRX likewise (log 37), and
what a field holds that those rules do not name (log 30). -/
def Obligations.HardwareReset : Prop :=
  (∀ (sid : StationId) (s : State), ∃ t,
    exec (.hardwareReset sid true) s = .next t ∧
      t = { State.reset with
        pending := s.pending, now := s.now, stimulus := s.stimulus, sid := sid
        pins := { s.pins with resetn := true, straps := sid, fltn := true }
        lp := { LocalPort.reset with
          phase := if s.pins.seln then .waitWindow else .waitHigh, lastSck := s.pins.sck } } ∧
      t.config = none ∧ (t.tb.carrier = 0 ∧ t.tb.position = 0 ∧ t.tb.epoch = 0 ∧ t.tb.lock = .free ∧ t.tb.inWindow = 0 ∧
        t.tb.missed = 0 ∧ t.tb.residual = 0 ∧ t.tb.target = 0 ∧ t.tb.current = 0 ∧ t.tb.sample = none ∧
        t.tb.phaseError = none ∧ t.tb.outPos = 0 ∧ t.tb.epo = false) ∧
      (t.mc.station = .unconfigured ∧ t.mc.role = .none ∧ t.mc.record = none ∧ t.mc.joinAttempts = 0 ∧
        t.mc.leaveAttempts = 0 ∧ t.mc.election = none ∧ t.mc.listenTimer = none ∧
        ∀ id : StationId, t.mc.roster[id.val] =
          { state := .absent, silence := 0, lastHeard := 0, report := none, phaseError := none }) ∧
      (t.pcu.timed = [] ∧ t.pcu.pendingDuty = none ∧ t.pcu.due = none ∧ t.pcu.run = false ∧
        t.pcu.hasApplied = false ∧ t.pcu.output = .off ∧
        ∀ ch, channelOf t.pcu ch =
          { setting := { mode := .forceOff, compare := 0 }, request := .none, hold := 0, lastRequest := .none
            runHold := 0, modeChanged := false }) ∧
      (t.tc.trip = .armed ∧ anyCause t.tc.causes = false ∧ t.tc.origins = [] ∧ t.tc.tripEpoch = none) ∧
      (t.lc.txOn = false ∧ (∀ kind, slotOf t.lc.slots kind = none) ∧ t.lc.onLine = none ∧ t.lc.failures = 0 ∧
        t.lc.framer = .waitIdle ∧ t.lc.lineActive = false) ∧
      (t.mu.queue = [] ∧ t.mu.receipts = [] ∧ t.mu.bufA = none ∧ t.mu.bufB = none ∧ t.mu.overflow = false ∧
        (∀ id : StationId, t.mu.filter[id.val] = none) ∧ t.mu.ticket = 0 ∧ t.mu.retryDue = false) ∧
      (t.lp.events = 0 ∧ t.lp.mask = 0 ∧ t.lp.sdo = none ∧
        (s.pins.seln = true → t.lp.phase = .waitWindow) ∧ (s.pins.seln = false → t.lp.phase = .waitHigh)) ∧
      gatePins t = [false, false, false, false, false, false] ∧ drivesTripn t = false ∧ attention t = false) ∧
  (∀ (sid : StationId) (s t : State), exec (.hardwareReset sid true) s = .next t →
    exec (.hardwareReset sid false) s = .next
      { t with
        pins := { t.pins with fltn := false }
        tc := { trip := .trippedLocal, causes := { pin := true, command := false, line := false }, origins := [sid],
                tripEpoch := some 0 }
        lp := { t.lp with events := eventMask .trip } }) ∧
  (∀ s held : State, s.pending = [] →
    held = { State.reset with
      now := s.now + 1, stimulus := s.stimulus.drop 1, sid := s.sid, pins := s.stimulus.headD s.pins
      lp := LocalPort.reset } →
    drivesTripn held = false ∧ gatePins held = [false, false, false, false, false, false] ∧ attention held = false ∧
      (held.pins.resetn = false → step s = .next held) ∧
      (s.pins.resetn = false → held.pins.resetn = true →
        step s = .next { held with pending := [.hardwareReset held.pins.straps held.pins.fltn] })) ∧
  (∀ (c : Instr) (s : State), s.pins.resetn = false → (∀ sid fltn, c ≠ .hardwareReset sid fltn) → ∃ pins : InputPins,
    exec c s = .next { s with pins := pins } ∧
      (c ≠ .fltnFall → c ≠ .fltnRise → c ≠ .tripnLow → c ≠ .tripnHigh → pins = s.pins) ∧
      (c = .fltnFall → pins = { s.pins with fltn := false }) ∧ (c = .fltnRise → pins = { s.pins with fltn := true }) ∧
      (c = .tripnLow → pins = { s.pins with tripn := false }) ∧ (c = .tripnHigh → pins = { s.pins with tripn := true }))

/-- A LOAD_CONFIG or SET_DUTY payload is taken for a record exactly when it is that record's bytes and every field has an
accepted value (R73, R139, R148, 10.3): no bit of a layout is dropped, a bit without a field must be 0, and the bytes
READ_CONFIG returns are those that were accepted. -/
def Obligations.PayloadLayouts : Prop :=
  (∀ (payload : List Byte) (cfg : ConfigRecord),
    configOfBytes payload = some cfg ↔ acceptedValues cfg ∧ payload = configBytes cfg) ∧
  (∀ (period : Nat) (payload : List Byte) (d : DutySettings) (apply : Option EpochNumber), period ≤ 65535 →
    (dutyOfBytes period payload = some (d, apply) ↔
      d.u.compare ≤ period ∧ d.v.compare ≤ period ∧ d.w.compare ≤ period ∧ payload = dutyBytes d apply))

/-- LOAD_CONFIG (R1, R21, R83, R120, R139): STATE outside UNCONFIGURED; BAD_ARG when the payload is no record of accepted
values; else the record is held, MC enters CONFIGURED, TB starts from (0, 0) of epoch 0 and the transmitter turns on. -/
def Obligations.LoadConfig : Prop :=
  ∀ (payload : List Byte) (s : State), s.pins.resetn = true →
    (s.mc.station ≠ .unconfigured → answersOnly (.loadConfig payload) 0x10 [] s) ∧
    (s.mc.station = .unconfigured → configOfBytes payload = none → answersOnly (.loadConfig payload) 0x11 [] s) ∧
    (∀ cfg, s.mc.station = .unconfigured → configOfBytes payload = some cfg → ∃ t,
      exec (.loadConfig payload) s = .next t ∧
        t = { s with
          config := some cfg
          tb := t.tb
          mc := { s.mc with station := .configured }
          pcu := { s.pcu with output := .off }
          lc := { s.lc with txOn := true }
          lp := answered 0x00 [] s.lp } ∧
        t.tb.carrier = 0 ∧ t.tb.position = 0 ∧ t.tb.epoch = 0 ∧ t.tb.lock = .free ∧ t.tb.outPos = 0 ∧
        t.tb.current = 0 ∧ t.tb.target = 0 ∧ t.tb.residual = 0 ∧ t.tb.inWindow = 0 ∧ t.tb.missed = 0 ∧
        t.tb.epo = false)

/-- READ_STATUS, READ_ROSTER, READ_EPOCH, READ_TRIP and READ_CONFIG answer with their records and change no state beside the
response; a payload of another length, and an ID above 31, are answered BAD_ARG (R103, R138, R140). The bytes of the records
are said by RecordBytes. -/
def Obligations.ReadsChangeNothing : Prop :=
  ∀ s : State, s.pins.resetn = true →
    answersOnly (.readStatus []) 0x00 (statusRecord s) s ∧ answersOnly (.readEpoch []) 0x00 (epochRecord s) s ∧
      answersOnly (.readTrip []) 0x00 (tripRecord s) s ∧
      (∀ cfg, s.config = some cfg → answersOnly (.readConfig []) 0x00 (configBytes cfg) s) ∧
      (s.config = none → answersOnly (.readConfig []) 0x14 [] s) ∧
      (∀ id : StationId, answersOnly (.readRoster [idByte id]) 0x00 (rosterRecord s id) s) ∧
      (∀ b : Byte, 31 < b.toNat → answersOnly (.readRoster [b]) 0x11 [] s) ∧
      (∀ payload, payload.length ≠ 1 → answersOnly (.readRoster payload) 0x11 [] s) ∧
      (∀ payload, payload ≠ [] → answersOnly (.readStatus payload) 0x11 [] s ∧
        answersOnly (.readEpoch payload) 0x11 [] s ∧ answersOnly (.readTrip payload) 0x11 [] s ∧
        answersOnly (.readConfig payload) 0x11 [] s)

/-- The bytes of the status record, the roster entry, the epoch record and the trip record, as numbers (10.4, R36, R42, R71,
R92, R103, R122, R134, R140). The station's own roster entry mirrors its state and carries what it would put in a STATUS now
(R29, R36). -/
def Obligations.RecordBytes : Prop :=
  (∀ s : State, countsLaw s → mailLaw s →
    (statusRecord s).map BitVec.toNat =
      [s.sid.val, 16 * (stationCode s.mc.station).toNat + 4 * (roleCode s.mc.role).toNat,
        128 * (running s).toNat + 32 * (lockCode s.tb.lock).toNat + 16 * (s.tb.current != s.tb.target).toNat] ++
      (if s.config = none then [0, 0, 0, 0, 0, 0, 0, 0, 0]
      else
        [s.tb.epoch.toNat / 256, s.tb.epoch.toNat % 256, s.tb.carrier % 256, s.tb.position / 256 % 256,
          s.tb.position % 256, s.tb.current / 256 % 256, s.tb.current % 256, s.tb.target / 256 % 256,
          s.tb.target % 256]) ++
      [64 * (outputCode s.pcu.output).toNat + 32 * s.pcu.run.toNat + 16 * s.pcu.hasApplied.toNat +
          8 * s.pcu.pendingDuty.isSome.toNat + 4 * s.pcu.due.isSome.toNat,
        s.pcu.timed.length % 256,
        ((s.pcu.timed.head?.map fun r => r.epoch.toNat).getD 0) / 256,
        ((s.pcu.timed.head?.map fun r => r.epoch.toNat).getD 0) % 256,
        (tripCode s.tc.trip).toNat,
        128 * s.lc.txOn.toNat + 64 * s.lc.lineActive.toNat + 32 * s.lc.onLine.isSome.toNat + s.lc.failures,
        s.lc.slots.trip.isSome.toNat + 2 * s.lc.slots.beacon.isSome.toNat + 8 * s.lc.slots.join.isSome.toNat +
          16 * s.lc.slots.leave.isSome.toNat + 32 * s.lc.slots.status.isSome.toNat + 64 * s.lc.slots.mail.isSome.toNat,
        (s.lc.onLine.map fun own => kindCode (frameKind own.frame)).getD 0,
        32 * s.mu.queue.length +
          16 * ((s.mu.queue.head?.bind (·.outcome)).isSome && decide (s.mu.receipts.length = 4)).toNat +
          4 * (s.mu.queue.head?.map (·.attempts)).getD 0,
        32 * s.mu.receipts.length + 16 * s.mu.bufA.isSome.toNat + 8 * s.mu.bufB.isSome.toNat +
          4 * s.mu.overflow.toNat,
        s.mu.ticket.toNat,
        s.lp.events.toNat / 65536, s.lp.events.toNat / 256 % 256, s.lp.events.toNat % 256,
        s.lp.mask.toNat / 65536, s.lp.mask.toNat / 256 % 256, s.lp.mask.toNat % 256]) ∧
  (∀ s : State,
    (∀ id : StationId, id ≠ s.sid →
      (rosterRecord s id).map BitVec.toNat =
        [id.val,
          128 * s.mc.roster[id.val].report.isSome.toNat + 64 * s.mc.roster[id.val].phaseError.isSome.toNat +
            (entryCode s.mc.roster[id.val].state).toNat,
          s.mc.roster[id.val].silence % 256, s.mc.roster[id.val].lastHeard.toNat / 256,
          s.mc.roster[id.val].lastHeard.toNat % 256,
          (s.mc.roster[id.val].report.map fun r =>
            64 * (lockCode r.lock).toNat + 32 * r.active.toNat + 16 * r.tripped.toNat + 4 * (roleCode r.role).toNat).getD 0,
          (s.mc.roster[id.val].phaseError.map BitVec.toNat).getD 0]) ∧
    (s.mc.station = .member ∨ s.mc.station = .leaving → ∃ err : Byte,
      (s.mc.role = .reference ∨ s.tb.phaseError = none → err = 0) ∧
        (∀ e : Int, s.mc.role ≠ .reference → s.tb.phaseError = some e → err.toInt = max (-128) (min 127 e)) ∧
        (rosterRecord s s.sid).map BitVec.toNat =
          [s.sid.val, 192 + (if s.mc.station = .member then 2 else 3), 0, s.tb.epoch.toNat / 256,
            s.tb.epoch.toNat % 256,
            64 * (lockCode s.tb.lock).toNat + (if s.pcu.output = .active then 32 else 0) +
              (if s.tc.trip = .armed then 0 else 16) + 4 * (roleCode s.mc.role).toNat,
            err.toNat]) ∧
    (slotState s.mc.station = false →
      (rosterRecord s s.sid).map BitVec.toNat =
        [s.sid.val, if s.mc.station = .joining then 1 else 0, 0, s.tb.epoch.toNat / 256, s.tb.epoch.toNat % 256, 0, 0]) ∧
    (s.mc.record = none →
      (epochRecord s).map BitVec.toNat =
        [0, 0, 0, 0, 0, 0, 0, 0, 0, 0, 0, 0, s.tb.epoch.toNat / 256, s.tb.epoch.toNat % 256,
          (lockCode s.tb.lock).toNat]) ∧
    (∀ r : EpochRecord, s.mc.record = some r → recordLaw s →
      (epochRecord s).map BitVec.toNat =
        [r.epoch.toNat / 256, r.epoch.toNat % 256, r.mask.toNat / 16777216, r.mask.toNat / 65536 % 256,
          r.mask.toNat / 256 % 256, r.mask.toNat % 256, maskSize r.mask,
          (r.reference.map fun id => 128 + id.val).getD 0, (r.slot.map fun slot => 128 + slot.rank).getD 0,
          (r.slot.map fun slot => slot.target / 256 % 256).getD 0, (r.slot.map fun slot => slot.target % 256).getD 0,
          r.handover.toNat, s.tb.epoch.toNat / 256, s.tb.epoch.toNat % 256, (lockCode s.tb.lock).toNat]) ∧
    (tripLaw s →
      (tripRecord s).map BitVec.toNat =
        [128 * (s.pins.tripn && !anyCause s.tc.causes).toNat + 64 * (anyCause s.tc.causes).toNat +
            (tripCode s.tc.trip).toNat,
          s.tc.causes.pin.toNat + 2 * s.tc.causes.command.toNat + 4 * s.tc.causes.line.toNat +
            16 * (s.tc.causes.pin && !s.pins.fltn).toNat + 64 * (s.tc.causes.line && s.lc.lineActive).toNat,
          s.tc.tripEpoch.isSome.toNat, (s.tc.tripEpoch.map fun e => e.toNat / 256).getD 0,
          (s.tc.tripEpoch.map fun e => e.toNat % 256).getD 0, s.tc.origins.length] ++
        s.tc.origins.map (·.val) ++ List.replicate (8 - s.tc.origins.length) 0))

/-- READ_EVENTS (R143) is answered OK with the event set, whatever the mask, and clears every kind it returns. Of a posting
and a read on the same count, the posting taken first is returned and cleared, and the read taken first leaves it present.
The set is cleared whatever becomes of the window, and READ_STATUS shows it without clearing it. -/
def Obligations.ReadEvents : Prop :=
  ∀ s : State, s.pins.resetn = true →
    (∀ payload, payload ≠ [] → answersOnly (.readEvents payload) 0x11 [] s) ∧
    exec (.readEvents []) s = .next { s with lp := answered 0x00 (eventBytes s.lp.events) { s.lp with events := 0 } } ∧
    (∀ (mask : EventSet) (t : State), t = { s with lp := { s.lp with mask := mask } } →
      exec (.readEvents []) t = .next { t with lp := answered 0x00 (eventBytes s.lp.events) { t.lp with events := 0 } }) ∧
    (∀ e t, exec (.readEvents []) (post e s) = .next t → t.lp.events = 0 ∧
      t.lp.response = (answered 0x00 (eventBytes (s.lp.events ||| eventMask e)) s.lp).response) ∧
    (∀ e t, exec (.readEvents []) s = .next t → (post e t).lp.events = eventMask e) ∧
    (∀ lp : LocalPort, (closeWindow lp).events = lp.events) ∧
    (∀ t, exec (.readStatus []) s = .next t → t.lp.events = s.lp.events ∧
      (t.lp.response.drop 25).take 3 = eventBytes s.lp.events)

/-- SET_EVENT_MASK (R144): 3 bytes, one bit a kind in the order of 10.4; a 1 in bit 23 is BAD_ARG and leaves the mask; else
the mask becomes the set of those bits and the answer is OK. The mask is empty after hardware reset and kept by RESTART and
by leaving the line. The event set is not changed. -/
def Obligations.SetEventMask : Prop :=
  ∀ (s : State) (b2 b1 b0 : Byte),
    (s.pins.resetn = true →
      (∀ payload : List Byte, payload.length ≠ 3 → answersOnly (.setEventMask payload) 0x11 [] s) ∧
      (128 ≤ b2.toNat → answersOnly (.setEventMask [b2, b1, b0]) 0x11 [] s) ∧
      (b2.toNat < 128 → ∃ mask : EventSet,
        mask.toNat = 65536 * b2.toNat + 256 * b1.toNat + b0.toNat ∧
          exec (.setEventMask [b2, b1, b0]) s = .next { s with lp := answered 0x00 [] { s.lp with mask := mask } })) ∧
    (∀ sid fltn t, exec (.hardwareReset sid fltn) s = .next t → t.lp.mask = 0) ∧
    (∀ payload t, exec (.restart payload) s = .next t → t.lp.mask = s.lp.mask) ∧
    (∀ keep to_, (leaveLine keep to_ s).lp.mask = s.lp.mask)

/-- The framer takes a command at the last bit of its CRC byte and no sooner (R135, R136, R137, R138, 10.3): the bytes of a
command frame give the command of its code, any shorter run of them none; another CRC byte gives FRAME_ERROR, and a length byte
above 16 COMMAND_LENGTH_OVERFLOW at once. An unknown code is answered BAD_COMMAND and a bad CRC FRAME_ERROR with nothing else
done; an overflow forms no response and SDO stays high; a window that closed early is discarded. At each count SELN opens and
closes the window; inside it a rise of SCK samples SDI in COMMAND and counts four bytes in TURNAROUND, and a fall in RESPONSE
changes SDO to the next bit, and after the last to high in DONE. An edge of SCK is told from its level one count before (log
31). With SELN low, a framer that waits for SELN high leaves SDO at high impedance, by the model's choice (log 43). -/
def Obligations.CommandFraming : Prop :=
  (∀ payload : List Byte,
    commandOfCode 0x01 payload = .loadConfig payload ∧ commandOfCode 0x02 payload = .start payload ∧
    commandOfCode 0x03 payload = .leave payload ∧ commandOfCode 0x04 payload = .restart payload ∧
    commandOfCode 0x08 payload = .run payload ∧ commandOfCode 0x09 payload = .halt payload ∧
    commandOfCode 0x0A payload = .setDuty payload ∧ commandOfCode 0x0B payload = .cancelTimed payload ∧
    commandOfCode 0x10 payload = .forceTrip payload ∧ commandOfCode 0x11 payload = .clearTrip payload ∧
    commandOfCode 0x18 payload = .postMail payload ∧ commandOfCode 0x19 payload = .takeMail payload ∧
    commandOfCode 0x1A payload = .takeReceipt payload ∧ commandOfCode 0x20 payload = .readStatus payload ∧
    commandOfCode 0x21 payload = .readRoster payload ∧ commandOfCode 0x22 payload = .readEpoch payload ∧
    commandOfCode 0x23 payload = .readTrip payload ∧ commandOfCode 0x24 payload = .readConfig payload ∧
    commandOfCode 0x28 payload = .readEvents payload ∧ commandOfCode 0x29 payload = .setEventMask payload ∧
    ∀ code : Byte,
      code ∉ ([0x01, 0x02, 0x03, 0x04, 0x08, 0x09, 0x0A, 0x0B, 0x10, 0x11, 0x18, 0x19, 0x1A, 0x20, 0x21, 0x22, 0x23,
        0x24, 0x28, 0x29] : List Byte) → commandOfCode code payload = .unknownCommand code payload) ∧
  (∀ (code : Byte) (payload : List Byte),
    (payload.length ≤ 16 →
      commandOfWindow (commandFrame code payload) = some (commandOfCode code payload) ∧
        (∀ n, n < (commandFrame code payload).length → commandOfWindow ((commandFrame code payload).take n) = none) ∧
        (∀ crc, crc ≠ crc8 (code :: BitVec.ofNat 8 payload.length :: payload) →
          commandOfWindow (code :: BitVec.ofNat 8 payload.length :: payload ++ [crc]) =
            some (.frameError (code :: BitVec.ofNat 8 payload.length :: payload) crc))) ∧
      (∀ length : Byte, 16 < length.toNat →
        commandOfWindow [code, length] = some (.commandLengthOverflow code length))) ∧
  (∀ s : State, s.pins.resetn = true →
    (∀ code payload, answersOnly (.unknownCommand code payload) 0x12 [] s) ∧
    (∀ body crc, answersOnly (.frameError body crc) 0x18 [] s) ∧
    (∀ code length, exec (.commandLengthOverflow code length) s = .next { s with
      lp := { s.lp with phase := .done, shift := [], bitCount := 0, sdo := some true, response := [] } }) ∧
    (∀ bytes, exec (.windowClosedEarly bytes) s = .next { s with
      lp := { s.lp with phase := .waitWindow, shift := [], bitCount := 0, sdo := none, response := [] } })) ∧
  (∀ (s : State) (pins : InputPins), oneCount s → pins = s.stimulus.headD s.pins → ∃ t, step s = .next t ∧
    (pins.seln = true →
      (s.lp.phase = .waitHigh → t.lp = { s.lp with phase := .waitWindow, lastSck := pins.sck }) ∧
      (s.lp.phase = .waitWindow → t.lp = { s.lp with lastSck := pins.sck }) ∧
      (s.lp.phase = .command → t.lp = { s.lp with lastSck := pins.sck } ∧
        Instr.windowClosedEarly (bytesOfBits s.lp.shift) ∈ t.pending) ∧
      (s.lp.phase = .turnaround ∨ s.lp.phase = .response ∨ s.lp.phase = .done →
        t.lp = { s.lp with phase := .waitWindow, shift := [], bitCount := 0, sdo := none, lastSck := pins.sck })) ∧
    (pins.seln = false → s.lp.phase = .waitHigh → t.lp = { s.lp with lastSck := pins.sck }) ∧
    (∀ lp : LocalPort, pins.seln = false →
      (s.lp.phase = .waitWindow ∧ lp = { s.lp with phase := .command, shift := [], bitCount := 0, sdo := some true }) ∨
        (s.lp.phase ≠ .waitHigh ∧ s.lp.phase ≠ .waitWindow ∧ lp = s.lp) →
      (pins.sck = s.lp.lastSck → t.lp = { lp with lastSck := pins.sck }) ∧
      (pins.sck = true → s.lp.lastSck = false →
        (lp.phase = .command → t.lp = { lp with shift := lp.shift ++ [pins.sdi], lastSck := true } ∧
          ∀ c, (lp.shift.length + 1) % 8 = 0 → commandOfWindow (bytesOfBits (lp.shift ++ [pins.sdi])) = some c →
            c ∈ t.pending) ∧
        (lp.phase = .turnaround → t.lp = { lp with
          phase := if lp.bitCount + 1 = 32 then .response else .turnaround
          bitCount := if lp.bitCount + 1 = 32 then 0 else lp.bitCount + 1
          lastSck := true }) ∧
        (lp.phase = .response ∨ lp.phase = .done → t.lp = { lp with lastSck := true })) ∧
      (pins.sck = false → s.lp.lastSck = true →
        (lp.phase ≠ .response → t.lp = { lp with lastSck := false }) ∧
        (∀ bit, lp.phase = .response → (lp.response.flatMap bitsOfByte)[lp.bitCount]? = some bit →
          t.lp = { lp with sdo := some bit, bitCount := lp.bitCount + 1, lastSck := false }) ∧
        (lp.phase = .response → 8 * lp.response.length ≤ lp.bitCount →
          t.lp = { lp with phase := .done, sdo := some true, lastSck := false }))))

/-! ### Membership commands of the controller -/

/-- START (R21, R22): in CONFIGURED the station enters LISTENING with the listen timer at 0; the BEACON, JOIN, LEAVE and
STATUS slots are emptied, a frame of those kinds in its arbitration field is withdrawn, and the outcome of one on the line is
discarded; ACCEPTED. Elsewhere STATE, and nothing changes. -/
def Obligations.StartListens : Prop :=
  ∀ (payload : List Byte) (s : State), s.pins.resetn = true →
    (s.mc.station ≠ .configured → answersOnly (.start payload) 0x10 [] s) ∧
    (s.mc.station = .configured → payload ≠ [] → answersOnly (.start payload) 0x11 [] s) ∧
    (s.mc.station = .configured → ∃ t,
      exec (.start []) s = .next t ∧
        t = { s with
          mc := { s.mc with station := .listening, listenTimer := some 0, beaconDeadline := false }
          pcu := { s.pcu with output := .off }
          lc := t.lc
          lp := answered 0x01 [] s.lp } ∧
        t.lc = { s.lc with
          slots := { TxSlots.empty with trip := s.lc.slots.trip, mail := s.lc.slots.mail }
          attempt := t.lc.attempt, ltx := t.lc.ltx, onLine := t.lc.onLine } ∧
        (s.lc.attempt = none ∨ s.lc.attempt = some .trip ∨ s.lc.attempt = some .mail →
          t.lc.attempt = s.lc.attempt ∧ t.lc.ltx = s.lc.ltx) ∧
        (s.lc.attempt ≠ none → s.lc.attempt ≠ some .trip → s.lc.attempt ≠ some .mail →
          t.lc.attempt = none ∧ t.lc.ltx = true) ∧
        (s.lc.onLine = none → t.lc.onLine = none) ∧
        (∀ own, s.lc.onLine = some own → frameKind own.frame = .trip ∨ frameKind own.frame = .mail →
          t.lc.onLine = some own) ∧
        (∀ own, s.lc.onLine = some own → frameKind own.frame ≠ .trip → frameKind own.frame ≠ .mail →
          t.lc.onLine = some { own with returnable := false, stale := true }))

/-- LEAVE (R28, R31, R32, R59): ACCEPTED in JOINING, MEMBER and LEAVING, and STATE elsewhere. A JOINING station leaves the
line with one LEAVE kept and LEFT posted; a member that is not the reference becomes a LEAVING follower with a LEAVE filled;
the reference becomes LEAVING, its leave-acknowledged mark cleared and all else unchanged; a LEAVING station is not changed. -/
def Obligations.LeaveByState : Prop :=
  ∀ s : State, s.pins.resetn = true → outputLaw s →
    (groupState s.mc.station = false → answersOnly (.leave []) 0x10 [] s) ∧
    (∀ payload, payload ≠ [] →
      answersOnly (.leave payload) (if groupState s.mc.station then 0x11 else 0x10) [] s) ∧
    (s.mc.station = .joining → ∃ t,
      exec (.leave []) s = .next t ∧ LeftTheLine .configured s t ∧ phaseKept s t ∧ settingsKept s t ∧
        t.tc = unlockedTrip s.tc ∧
        t.lp = answeredAfter (eventMask .left ||| unlockedEvents s.tc) 0x01 [] s.lp ∧
        t.lc.slots.leave = (slotsFilled s.lc .leave).leave ∧ t.lc.slots.trip = s.lc.slots.trip) ∧
    (s.mc.station = .member → s.mc.role ≠ .reference →
      exec (.leave []) s = .next { s with
        mc := { s.mc with
          station := .leaving, role := .follower, leaveAttempts := 0, leaveAcked := false
          election := s.mc.election.map fun e => { e with standing := none }
          beaconDeadline := if s.mc.role = .candidate then false else s.mc.beaconDeadline }
        lc := (fillSlot .leave (if s.mc.role = .candidate then emptySlot .beacon s else s)).lc
        lp := answered 0x01 [] s.lp }) ∧
    (s.mc.station = .member → s.mc.role = .reference →
      exec (.leave []) s =
        .next { s with mc := { s.mc with station := .leaving, leaveAcked := false }, lp := answered 0x01 [] s.lp }) ∧
    (s.mc.station = .leaving → answersOnly (.leave []) 0x01 [] s)

/-- RESTART (R18, R33, R35, R91, R107, R118, R123, R134, R141): in every state but UNCONFIGURED the station is CONFIGURED as
on leaving the line; every slot is empty, the failure count 0 and the transmitter on; PCU is as after hardware reset; a frame
on the line stands, completes on the line, and its outcome is to be discarded; REARMED is the one event it can post. -/
def Obligations.RestartAll : Prop :=
  ∀ (payload : List Byte) (s : State), s.pins.resetn = true →
    (s.mc.station = .unconfigured → answersOnly (.restart payload) 0x10 [] s) ∧
    (s.mc.station ≠ .unconfigured → payload ≠ [] → answersOnly (.restart payload) 0x11 [] s) ∧
    (s.mc.station ≠ .unconfigured → ∃ t,
      exec (.restart []) s = .next t ∧ LeftTheLine .configured s t ∧ phaseKept s t ∧
        (∀ kind, slotOf t.lc.slots kind = none) ∧ t.lc.failures = 0 ∧ t.lc.txOn = true ∧ t.lc.attempt = none ∧
        t.lc.framer = s.lc.framer ∧ t.lc.lineActive = s.lc.lineActive ∧
        (t.lc.onLine = none ↔ s.lc.onLine = none) ∧
        t.lc.onLine.map (·.frame) = s.lc.onLine.map (·.frame) ∧
        (∀ own, t.lc.onLine = some own → own.restarted = true ∧ own.returnable = false) ∧
        t.pcu.hasApplied = false ∧
        (∀ ch, channelOf t.pcu ch =
          { setting := { mode := .forceOff, compare := 0 }, request := .none, hold := 0, lastRequest := .none
            runHold := 0, modeChanged := false }) ∧
        t.tc = unlockedTrip s.tc ∧ t.lp = answeredAfter (unlockedEvents s.tc) 0x00 [] s.lp)

/-! ### Duty commands -/

/-- RUN and HALT (R86, R87, R88): STATE in UNCONFIGURED; else OK with the RUN flag set or cleared and the output state by the
gate, which HALT always closes. -/
def Obligations.RunAndHalt : Prop :=
  ∀ (payload : List Byte) (s : State), s.pins.resetn = true →
    (s.mc.station = .unconfigured →
      answersOnly (.run payload) 0x10 [] s ∧ answersOnly (.halt payload) 0x10 [] s) ∧
    (s.mc.station ≠ .unconfigured → payload ≠ [] →
      answersOnly (.run payload) 0x11 [] s ∧ answersOnly (.halt payload) 0x11 [] s) ∧
    (s.mc.station ≠ .unconfigured →
      exec (.run []) s = .next { s with
        pcu := { s.pcu with
          run := true, output := gatedOutput s.mc.station s.tb.lock true s.tc.trip s.pcu.output }
        lp := answered 0x00 [] s.lp } ∧
      exec (.halt []) s = .next { s with
        pcu := { s.pcu with run := false, output := .off }
        lp := answered 0x00 [] s.lp })

/-- SET_DUTY and CANCEL_TIMED (R73, R74, R76, R77): STATE in UNCONFIGURED, BAD_ARG for a payload that is no duty record.
Untimed, the record takes the pending slot, OK or REPLACED. Timed: LATE for the current epoch and for 1 to 32,767 epochs
back, BAD_ARG beyond 255 ahead; else the record of that epoch is replaced in its place, a list of 4 is FULL, and otherwise
the record is inserted in ascending order. CANCEL_TIMED removes the record of an apply epoch, the order of the others kept,
or answers EMPTY. -/
def Obligations.DutyCommands : Prop :=
  (∀ (payload : List Byte) (s : State), s.pins.resetn = true → configLaw s →
    (s.mc.station = .unconfigured → answersOnly (.setDuty payload) 0x10 [] s) ∧
    (∀ cfg, s.config = some cfg → dutyOfBytes cfg.period payload = none → answersOnly (.setDuty payload) 0x11 [] s) ∧
    (∀ cfg d, s.config = some cfg → dutyOfBytes cfg.period payload = some (d, none) →
      exec (.setDuty payload) s = .next { s with
        pcu := { s.pcu with pendingDuty := some d }
        lp := answered (if s.pcu.pendingDuty = none then 0x00 else 0x02) [] s.lp })) ∧
  (∀ (payload : List Byte) (s : State) (cfg : ConfigRecord) (d : DutySettings) (apply : EpochNumber), s.pins.resetn = true →
    configLaw s → dutyListLaw s → s.config = some cfg → dutyOfBytes cfg.period payload = some (d, some apply) →
    (epochsAhead apply s.tb.epoch = 0 ∨ 32769 ≤ epochsAhead apply s.tb.epoch →
      answersOnly (.setDuty payload) 0x15 [] s) ∧
    (256 ≤ epochsAhead apply s.tb.epoch → epochsAhead apply s.tb.epoch ≤ 32768 →
      answersOnly (.setDuty payload) 0x11 [] s) ∧
    (1 ≤ epochsAhead apply s.tb.epoch → epochsAhead apply s.tb.epoch ≤ 255 →
      ((∃ r ∈ s.pcu.timed, r.epoch = apply) →
        exec (.setDuty payload) s = .next { s with
          pcu := { s.pcu with
            timed := s.pcu.timed.map fun r => if r.epoch = apply then { epoch := apply, settings := d } else r }
          lp := answered 0x02 [] s.lp }) ∧
      ((∀ r ∈ s.pcu.timed, r.epoch ≠ apply) → s.pcu.timed.length = 4 → answersOnly (.setDuty payload) 0x13 [] s) ∧
      ((∀ r ∈ s.pcu.timed, r.epoch ≠ apply) → s.pcu.timed.length < 4 → ∃ before after,
        s.pcu.timed = before ++ after ∧
          (∀ r ∈ before, epochsAhead r.epoch s.tb.epoch < epochsAhead apply s.tb.epoch) ∧
          (∀ r ∈ after, epochsAhead apply s.tb.epoch < epochsAhead r.epoch s.tb.epoch) ∧
          exec (.setDuty payload) s = .next { s with
            pcu := { s.pcu with timed := before ++ { epoch := apply, settings := d } :: after }
            lp := answered 0x00 [] s.lp }))) ∧
  (∀ (s : State) (e1 e0 : Byte), s.pins.resetn = true →
    (s.mc.station = .unconfigured → ∀ payload, answersOnly (.cancelTimed payload) 0x10 [] s) ∧
    (s.mc.station ≠ .unconfigured → ∀ payload : List Byte, payload.length ≠ 2 →
      answersOnly (.cancelTimed payload) 0x11 [] s) ∧
    (s.mc.station ≠ .unconfigured → (∃ r ∈ s.pcu.timed, r.epoch = e1 ++ e0) →
      exec (.cancelTimed [e1, e0]) s = .next { s with
        pcu := { s.pcu with timed := s.pcu.timed.filter fun r => r.epoch ≠ e1 ++ e0 }
        lp := answered 0x00 [] s.lp }) ∧
    (s.mc.station ≠ .unconfigured → (∀ r ∈ s.pcu.timed, r.epoch ≠ e1 ++ e0) →
      answersOnly (.cancelTimed [e1, e0]) 0x14 [] s))

/-- PEAK, PENDING_RECORD_APPLY, DUE_RECORD_APPLY, TIMED_RECORD_DUE and OUTPUT_ACTIVE_ENTRY (R3, R75, R78, R79, R88): a record
applied becomes the setting of all three channels, whose requests are formed at the output counter of the count by the mode
and whose hold counts a changed mode restarts (R72, R82, R83), and its slot empties; the due record takes the pending one's
place with DUTY_DROPPED and posts DUTY_DUE; a peak applies the pending record in CENTRE mode with APPLY_AT_PEAK alone, and not
in the interval a jump or a placement begins, which is no output carrier; the first timed record, if it is for the epoch
named, becomes due, a due record it replaces being dropped; STANDBY becomes ACTIVE when the gate is open and a record has been
applied; else nothing changes. That such a row, queued by itself, does its own effect alone is the model's choice (log 2). -/
def Obligations.ApplyPoints : Prop :=
  (∀ s : State, s.pins.resetn = true →
    (s.config = none →
      exec .peak s = .next s ∧ exec .pendingRecordApply s = .next s ∧ exec .dueRecordApply s = .next s) ∧
    (s.pcu.pendingDuty = none → exec .peak s = .next s ∧ exec .pendingRecordApply s = .next s) ∧
    (∀ cfg, s.config = some cfg → cfg.mode = .edge ∨ cfg.applyAtPeak = false → exec .peak s = .next s) ∧
    (s.tb.inCarrier = false → exec .peak s = .next s) ∧
    (s.pcu.due = none → exec .dueRecordApply s = .next s) ∧
    (∀ cfg r, s.config = some cfg → s.pcu.pendingDuty = some r → ∃ t, exec .pendingRecordApply s = .next t ∧
      (cfg.mode = .centre → cfg.applyAtPeak = true → s.tb.inCarrier = true → exec .peak s = .next t) ∧
      t = { s with pcu := { s.pcu with
        u := t.pcu.u, v := t.pcu.v, w := t.pcu.w, hasApplied := true, pendingDuty := none } } ∧
      recordApplied (outputCounter cfg s.tb.outPos s.tb.netStep) r s.pcu t.pcu) ∧
    (∀ cfg r, s.config = some cfg → s.pcu.due = some r → ∃ t, exec .dueRecordApply s = .next t ∧
      t = { s with
        pcu := { s.pcu with
          u := t.pcu.u, v := t.pcu.v, w := t.pcu.w, hasApplied := true, pendingDuty := none, due := none }
        lp := { s.lp with events :=
          s.lp.events ||| eventIf (s.pcu.pendingDuty ≠ none) .dutyDropped ||| eventMask .dutyDue } } ∧
      recordApplied (outputCounter cfg s.tb.outPos s.tb.netStep) r s.pcu t.pcu)) ∧
  (∀ (s : State) (n : EpochNumber), s.pins.resetn = true →
    ((∀ r, s.pcu.timed.head? = some r → r.epoch ≠ n) → exec (.timedRecordDue n) s = .next s) ∧
    (∀ r rest, s.pcu.timed = r :: rest → r.epoch = n →
      exec (.timedRecordDue n) s = .next { s with
        pcu := { s.pcu with due := some r.settings, timed := rest }
        lp := { s.lp with events := s.lp.events ||| eventIf (s.pcu.due ≠ none) .dutyDropped } }) ∧
    (exec .outputActiveEntry s = .next { s with pcu := { s.pcu with
      output := if s.pcu.output = .standby ∧ s.pcu.hasApplied = true ∧
          (s.mc.station = .member ∨ s.mc.station = .leaving) ∧ (s.tb.lock = .locked ∨ s.tb.lock = .holdover) ∧
          s.pcu.run = true ∧ s.tc.trip = .armed then .active else s.pcu.output } }))

/-- A change of the epoch number other than by a boundary (R11, R80, R81): a change to an equal number is not handed over; a
forward one makes the latest record of the skipped epochs due, drops the others and a waiting due record, and keeps those
beyond; a backward one keeps the records 1 to 255 epochs ahead of the new number and drops the others. That DUTY_DROPPED is
posted of a forward change only when it drops a record is read from the rules (log 17). -/
def Obligations.EpochNumberChange : Prop :=
  ∀ (s : State) (n : EpochNumber), dutyListLaw s → ∃ t, setEpoch n s = t ∧
    t = { s with
      tb := { s.tb with epoch := n }
      pcu := { s.pcu with timed := t.pcu.timed, due := t.pcu.due }
      lp := { s.lp with events := t.lp.events } } ∧
    (n = s.tb.epoch → t.pcu = s.pcu ∧ t.lp = s.lp) ∧
    (1 ≤ epochsAhead n s.tb.epoch → epochsAhead n s.tb.epoch ≤ 32767 →
      t.pcu.timed = s.pcu.timed.filter (fun r => epochsAhead n s.tb.epoch < epochsAhead r.epoch s.tb.epoch) ∧
      ((∀ r ∈ s.pcu.timed, epochsAhead n s.tb.epoch < epochsAhead r.epoch s.tb.epoch) →
        t.pcu.due = s.pcu.due ∧ t.lp = s.lp) ∧
      (∀ taken latest beyond, s.pcu.timed = taken ++ latest :: beyond →
        epochsAhead latest.epoch s.tb.epoch ≤ epochsAhead n s.tb.epoch →
        (∀ r ∈ beyond, epochsAhead n s.tb.epoch < epochsAhead r.epoch s.tb.epoch) →
        t.pcu.due = some latest.settings ∧
          eventsAdded (eventIf (taken ≠ [] ∨ s.pcu.due ≠ none) .dutyDropped) s t)) ∧
    (32768 ≤ epochsAhead n s.tb.epoch →
      t.pcu.due = s.pcu.due ∧
      t.pcu.timed = s.pcu.timed.filter (fun r => 1 ≤ epochsAhead r.epoch n ∧ epochsAhead r.epoch n ≤ 255) ∧
      eventsAdded (eventIf (t.pcu.timed ≠ s.pcu.timed) .dutyDropped) s t)

/-- COMPARE_MATCH, DEAD_TIME_EXPIRY and the output counter (R3, R82, R83): a PWM channel requests HIGH while the output
counter is below its compare value and LOW otherwise, and a request that differs from that of the count before restarts the
hold count, which else goes on as this count has it; a hold count that stands at D - 1 reaches D, at which the side requested is
on. Over a carrier of net step n the counter of
EDGE counts to L - 1 and holds there; that of CENTRE counts to P, holds it while the carrier is lengthened, and falls to 1,
losing the counts of a shortened carrier at once after the peak. That such a row, queued by itself, does its own effect alone
is the model's choice (log 2). -/
def Obligations.ChannelStages : Prop :=
  (∀ (s : State) (ch : Channel), s.pins.resetn = true →
    (s.config = none → exec (.compareMatch ch) s = .next s ∧ exec (.deadTimeExpiry ch) s = .next s) ∧
    ((channelOf s.pcu ch).setting.mode ≠ .pwm → exec (.compareMatch ch) s = .next s) ∧
    (∀ cfg, s.config = some cfg → (channelOf s.pcu ch).hold + 1 ≠ cfg.deadTime →
      exec (.deadTimeExpiry ch) s = .next s) ∧
    (∀ cfg, s.config = some cfg → (channelOf s.pcu ch).setting.mode = .pwm → ∃ t,
      exec (.compareMatch ch) s = .next t ∧
        t = { s with pcu := { s.pcu with u := t.pcu.u, v := t.pcu.v, w := t.pcu.w } } ∧
        (∀ other, other ≠ ch → channelOf t.pcu other = channelOf s.pcu other) ∧
        (channelOf t.pcu ch).setting = (channelOf s.pcu ch).setting ∧
        (channelOf t.pcu ch).request =
          (if outputCounter cfg s.tb.outPos s.tb.netStep < (channelOf s.pcu ch).setting.compare then .high else .low) ∧
        (channelOf t.pcu ch).hold =
          (if (channelOf t.pcu ch).request = (channelOf s.pcu ch).lastRequest ∧ (channelOf s.pcu ch).modeChanged = false
            then (channelOf s.pcu ch).runHold else 0) ∧
        (channelOf t.pcu ch).lastRequest = (channelOf s.pcu ch).lastRequest ∧
        (channelOf t.pcu ch).runHold = (channelOf s.pcu ch).runHold ∧
        (channelOf t.pcu ch).modeChanged = (channelOf s.pcu ch).modeChanged) ∧
    (∀ cfg, s.config = some cfg → (channelOf s.pcu ch).hold + 1 = cfg.deadTime → ∃ t,
      exec (.deadTimeExpiry ch) s = .next t ∧
        t = { s with pcu := { s.pcu with u := t.pcu.u, v := t.pcu.v, w := t.pcu.w } } ∧
        (∀ other, other ≠ ch → channelOf t.pcu other = channelOf s.pcu other) ∧
        channelOf t.pcu ch = { channelOf s.pcu ch with
          hold := cfg.deadTime, lastRequest := (channelOf s.pcu ch).request, runHold := cfg.deadTime
          modeChanged := false } ∧
        (sideOn cfg.deadTime (channelOf t.pcu ch) .high = true ↔ (channelOf s.pcu ch).request = .high) ∧
        (sideOn cfg.deadTime (channelOf t.pcu ch) .low = true ↔ (channelOf s.pcu ch).request = .low))) ∧
  (∀ (cfg : ConfigRecord) (x : Nat) (n : Int), acceptedValues cfg → n.natAbs ≤ cfg.slewMax →
    (x : Int) < carrierLength cfg - n →
    (cfg.mode = .edge → outputCounter cfg x n = if x < cfg.period then x else cfg.period - 1) ∧
    (cfg.mode = .centre → n ≤ 0 →
      (x ≤ cfg.period → outputCounter cfg x n = x) ∧
      (cfg.period ≤ x → (x : Int) ≤ cfg.period - n → outputCounter cfg x n = cfg.period) ∧
      ((cfg.period : Int) - n < x → (outputCounter cfg x n : Int) = 2 * cfg.period - n - x)) ∧
    (cfg.mode = .centre → 0 < n →
      (x ≤ cfg.period → outputCounter cfg x n = x) ∧
      (cfg.period < x → (outputCounter cfg x n : Int) = 2 * cfg.period - n - x)))

/-! ### Trips and pins -/

/-- FORCE_TRIP (R94, R96, R97, R104) is answered OK in every station state and trip state. It latches COMMAND: nothing
changes if COMMAND is in the set; in TRIPPED_LOCAL it is added and a further frame filled; else the station enters
TRIPPED_LOCAL with the trip epoch, its own ID in the origin list, a TRIP frame where R101 allows, and TRIP posted. COMMAND
alone is cleared by the next CLEAR_TRIP, and HALT does not touch the trip network. -/
def Obligations.ForceTrip : Prop :=
  ∀ s : State, s.pins.resetn = true → tripLaw s →
    (∀ payload, payload ≠ [] → answersOnly (.forceTrip payload) 0x11 [] s) ∧
    (s.tc.causes.command = true → answersOnly (.forceTrip []) 0x00 [] s) ∧
    (s.tc.causes.command = false → s.tc.trip = .trippedLocal →
      exec (.forceTrip []) s = .next { s with
        tc := { s.tc with causes := { s.tc.causes with command := true } }
        lc := (if s.mc.station = .unconfigured ∨ s.mc.station = .isolated ∨ s.mc.station = .mismatch then s
          else fillSlot (.trip .command s.tb.epoch) s).lc
        lp := answered 0x00 [] s.lp }) ∧
    (s.tc.trip ≠ .trippedLocal → ∃ t,
      exec (.forceTrip []) s = .next t ∧
        t = { s with
          tc := { trip := .trippedLocal
                  causes := { pin := false, command := true, line := false }
                  origins := if s.tc.origins.contains s.sid ∨ s.tc.origins.length = 8 then s.tc.origins
                    else s.tc.origins ++ [s.sid]
                  tripEpoch := some s.tb.epoch }
          pcu := { s.pcu with output := .off }
          lc := (if s.mc.station = .unconfigured ∨ s.mc.station = .isolated ∨ s.mc.station = .mismatch then s
            else fillSlot (.trip .command s.tb.epoch) s).lc
          lp := answeredAfter (eventMask .trip) 0x00 [] s.lp } ∧
        ∃ u, exec (.clearTrip []) t = .next u ∧ anyCause u.tc.causes = false) ∧
    (∀ payload u, exec (.halt payload) s = .next u → u.tc = s.tc)

/-- CLEAR_TRIP (R99, R100, R102, R138): STATE outside TRIPPED_LOCAL; ACTIVE_CAUSE while a cause in the set is active; else OK:
the set is emptied, a TRIP frame still waiting is removed, and the level of TRIPN without the station's own drive gives
TRIPPED_REMOTE or REARM, which an unlocked station leaves for ARMED at once. The trip epoch is kept, and the origin list
within the episode. That the own drive is sensed no longer from the clear on is the model's choice (log 40). -/
def Obligations.ClearTrip : Prop :=
  ∀ s : State, s.pins.resetn = true → outputLaw s →
    (s.tc.trip ≠ .trippedLocal → ∀ payload, answersOnly (.clearTrip payload) 0x10 [] s) ∧
    (s.tc.trip = .trippedLocal → ∀ payload, payload ≠ [] → answersOnly (.clearTrip payload) 0x11 [] s) ∧
    (s.tc.trip = .trippedLocal →
      (s.tc.causes.pin = true ∧ s.pins.fltn = false) ∨ (s.tc.causes.line = true ∧ s.lc.lineActive = true) →
      answersOnly (.clearTrip []) 0x17 [] s) ∧
    (s.tc.trip = .trippedLocal → ¬(s.tc.causes.pin = true ∧ s.pins.fltn = false) →
      ¬(s.tc.causes.line = true ∧ s.lc.lineActive = true) → ∃ t,
      exec (.clearTrip []) s = .next t ∧ hostKept s t ∧ t.tb = s.tb ∧ t.mc = s.mc ∧ t.mu = s.mu ∧
        t.lc = (emptySlot .trip s).lc ∧ drivesTripn t = false ∧ t.tc.tripEpoch = s.tc.tripEpoch ∧
        (s.pins.tripn = false →
          t.tc.trip = .trippedRemote ∧ t.tc.origins = s.tc.origins ∧ t.pcu = s.pcu ∧ t.lp = answered 0x00 [] s.lp) ∧
        (s.pins.tripn = true → lockHeld s.tb.lock = true →
          t.tc.trip = .rearm ∧ t.tc.origins = s.tc.origins ∧ t.pcu = s.pcu ∧ t.lp = answered 0x00 [] s.lp) ∧
        (s.pins.tripn = true → lockHeld s.tb.lock = false →
          t.tc.trip = .armed ∧ t.tc.origins = [] ∧ t.pcu = s.pcu ∧
            t.lp = answeredAfter (eventMask .rearmed) 0x00 [] s.lp))

/-- FLTN and LINE (R89, R94, R96, R97, R106, R121): a fall of FLTN latches PIN and a raising of LINE latches LINE and posts
LINE_FAULT: a cause in the set changes nothing, in TRIPPED_LOCAL it is added to the set with a further TRIP frame, and else
the station enters TRIPPED_LOCAL with the trip epoch, its own ID in the origin list, a TRIP frame where R101 allows, and TRIP
posted. A rise of FLTN and LINE_INACTIVE change nothing but the pin and the line monitor, so that a latched cause stays in
the set. At every count the level of FLTN is sampled: high before and low now gives FLTN_FALL, the converse FLTN_RISE, and the
pin takes the level with that command; an FLTN low at the release of RESETN is said by HardwareReset. That
the pin keeps the level of the count before until that command is the model's choice (log 39). -/
def Obligations.LatchingInputs : Prop :=
  (∀ s : State, s.pins.resetn = true → tripLaw s →
    exec .fltnRise s = .next { s with pins := { s.pins with fltn := true } } ∧
    (s.tc.causes.pin = true → exec .fltnFall s = .next { s with pins := { s.pins with fltn := false } }) ∧
    (s.tc.causes.pin = false → s.tc.trip = .trippedLocal →
      exec .fltnFall s = .next { s with
        pins := { s.pins with fltn := false }
        tc := { s.tc with causes := { s.tc.causes with pin := true } }
        lc := (if s.mc.station = .unconfigured ∨ s.mc.station = .isolated ∨ s.mc.station = .mismatch then s
          else fillSlot (.trip .pin s.tb.epoch) s).lc }) ∧
    (s.tc.trip ≠ .trippedLocal →
      exec .fltnFall s = .next { s with
        pins := { s.pins with fltn := false }
        tc := { trip := .trippedLocal
                causes := { pin := true, command := false, line := false }
                origins := if s.tc.origins.contains s.sid ∨ s.tc.origins.length = 8 then s.tc.origins
                  else s.tc.origins ++ [s.sid]
                tripEpoch := some s.tb.epoch }
        pcu := { s.pcu with output := .off }
        lc := (if s.mc.station = .unconfigured ∨ s.mc.station = .isolated ∨ s.mc.station = .mismatch then s
          else fillSlot (.trip .pin s.tb.epoch) s).lc
        lp := { s.lp with events := s.lp.events ||| eventMask .trip } })) ∧
  (∀ s : State, s.pins.resetn = true → tripLaw s →
    exec .lineInactive s = .next { s with lc := { s.lc with lineActive := false } } ∧
    (s.tc.causes.line = true →
      exec .lineRaised s = .next { s with
        lc := { s.lc with lineActive := true }, lp := { s.lp with events := s.lp.events ||| eventMask .lineFault } }) ∧
    (s.tc.causes.line = false → s.tc.trip = .trippedLocal →
      exec .lineRaised s = .next { s with
        tc := { s.tc with causes := { s.tc.causes with line := true } }
        lc := { (if s.mc.station = .unconfigured ∨ s.mc.station = .isolated ∨ s.mc.station = .mismatch then s
          else fillSlot (.trip .line s.tb.epoch) s).lc with lineActive := true }
        lp := { s.lp with events := s.lp.events ||| eventMask .lineFault } }) ∧
    (s.tc.trip ≠ .trippedLocal →
      exec .lineRaised s = .next { s with
        tc := { trip := .trippedLocal
                causes := { pin := false, command := false, line := true }
                origins := if s.tc.origins.contains s.sid ∨ s.tc.origins.length = 8 then s.tc.origins
                  else s.tc.origins ++ [s.sid]
                tripEpoch := some s.tb.epoch }
        pcu := { s.pcu with output := .off }
        lc := { (if s.mc.station = .unconfigured ∨ s.mc.station = .isolated ∨ s.mc.station = .mismatch then s
          else fillSlot (.trip .line s.tb.epoch) s).lc with lineActive := true }
        lp := { s.lp with events := s.lp.events ||| eventMask .lineFault ||| eventMask .trip } })) ∧
  (∀ (s : State) (pins : InputPins), oneCount s → pins = s.stimulus.headD s.pins → ∃ t, step s = .next t ∧
    (Instr.fltnFall ∈ t.pending ↔ s.pins.fltn = true ∧ pins.fltn = false) ∧
    (Instr.fltnRise ∈ t.pending ↔ s.pins.fltn = false ∧ pins.fltn = true) ∧
    t.pins = { pins with fltn := s.pins.fltn, tripn := t.pins.tripn })

/-- TRIPN as the others leave it, and REARM (R95, R98, R100): low takes ARMED and REARM to TRIPPED_REMOTE with TRIP posted and
the trip epoch and origin list kept; high takes TRIPPED_REMOTE to REARM, which an unlocked station leaves for ARMED at once;
in TRIPPED_LOCAL the level moves nothing. Entering ARMED from REARM empties the list, posts REARMED, and gives STANDBY if the
other conditions of the gate hold. At every count the level of TRIPN is sampled: low in ARMED or REARM gives TRIPN_LOW and
high in TRIPPED_REMOTE gives TRIPN_HIGH, with which the pin takes the level; any other level moves nothing and the pin takes
it at once. That the pin keeps the level of the count before until that command is the model's choice (log 39). That REARM,
queued by itself, does its own effect without a boundary is the model's choice (log 2). -/
def Obligations.TripnAndRearm : Prop :=
  (∀ s : State, s.pins.resetn = true → tripLaw s → outputLaw s →
    (s.tc.trip = .armed ∨ s.tc.trip = .rearm →
      exec .tripnLow s = .next { s with
        pins := { s.pins with tripn := false }
        tc := { s.tc with trip := .trippedRemote }
        pcu := { s.pcu with output := .off }
        lp := { s.lp with events := s.lp.events ||| eventMask .trip } } ∧
      exec .tripnHigh s = .next { s with pins := { s.pins with tripn := true } }) ∧
    (s.tc.trip = .trippedRemote →
      exec .tripnLow s = .next { s with pins := { s.pins with tripn := false } } ∧
      exec .tripnHigh s = .next { s with
        pins := { s.pins with tripn := true }
        tc := { s.tc with
          trip := if lockHeld s.tb.lock then .rearm else .armed
          origins := if lockHeld s.tb.lock then s.tc.origins else [] }
        lp := { s.lp with events := s.lp.events ||| (if lockHeld s.tb.lock then 0 else eventMask .rearmed) } }) ∧
    (s.tc.trip = .trippedLocal →
      exec .tripnLow s = .next { s with pins := { s.pins with tripn := false } } ∧
      exec .tripnHigh s = .next { s with pins := { s.pins with tripn := true } })) ∧
  (∀ s : State, s.pins.resetn = true → outputLaw s →
    (s.tc.trip ≠ .rearm → exec .rearm s = .next s) ∧
    (s.tc.trip = .rearm →
      exec .rearm s = .next { s with
        tc := { s.tc with trip := .armed, origins := [] }
        pcu := { s.pcu with output := gatedOutput s.mc.station s.tb.lock s.pcu.run .armed .off }
        lp := { s.lp with events := s.lp.events ||| eventMask .rearmed } })) ∧
  (∀ (s : State) (pins : InputPins), oneCount s → pins = s.stimulus.headD s.pins →
    let falls := (s.tc.trip = .armed ∨ s.tc.trip = .rearm) ∧ pins.tripn = false
    let rises := s.tc.trip = .trippedRemote ∧ pins.tripn = true
    ∃ t, step s = .next t ∧ (Instr.tripnLow ∈ t.pending ↔ falls) ∧ (Instr.tripnHigh ∈ t.pending ↔ rises) ∧
      (falls ∨ rises → t.pins.tripn = s.pins.tripn) ∧ (¬falls → ¬rises → t.pins.tripn = pins.tripn))

/-- The gate pins and ATTNN (R85, R87, R89, R145): the pins are all low before a record is accepted; else at their off levels
while the output state is not ACTIVE, the trip state is not ARMED, TRIPN is sensed low or FLTN is low; and else each is at
its active level exactly when its side is requested and the hold count equals D. ATTNN is driven low exactly while the event
set and the mask have a kind in common. That the pins are at their off levels at the very count TRIPN or FLTN is low is the
model's choice (log 21). -/
def Obligations.OutputPins : Prop :=
  (∀ s : State,
    (s.config = none → gatePins s = [false, false, false, false, false, false]) ∧
    (∀ cfg, s.config = some cfg →
      (s.pcu.output ≠ .active ∨ s.tc.trip ≠ .armed ∨ s.pins.tripn = false ∨ anyCause s.tc.causes = true ∨
          s.pins.fltn = false →
        gatePins s = [!cfg.polHigh, !cfg.polLow, !cfg.polHigh, !cfg.polLow, !cfg.polHigh, !cfg.polLow]) ∧
      (s.pcu.output = .active → s.tc.trip = .armed → s.pins.tripn = true → anyCause s.tc.causes = false →
          s.pins.fltn = true → ∀ ch,
        ((channelPins s (channelOf s.pcu ch)).1 = cfg.polHigh ↔
          (channelOf s.pcu ch).request = .high ∧ (channelOf s.pcu ch).hold = cfg.deadTime) ∧
        ((channelPins s (channelOf s.pcu ch)).2 = cfg.polLow ↔
          (channelOf s.pcu ch).request = .low ∧ (channelOf s.pcu ch).hold = cfg.deadTime)))) ∧
  (∀ s : State, attention s = true ↔ ∃ e : Event, hasEvent s.lp.events e = true ∧ hasEvent s.lp.mask e = true)

/-! ### Transmit slots and mail -/

/-- A fill and an emptying of a transmit slot (R116, R117, R118): a fill while the transmitter is on puts the frame in the
slot of its kind, over what it held, and a frame of that kind on the line is no longer returnable; while it is off the fill
is discarded. An emptying removes the frame, withdraws one in its arbitration field, and the station stops driving. Nothing
else changes, and the other slots stand. -/
def Obligations.SlotFillAndEmpty : Prop :=
  ∀ (s : State) (f : TxFrame) (kind : FrameKind),
    (s.lc.txOn = false → fillSlot f s = s) ∧
    (s.lc.txOn = true → ∃ t, fillSlot f s = t ∧
      t = { s with lc := { s.lc with slots := t.lc.slots, onLine := t.lc.onLine } } ∧
      (∀ k, slotOf t.lc.slots k = if k = frameKind f then some f else slotOf s.lc.slots k) ∧
      (s.lc.onLine = none → t.lc.onLine = none) ∧
      (∀ own, s.lc.onLine = some own →
        t.lc.onLine = some (if frameKind own.frame = frameKind f then { own with returnable := false } else own))) ∧
    (∃ t, emptySlot kind s = t ∧
      t = { s with lc := { s.lc with
        slots := t.lc.slots, onLine := t.lc.onLine, attempt := t.lc.attempt, ltx := t.lc.ltx } } ∧
      (∀ k, slotOf t.lc.slots k = if k = kind then none else slotOf s.lc.slots k) ∧
      (s.lc.attempt = some kind → t.lc.attempt = none ∧ t.lc.ltx = true) ∧
      (s.lc.attempt ≠ some kind → t.lc.attempt = s.lc.attempt ∧ t.lc.ltx = s.lc.ltx) ∧
      (s.lc.onLine = none → t.lc.onLine = none) ∧
      (∀ own, s.lc.onLine = some own →
        t.lc.onLine = some (if frameKind own.frame = kind then { own with returnable := false } else own)))

/-- POST_MAIL (R124, R125, R126): STATE outside JOINING, MEMBER and LEAVING; BAD_ARG for a destination above 31 or the
station's own, or no data, or more than 8 bytes; NO_PEER unless the destination's entry is MEMBER; FULL with 4 mails; else OK
with the ticket: the mail is at the tail, the ticket counter goes up, and posted to an empty queue its frame is filled. -/
def Obligations.PostMail : Prop :=
  ∀ (s : State) (dest : Byte) (data : List Byte), s.pins.resetn = true →
    (groupState s.mc.station = false → ∀ payload, answersOnly (.postMail payload) 0x10 [] s) ∧
    (groupState s.mc.station = true → answersOnly (.postMail []) 0x11 [] s) ∧
    (groupState s.mc.station = true →
      31 < dest.toNat ∨ dest.toNat = s.sid.val ∨ data = [] ∨ 8 < data.length →
      answersOnly (.postMail (dest :: data)) 0x11 [] s) ∧
    (∀ id : StationId, groupState s.mc.station = true → dest.toNat = id.val → id ≠ s.sid → 1 ≤ data.length →
      data.length ≤ 8 →
      (s.mc.roster[id.val].state ≠ .member → answersOnly (.postMail (dest :: data)) 0x16 [] s) ∧
      (s.mc.roster[id.val].state = .member → 4 ≤ s.mu.queue.length →
        answersOnly (.postMail (dest :: data)) 0x13 [] s) ∧
      (s.mc.roster[id.val].state = .member → s.mu.queue.length < 4 →
        exec (.postMail (dest :: data)) s = .next { s with
          mu := { s.mu with
            queue := s.mu.queue ++
              [{ destination := id, ticket := s.mu.ticket, data := data, attempts := 0, destLost := false,
                 outcome := none }]
            ticket := s.mu.ticket + 1 }
          lc := (if s.mu.queue = [] then
            fillSlot (.mail { destination := idByte id, ticket := s.mu.ticket, data := data }) s else s).lc
          lp := answered 0x00 [s.mu.ticket] s.lp }))

/-- TAKE_MAIL and TAKE_RECEIPT (R128, R130, R133). In every station state the earlier-arrived full buffer is freed and
returned, EMPTY with neither full, and the overflow indication is returned as it stood and cleared. The oldest receipt is
removed and returned, EMPTY without one, and in the same action complete heads leave into the room so freed, as
MAIL_COMPLETION does: so with a full list and a complete head behind it the list ends full again, with the head's receipt at
its tail. -/
def Obligations.TakeMailAndReceipts : Prop :=
  (∀ s : State, s.pins.resetn = true →
    (∀ payload, payload ≠ [] → answersOnly (.takeMail payload) 0x11 [] s) ∧
    (s.mu.bufA = none → s.mu.bufB = none →
      exec (.takeMail []) s = .next { s with
        mu := { s.mu with overflow := false }
        lp := answered 0x14 [if s.mu.overflow then 1 else 0] s.lp }) ∧
    (∀ m, s.mu.bufA = some m → s.mu.bufB = none ∨ s.mu.aLater = false →
      exec (.takeMail []) s = .next { s with
        mu := { s.mu with bufA := none, overflow := false }
        lp := answered 0x00
          ([if s.mu.overflow then 1 else 0, idByte m.source, m.ticket, BitVec.ofNat 8 m.data.length] ++ m.data) s.lp }) ∧
    (∀ m, s.mu.bufB = some m → s.mu.bufA = none ∨ s.mu.aLater = true →
      exec (.takeMail []) s = .next { s with
        mu := { s.mu with bufB := none, overflow := false }
        lp := answered 0x00
          ([if s.mu.overflow then 1 else 0, idByte m.source, m.ticket, BitVec.ofNat 8 m.data.length] ++ m.data) s.lp })) ∧
  (∀ s : State, s.pins.resetn = true →
    (∀ payload, payload ≠ [] → answersOnly (.takeReceipt payload) 0x11 [] s) ∧
    (s.mu.receipts = [] → answersOnly (.takeReceipt []) 0x14 [] s) ∧
    (∀ r rest, s.mu.receipts = r :: rest → ∃ u,
      exec .mailCompletion { s with mu := { s.mu with receipts := rest } } = .next u ∧
        exec (.takeReceipt []) s = .next { u with
          lp := answered 0x00 [r.ticket, idByte r.destination, outcomeCode r.outcome, BitVec.ofNat 8 r.attempts] u.lp } ∧
        ((∀ head, s.mu.queue.head? = some head → head.outcome = none) →
          u = { s with mu := { s.mu with receipts := rest } }) ∧
        (∀ head outcome behind, rest.length = 3 → s.mu.queue = head :: behind → head.outcome = some outcome →
          u.mu.queue = behind ∧
            u.mu.receipts = rest ++
              [{ ticket := head.ticket, destination := head.destination, outcome := outcome
                 attempts := head.attempts }] ∧
            eventsAdded (eventMask .receipt) s u)))

/-- MAIL_COMPLETION and MAIL_RETRY (R124, R126, R127, R128): every complete mail at the front of the queue leaves, as far as
the receipt list has room for 4, its receipt at the tail in the order of posting and RECEIPT posted; the mail then first, if
it has no outcome and was not first before, is filled. A due retry fills the MAIL slot with the head's frame, and the mark is
cleared; else nothing changes. At every count MAIL_COMPLETION falls on it exactly when the head is complete and the list has
room, and MU changes nothing else of itself but its marks of a store on the count (R132), which are the model's own (log 3).
That such a row, queued by itself, does its own effect alone is the model's choice (log 2). -/
def Obligations.MailHead : Prop :=
  (∀ s : State, s.pins.resetn = true → ∃ t gone left,
    exec .mailCompletion s = .next t ∧ s.mu.queue = gone ++ left ∧
      t.mu = { s.mu with queue := left, receipts := t.mu.receipts } ∧
      t.mu.receipts.map (fun r => (r.ticket, r.destination, some r.outcome, r.attempts)) =
        s.mu.receipts.map (fun r => (r.ticket, r.destination, some r.outcome, r.attempts)) ++
          gone.map (fun m => (m.ticket, m.destination, m.outcome, m.attempts)) ∧
      (s.mu.receipts.length ≤ 4 → t.mu.receipts.length ≤ 4) ∧
      (4 ≤ t.mu.receipts.length ∨ ∀ head, left.head? = some head → head.outcome = none) ∧
      eventsAdded (if gone = [] then 0 else eventMask .receipt) s t ∧
      t.lc = (match left with
        | [] => s
        | next :: _ => if gone ≠ [] ∧ next.outcome = none then fillSlot (mailFrame next) s else s).lc ∧
      hostKept s t ∧ t.tb = s.tb ∧ t.mc = s.mc ∧ t.pcu = s.pcu ∧ t.tc = s.tc) ∧
  (∀ s : State, s.pins.resetn = true →
    (s.mu.retryDue = false ∨ s.mu.queue = [] → exec .mailRetry s = .next s) ∧
    (∀ head rest, s.mu.retryDue = true → s.mu.queue = head :: rest →
      exec .mailRetry s = .next { s with
        mu := { s.mu with retryDue := false }
        lc := (fillSlot (.mail { destination := idByte head.destination, ticket := head.ticket, data := head.data }) s).lc })) ∧
  (∀ s : State, oneCount s → ∃ t, step s = .next t ∧
    (Instr.mailCompletion ∈ t.pending ↔
      ∃ head rest, s.mu.queue = head :: rest ∧ head.outcome ≠ none ∧ s.mu.receipts.length < 4) ∧
    t.mu = { s.mu with storedNow := none, storeDue := t.mu.storeDue } ∧
    (t.mu.storeDue = true ↔ ∃ src ticket data, Instr.mailReceived src ticket data ∈ t.pending))

/-! ### The count clock, the shared phase and the slew budget -/

/-- One count of a running station (R2, R3, R12, R16, R22, R29, R50, R51, R52, R75, R82, R83). The shared phase advances one
position, two while a forward step is realised and none while a holding one is; past position L - 1 it goes on to the next
carrier, and past carrier E - 1 the count has an epoch boundary, which the command EPOCH_BOUNDARY of that count takes. A
shared carrier start is counted by the listen timer and by an election, and has the commands that fall on it. The output
position counts on to the end of its interval, L less the net step, where an output carrier start falls on the count; the peak
of a CENTRE carrier is its count P; every channel's hold count goes up by one, to at most D, and a compare match falls on the
count where a PWM channel's request is to change. The epoch number, the lock state, the residual and the offsets do not move
of themselves. The step on an empty queue is one count by the model's choice (log 1), and a boundary and a start wait for
their commands, and the orders of one count are free (log 3). -/
def Obligations.OneCountOfPhase : Prop :=
  ∀ (s : State) (cfg : ConfigRecord), oneCount s → s.config = some cfg → ∃ t, step s = .next t ∧
    t.tb.syncLeft = s.tb.syncLeft - s.tb.syncLeft.sign ∧ t.tb.epoch = s.tb.epoch ∧ t.tb.lock = s.tb.lock ∧
    t.tb.residual = s.tb.residual ∧ t.tb.current = s.tb.current ∧ t.tb.target = s.tb.target ∧ t.tb.epo = false ∧
    t.tb.inCarrier = s.tb.inCarrier ∧ t.config = s.config ∧ t.sid = s.sid ∧
    t.mc = { s.mc with listenTimer := t.mc.listenTimer, election := t.mc.election } ∧
    t.pcu = { s.pcu with u := t.pcu.u, v := t.pcu.v, w := t.pcu.w } ∧ t.tc = s.tc ∧ t.lp.events = s.lp.events ∧
    (∀ advance : Nat, (advance : Int) = 1 + s.tb.syncLeft.sign →
      (s.tb.position + advance < carrierLength cfg →
        t.tb.carrier = s.tb.carrier ∧ t.tb.position = s.tb.position + advance ∧ Instr.epochBoundary ∉ t.pending ∧
          t.mc = s.mc ∧ Instr.listenTimerExpiry ∉ t.pending ∧ Instr.missedBeacon ∉ t.pending ∧
          (∀ c, Instr.statusFill c ∉ t.pending) ∧ Instr.beaconDeadline ∉ t.pending) ∧
      (carrierLength cfg ≤ s.tb.position + advance → s.tb.carrier + 1 < epochCarriers cfg →
        t.tb.carrier = s.tb.carrier + 1 ∧ t.tb.position = s.tb.position + advance - carrierLength cfg ∧
          Instr.epochBoundary ∉ t.pending ∧ Instr.statusFill (s.tb.carrier + 1) ∈ t.pending ∧
          (Instr.candidateFillPoint ∈ t.pending ↔ ∃ e standing, ∃ j : Nat, s.mc.election = some e ∧
            e.standing = some standing ∧ e.carriers + 1 = 2 + 2 * standing.rank + 2 * standing.count * j) ∧
          (Instr.missedBeacon ∈ t.pending ↔ s.tb.carrier + 1 = 2 ∧ s.tb.windowOpen = true)) ∧
      (carrierLength cfg ≤ s.tb.position + advance → epochCarriers cfg ≤ s.tb.carrier + 1 →
        t.tb.carrier = s.tb.carrier ∧ t.tb.position = s.tb.position ∧ t.tb.boundary = .due advance ∧
          Instr.epochBoundary ∈ t.pending ∧ Instr.missedBeacon ∉ t.pending) ∧
      (carrierLength cfg ≤ s.tb.position + advance →
        t.mc.listenTimer = s.mc.listenTimer.map (· + 1) ∧
          t.mc.election = s.mc.election.map (fun e => { e with carriers := e.carriers + 1 }) ∧
          (Instr.listenTimerExpiry ∈ t.pending ↔ s.mc.station = .listening ∧
            s.mc.listenTimer.map (· + 1) = some (cfg.listenEpochs * epochCarriers cfg + 2 * s.sid.val)) ∧
          (Instr.beaconDeadline ∈ t.pending ↔ s.mc.beaconDeadline = true))) ∧
    ((s.tb.outPos + 1 : Int) < carrierLength cfg - s.tb.netStep →
      t.tb.outPos = s.tb.outPos + 1 ∧ t.tb.netStep = s.tb.netStep ∧ t.tb.startMark = .none ∧
        Instr.outputCarrierStart ∉ t.pending) ∧
    ((carrierLength cfg - s.tb.netStep : Int) ≤ s.tb.outPos + 1 →
      t.tb.outPos = 0 ∧ t.tb.netStep = 0 ∧ t.tb.startMark = .due ∧ Instr.outputCarrierStart ∈ t.pending) ∧
    (Instr.peak ∈ t.pending ↔ cfg.mode = .centre ∧ s.tb.inCarrier = true ∧ t.tb.outPos = cfg.period) ∧
    ∀ ch,
      channelOf t.pcu ch = { channelOf s.pcu ch with
        hold := min cfg.deadTime ((channelOf s.pcu ch).hold + 1)
        lastRequest := (channelOf s.pcu ch).request
        runHold := min cfg.deadTime ((channelOf s.pcu ch).hold + 1)
        modeChanged := false } ∧
      (Instr.compareMatch ch ∈ t.pending ↔ (channelOf s.pcu ch).setting.mode = .pwm ∧
        (channelOf s.pcu ch).request ≠
          if outputCounter cfg t.tb.outPos t.tb.netStep < (channelOf s.pcu ch).setting.compare then .high else .low)

/-- EPOCH_BOUNDARY at TB (R1, R2, R4, R7, R12): the phase moves onto carrier 0, past position 0 by what a forward step of the
count carries it; the epoch number goes up by one modulo 65,536; EPO is driven in LOCKED and HOLDOVER and is low in FREE and
ACQUIRE; a held sample counts the boundary; the expected window opens. While TB stands still there is no boundary, and a jump
taken first on the count leaves none (log 3). A boundary commanded by itself moves the phase onto carrier 0, takes the
deadline of a beacon (R50) and has its carrier counted; if that brings the listen timer to its limit, the station founds after
the boundary and fills its STATUS of carrier 0 (R22, R46, log 2). At PCU and TC (R78, R79, R100), in every state but for a
leave or a join sequence that the boundary ends, the first timed record becomes due, or is applied with a start taken first,
and a locked station rearms. At MC off the line and in LISTENING (R19, R29, R40) nothing else changes. -/
def Obligations.BoundaryTime : Prop :=
  ∀ s : State, s.pins.resetn = true →
    (s.config = none → exec .epochBoundary s = .next s) ∧
    (s.config ≠ none → s.tb.boundary = .overtaken →
      exec .epochBoundary s = .next { s with tb := { s.tb with boundary := .none } }) ∧
    (∀ cfg, s.config = some cfg → s.tb.boundary ≠ .overtaken →
      let founds := s.tb.boundary = .none ∧ s.mc.station = .listening ∧
        s.mc.listenTimer.map (· + 1) = some (cfg.listenEpochs * epochCarriers cfg + 2 * s.sid.val)
      ∃ t,
      (¬founds → exec .epochBoundary s = .next t) ∧
      (founds → ∃ u v, exec .listenTimerExpiry t = .next u ∧ exec (.statusFill 0) u = .next v ∧
        exec .epochBoundary s = .next v) ∧
      hostKept s t ∧ t.tb.carrier = 0 ∧ (s.tb.boundary = .none → t.tb.position = 0) ∧
      (∀ past, s.tb.boundary = .due past → t.tb.position = s.tb.position + past - carrierLength cfg) ∧
      t.tb.epoch = s.tb.epoch + 1 ∧ (t.tb.epo = true ↔ s.tb.lock = .locked ∨ s.tb.lock = .holdover) ∧
      t.tb.windowOpen = true ∧ t.tb.windowSeen = false ∧
      (s.tb.sample = none → t.tb.sample = none) ∧
      (∀ m, s.tb.sample = some m → t.tb.sample = some { m with boundariesSince := m.boundariesSince + 1 }) ∧
      (outputLaw s → ¬(s.mc.station = .leaving ∧ 3 ≤ s.mc.leaveAttempts) →
        ¬(s.mc.station = .joining ∧ 3 ≤ s.mc.joinAttempts ∧ s.mc.admission = { accepted := true, boundaries := 1 }) →
        BoundaryAtPcuAndTc s t) ∧
      (groupState s.mc.station = false →
        t.mc = { s.mc with
          statusFilled := false
          beaconDeadline := deadlineLeft s
          listenTimer := if s.tb.boundary = .none then s.mc.listenTimer.map (· + 1) else s.mc.listenTimer
          election := if s.tb.boundary = .none then s.mc.election.map (fun e => { e with carriers := e.carriers + 1 })
            else s.mc.election } ∧
        (s.mu.retryDue = false → t.lc = (pastDeadline s).lc ∧ t.mu = s.mu)))

/-- OUTPUT_CARRIER_START (R3, R14, R15, R16, R69, R75, R79, R88): the sync step is decided first and the offset step from the
budget left, the shorter way with a tie going forward; the output position returns to 0 and the net step gives the carrier's
length; MIGRATED is posted when an offset step reaches the target. Then the due record, or else the pending one, becomes the
applied setting of all three channels, with or without one the requests are formed at the counter 0 by the mode (R72, R82, R83),
and STANDBY becomes ACTIVE if the gate is open and a record has been applied. A count
whose start a jump or a placement has overtaken is no start (R17), and while TB stands still there is none (R1); the mark of it
is the model's (log 3). -/
def Obligations.OutputCarrierStart : Prop :=
  (∀ s : State, s.pins.resetn = true →
    (s.config = none → exec .outputCarrierStart s = .next s) ∧
    (s.config ≠ none → s.tb.startMark = .overtaken →
      exec .outputCarrierStart s = .next { s with tb := { s.tb with startMark := .none } }) ∧
    (s.config ≠ none → s.tb.startMark = .due →
      (rebase s).tb.startMark = .overtaken ∧ ∀ target, (placeTarget target s).tb.startMark = .overtaken)) ∧
  ∀ (s : State) (cfg : ConfigRecord) (sync o : Int) (d : Nat), s.pins.resetn = true →
    s.config = some cfg → acceptedValues cfg → s.tb.startMark ≠ .overtaken →
    sync.natAbs = min s.tb.residual.natAbs cfg.slewMax → 0 ≤ sync * s.tb.residual →
    d < carrierLength cfg → (carrierLength cfg : Int) ∣ (s.tb.target - s.tb.current - d : Int) →
    o = (if 2 * d ≤ carrierLength cfg then ((min d (cfg.slewMax - sync.natAbs) : Nat) : Int)
      else -((min (carrierLength cfg - d) (cfg.slewMax - sync.natAbs) : Nat) : Int)) → ∃ t,
    exec .outputCarrierStart s = .next t ∧ hostKept s t ∧ t.mc = s.mc ∧ t.tc = s.tc ∧ t.lc = s.lc ∧ t.mu = s.mu ∧
      t.tb = { s.tb with
        residual := s.tb.residual - sync, syncLeft := sync, outPos := 0, netStep := sync - o, inCarrier := true
        current := t.tb.current, sample := t.tb.sample, startMark := t.tb.startMark } ∧
      t.tb.netStep.natAbs ≤ cfg.slewMax ∧ (t.tb.current : Int) = (s.tb.current + o) % carrierLength cfg ∧
      (∀ m, s.tb.sample = some m → t.tb.sample = some { m with stepsSince := m.stepsSince + sync }) ∧
      t.pcu = { s.pcu with
        u := t.pcu.u, v := t.pcu.v, w := t.pcu.w, pendingDuty := none, due := none, hasApplied := t.pcu.hasApplied
        output := t.pcu.output } ∧
      (∀ r, s.pcu.due = some r → recordApplied 0 r s.pcu t.pcu) ∧
      (∀ r, s.pcu.due = none → s.pcu.pendingDuty = some r → recordApplied 0 r s.pcu t.pcu) ∧
      (s.pcu.due = none → s.pcu.pendingDuty = none → settingsKept s t ∧ requestsFormed 0 s.pcu t.pcu) ∧
      (t.pcu.hasApplied = true ↔ s.pcu.hasApplied = true ∨ s.pcu.due ≠ none ∨ s.pcu.pendingDuty ≠ none) ∧
      t.pcu.output = (if s.pcu.output = .standby ∧ t.pcu.hasApplied = true ∧ gateOpen s = true then .active
        else s.pcu.output) ∧
      eventsAdded
        (eventIf (o ≠ 0 ∧ t.tb.current = s.tb.target) .migrated ||| eventIf (s.pcu.due ≠ none) .dutyDue |||
          eventIf (s.pcu.due ≠ none ∧ s.pcu.pendingDuty ≠ none) .dutyDropped) s t

/-! ### Joining, leaving and founding -/

/-- LISTEN_TIMER_EXPIRY (R13, R15, R22, R46): a LISTENING station whose timer runs becomes MEMBER and REFERENCE of a group of
itself, with the record of epoch 0; TB takes epoch number 0, of which change PCU is told (R11), and enters LOCKED without a
jump, with the offsets at 0 and the output position re-based (R66); a beacon is filled; JOINED and MEMBERSHIP are posted, and
LOCKED if TB was not. In any other state nothing changes. -/
def Obligations.ListenExpiryFounds : Prop :=
  ∀ s : State, s.pins.resetn = true →
    (s.config = none ∨ s.mc.station ≠ .listening ∨ s.mc.listenTimer = none →
      exec .listenTimerExpiry s = .next s) ∧
    (∀ cfg beacon, s.config = some cfg → s.mc.station = .listening → s.mc.listenTimer ≠ none → outputLaw s →
      beacon = TxFrame.beacon
        { epoch := 0, carrier := 0, position := 0, period := BitVec.ofNat 16 cfg.period, mode := cfg.mode
          length := cfg.length, handover := false, mask := BitVec.twoPow 32 s.sid.val } → ∃ t,
      exec .listenTimerExpiry s = .next t ∧ hostKept s t ∧
        t.mc = { s.mc with
          station := .member, role := .reference, listenTimer := none, beaconDeadline := true, roster := t.mc.roster
          record := some
            { epoch := 0, mask := BitVec.twoPow 32 s.sid.val, reference := some s.sid
              slot := some { rank := 0, target := 0 }, handover := false } } ∧
        (∀ id : StationId, id ≠ s.sid → t.mc.roster[id.val] = adoptedEntry false false s.mc.roster[id.val]) ∧
        t.tb.carrier = s.tb.carrier ∧ t.tb.position = s.tb.position ∧ t.tb.epoch = 0 ∧ t.tb.lock = .locked ∧
        t.tb.residual = 0 ∧ t.tb.inWindow = 2 ∧ t.tb.missed = 0 ∧ t.tb.target = 0 ∧ t.tb.current = 0 ∧
        t.tb.syncLeft = 0 ∧ outputRebased cfg t.tb ∧ requestsFormed (outputCounter cfg t.tb.outPos 0) s.pcu t.pcu ∧
        settingsKept s t ∧ t.pcu.run = s.pcu.run ∧ t.pcu.pendingDuty = s.pcu.pendingDuty ∧
        t.pcu.timed = (setEpoch 0 s).pcu.timed ∧ t.pcu.due = (setEpoch 0 s).pcu.due ∧
        hasEvent t.lp.events .dutyDropped = hasEvent (setEpoch 0 s).lp.events .dutyDropped ∧
        t.pcu.output = gatedOutput .member .locked s.pcu.run s.tc.trip .off ∧ t.tc = s.tc ∧
        t.lc.slots.beacon = (slotsFilled s.lc beacon).beacon ∧
        eventsBetween
          (eventMask .joined ||| eventMask .membership ||| eventIf (s.tb.lock ≠ .locked) .locked)
          (eventMask .dutyDropped ||| lossEvents) s t ∧
        ((∀ id : StationId, id ≠ s.sid → s.mc.roster[id.val].state = .absent) →
          t.mc.roster = s.mc.roster ∧ t.mu = s.mu ∧ t.lc = (fillSlot beacon s).lc ∧
            hasEvent t.lp.events .peerLost = hasEvent s.lp.events .peerLost))

/-- JOIN_REFILL, LEAVE_REFILL, LEAVE_TIMEOUT, HANDOVER_TIMEOUT, JOIN_FAILURE and ADMISSION_WAIT_EXPIRY (R25, R26, R32, R33,
R59): a due JOIN and an unacknowledged LEAVE are filled again; the leave attempt counter of a LEAVING station goes up to 4,
and it leaves the line with LEFT; the fourth try that fails takes a JOINING station off the line with JOIN_FAILED and at once
into LISTENING; the second boundary after an accepted try counts the try and, below 4, fills a JOIN; else nothing changes.
That such a row, queued by itself, does its own effect alone is the model's choice (log 2), and the mark of a JOIN refill that
is due is the model's (log 14). -/
def Obligations.JoinAndLeaveTimers : Prop :=
  (∀ s : State, s.pins.resetn = true →
    (s.mc.station ≠ .joining ∨ s.mc.joinRefillDue = false → exec .joinRefill s = .next s) ∧
    (∀ cfg, s.mc.station = .joining → s.mc.joinRefillDue = true → s.config = some cfg →
      exec .joinRefill s = .next { s with
        mc := { s.mc with joinRefillDue := false }
        lc := (fillSlot (.join { period := BitVec.ofNat 16 cfg.period, mode := cfg.mode, length := cfg.length }) s).lc }) ∧
    (s.mc.station ≠ .leaving ∨ s.mc.role = .reference ∨ s.mc.leaveAcked = true → exec .leaveRefill s = .next s) ∧
    (s.mc.station = .leaving → s.mc.role ≠ .reference → s.mc.leaveAcked = false →
      exec .leaveRefill s = .next { s with lc := (fillSlot .leave s).lc })) ∧
  (∀ s : State, s.pins.resetn = true →
    (s.mc.station ≠ .leaving ∨ s.mc.role = .reference ∨ s.mc.leaveAttempts < 3 → exec .leaveTimeout s = .next s) ∧
    (s.mc.station ≠ .leaving ∨ s.mc.role ≠ .reference ∨ s.mc.leaveAttempts < 3 → exec .handoverTimeout s = .next s) ∧
    (s.mc.station = .leaving → 3 ≤ s.mc.leaveAttempts → ∃ t,
      (s.mc.role ≠ .reference → exec .leaveTimeout s = .next t) ∧
        (s.mc.role = .reference → exec .handoverTimeout s = .next t) ∧
        LeftTheLine .configured s t ∧ phaseKept s t ∧ settingsKept s t ∧ t.tc = unlockedTrip s.tc ∧
        t.lc.slots = { TxSlots.empty with trip := s.lc.slots.trip } ∧
        eventsAdded (unlockedEvents s.tc ||| eventMask .left) s t)) ∧
  (∀ s : State, s.pins.resetn = true →
    (s.mc.station ≠ .joining ∨ s.mc.joinAttempts < 3 → exec .joinFailure s = .next s) ∧
    (s.mc.station ≠ .joining ∨ s.mc.admission.accepted = false ∨ s.mc.admission.boundaries ≠ 1 →
      exec .admissionWaitExpiry s = .next s) ∧
    (s.mc.station = .joining → 3 ≤ s.mc.joinAttempts → ∃ t u,
      exec .joinFailure s = .next t ∧
        (s.mc.admission = { accepted := true, boundaries := 1 } → exec .admissionWaitExpiry s = .next t) ∧
        LeftTheLine .configured s u ∧ phaseKept s u ∧ settingsKept s u ∧ u.tc = unlockedTrip s.tc ∧
        u.lc.slots = { TxSlots.empty with trip := s.lc.slots.trip } ∧
        eventsAdded (unlockedEvents s.tc ||| eventMask .joinFailed) s u ∧
        t = { u with mc := { u.mc with station := .listening, listenTimer := some 0 } }) ∧
    (∀ cfg, s.mc.station = .joining → s.mc.joinAttempts < 3 → s.config = some cfg →
      s.mc.admission = { accepted := true, boundaries := 1 } →
      exec .admissionWaitExpiry s = .next { s with
        mc := { s.mc with
          joinAttempts := s.mc.joinAttempts + 1, joinRefillDue := false
          admission := { accepted := true, boundaries := 2 } }
        lc := (fillSlot (.join { period := BitVec.ofNat 16 cfg.period, mode := cfg.mode, length := cfg.length }) s).lc }))

/-- STATUS_FILL, CANDIDATE_FILL_POINT and BEACON_DEADLINE (R29, R48, R50, R52): at a carrier index not below the own rank
modulo E a MEMBER or LEAVING station fills a STATUS of its state once an epoch, with a phase error of 0 at the reference and
before a measurement and else the last one saturated to -128 to 127; a candidate fills a beacon of the peers it holds MEMBER
or JOINING and of itself; at the deadline a beacon not past arbitration is abandoned, and one past it goes on and is from then
on not returnable, which is read from the rules (log 8); else nothing
changes. That such a row, queued by itself, does its own effect alone is the model's choice (log 2). -/
def Obligations.CarrierFills : Prop :=
  (∀ (s : State) (c : Nat), s.pins.resetn = true →
    (slotState s.mc.station = false ∨ s.mc.statusFilled = true → exec (.statusFill c) s = .next s) ∧
    (∀ cfg record slot, s.config = some cfg → s.mc.record = some record → record.slot = some slot →
      c < slot.rank % epochCarriers cfg → exec (.statusFill c) s = .next s) ∧
    (∀ cfg record slot, s.config = some cfg → s.mc.record = some record → record.slot = some slot →
      slotState s.mc.station = true → s.mc.statusFilled = false → slot.rank % epochCarriers cfg ≤ c → ∃ err : Byte,
      exec (.statusFill c) s = .next { s with
        mc := { s.mc with statusFilled := true }
        lc := (fillSlot (.status
          { epoch := s.tb.epoch, phaseError := err
            report :=
              { lock := s.tb.lock, active := decide (s.pcu.output = .active)
                tripped := decide (s.tc.trip ≠ .armed), role := s.mc.role } }) s).lc } ∧
        (s.mc.role = .reference ∨ s.tb.phaseError = none → err = 0) ∧
        (∀ e, s.mc.role ≠ .reference → s.tb.phaseError = some e → err.toInt = max (-128) (min 127 e)))) ∧
  (∀ s : State, s.pins.resetn = true →
    (s.config = none ∨ s.mc.role ≠ .candidate → exec .candidateFillPoint s = .next s) ∧
    (∀ cfg, s.config = some cfg → s.mc.role = .candidate → s.mc.station = .member → ∃ mask,
      (∀ id, inMask mask id = true ↔ id = s.sid ∨ s.mc.roster[id.val].state = .member ∨
        s.mc.roster[id.val].state = .joining) ∧
      exec .candidateFillPoint s = .next { s with
        mc := { s.mc with beaconDeadline := true }
        lc := (fillSlot (.beacon
          { epoch := 0, carrier := 0, position := 0, period := BitVec.ofNat 16 cfg.period, mode := cfg.mode
            length := cfg.length, handover := false, mask := mask }) s).lc }) ∧
    (s.mc.beaconDeadline = false → exec .beaconDeadline s = .next s) ∧
    (s.mc.beaconDeadline = true →
      exec .beaconDeadline s = .next { s with
        mc := { s.mc with beaconDeadline := false }, lc := (emptySlot .beacon s).lc }))

/-! ### Silence, boundaries and elections -/

/-- PEER_LOST_BY_SILENCE and the end of a destination (R40, R41, R128, R129, R132): in JOINING, MEMBER and LEAVING a peer
whose entry is MEMBER or LEAVING and whose count comes to LOSS_EPOCHS becomes LOST, PEER_LOST is posted, and MU is told. Its
filter entry is cleared, unless it was stored on this count; mails for it behind the head that have no outcome become
UNDELIVERED and keep their places; a head in flight to it is marked and its slot emptied; a head that waits becomes
UNDELIVERED, its slot is emptied, and it leaves as MAIL_COMPLETION does. That such a row, queued by itself, does its own
effect alone is the model's choice (log 2). -/
def Obligations.PeerLost : Prop :=
  (∀ (s : State) (id : StationId), s.pins.resetn = true →
    (s.config = none ∨ groupState s.mc.station = false ∨ id = s.sid → exec (.peerLostBySilence id) s = .next s) ∧
    (∀ cfg, s.config = some cfg → s.mc.roster[id.val].silence + 1 < cfg.lossEpochs →
      exec (.peerLostBySilence id) s = .next s) ∧
    (s.mc.roster[id.val].state ≠ .member → s.mc.roster[id.val].state ≠ .leaving →
      exec (.peerLostBySilence id) s = .next s) ∧
    (∀ cfg, s.config = some cfg → groupState s.mc.station = true → id ≠ s.sid →
      s.mc.roster[id.val].state = .member ∨ s.mc.roster[id.val].state = .leaving →
      cfg.lossEpochs ≤ s.mc.roster[id.val].silence + 1 → ∃ u,
      u = { s with
        mc := { s.mc with
          roster := s.mc.roster.set id.val { s.mc.roster[id.val] with
            state := .lost, silence := s.mc.roster[id.val].silence + 1 } }
        lp := { s.lp with events := s.lp.events ||| eventMask .peerLost } } ∧
      exec (.peerLostBySilence id) s = .next (destinationGone id u))) ∧
  (∀ (s : State) (id : StationId), s.pins.resetn = true → ∃ u, u = { s with mu := { s.mu with
      filter := u.mu.filter
      queue := match s.mu.queue with
        | [] => []
        | head :: rest => head :: rest.map fun m =>
            if m.destination = id ∧ m.outcome = none then { m with outcome := some .undelivered } else m } } ∧
    (∀ other : StationId, u.mu.filter[other.val] =
      if other = id ∧ s.mu.storedNow ≠ some id then none else s.mu.filter[other.val]) ∧
    ((∀ head, s.mu.queue.head? = some head → head.destination ≠ id ∨ head.outcome ≠ none) →
      destinationGone id s = u) ∧
    (∀ head rest, u.mu.queue = head :: rest → head.destination = id → head.outcome = none →
      (s.mu.inFlight = true →
        destinationGone id s = { u with
          mu := { u.mu with queue := { head with destLost := true } :: rest }, lc := (emptySlot .mail s).lc }) ∧
      (s.mu.inFlight = false →
        exec .mailCompletion { u with
          mu := { u.mu with
            queue := { head with outcome := some .undelivered } :: rest, retryDue := false, inFlight := false }
          lc := (emptySlot .mail s).lc } = .next (destinationGone id s))))

/-- EPOCH_BOUNDARY at a MEMBER that is not the reference (R29, R40, R51, R52, R78, R100, R127): silence is counted for every
entry but its own; a candidate at a fill point then fills a beacon of the peers so counted MEMBER or JOINING and of itself;
the STATUS fill mark is decided afresh, the first timed record for the new epoch becomes due, a locked station in REARM enters
ARMED, and a due retry fills the MAIL slot with the frame of the queue's head, where its destination is not lost at this count.
Its role, record, target and lock are not changed. A boundary commanded by itself counts its
carrier and takes a beacon's deadline (log 2). -/
def Obligations.MemberBoundary : Prop :=
  ∀ (s : State) (cfg : ConfigRecord), s.pins.resetn = true →
    s.config = some cfg → s.tb.boundary ≠ .overtaken → s.mc.station = .member →
    s.mc.role ≠ .reference → mailLaw s → ∃ t,
    exec .epochBoundary s = .next t ∧ t.mc.station = .member ∧ t.mc.role = s.mc.role ∧ t.mc.record = s.mc.record ∧
      t.tb.lock = s.tb.lock ∧ t.tb.target = s.tb.target ∧ t.tb.current = s.tb.current ∧
      (∀ id : StationId, id ≠ s.sid → t.mc.roster[id.val] = countedEntry cfg.lossEpochs s.mc.roster[id.val]) ∧
      t.mc.roster[s.sid.val] = s.mc.roster[s.sid.val] ∧
      (∀ record slot, s.mc.record = some record → record.slot = some slot →
        (t.mc.statusFilled = true ↔ slot.rank % epochCarriers cfg = 0)) ∧
      (∀ r rest, s.pcu.timed = r :: rest → r.epoch = s.tb.epoch + 1 →
        t.pcu.timed = rest ∧ ((∀ a, s.tb.startMark ≠ .taken a) → t.pcu.due = some r.settings)) ∧
      ((∀ r, s.pcu.timed.head? = some r → r.epoch ≠ s.tb.epoch + 1) →
        t.pcu.timed = s.pcu.timed ∧ t.pcu.due = s.pcu.due) ∧
      (s.tc.trip = .rearm → lockHeld s.tb.lock = true → t.tc = { s.tc with trip := .armed, origins := [] }) ∧
      (s.tc.trip ≠ .rearm ∨ lockHeld s.tb.lock = false → t.tc = s.tc) ∧ t.mu.retryDue = false ∧ retryTaken s t ∧
      (s.mc.role ≠ .candidate ∨ s.mc.election.bind (·.standing) = none →
        t.lc.slots.beacon = (pastDeadline s).lc.slots.beacon ∧ t.mc.beaconDeadline = deadlineLeft s) ∧
      (∀ e standing carriers, s.mc.role = .candidate → s.mc.election = some e → e.standing = some standing →
        carriers = (if s.tb.boundary = .none then e.carriers + 1 else e.carriers) →
        t.mc.election = some { e with carriers := carriers } ∧
        ((∀ j : Nat, carriers ≠ 2 + 2 * standing.rank + 2 * standing.count * j) →
          t.lc.slots.beacon = (pastDeadline s).lc.slots.beacon ∧ t.mc.beaconDeadline = deadlineLeft s) ∧
        ((∃ j : Nat, carriers = 2 + 2 * standing.rank + 2 * standing.count * j) → t.mc.beaconDeadline = true ∧ ∃ mask,
          (∀ id, inMask mask id = true ↔ id = s.sid ∨
            (countedEntry cfg.lossEpochs s.mc.roster[id.val]).state = .member ∨
            (countedEntry cfg.lossEpochs s.mc.roster[id.val]).state = .joining) ∧
          t.lc.slots.beacon = (slotsFilled (pastDeadline s).lc (.beacon
            { epoch := 0, carrier := 0, position := 0, period := BitVec.ofNat 16 cfg.period, mode := cfg.mode
              length := cfg.length, handover := false, mask := mask })).beacon))

/-- EPOCH_BOUNDARY at a MEMBER that is the reference (R40, R47, R48, R49): after the silence counting, the next mask is the
station itself and every peer whose entry is MEMBER or JOINING; it is adopted in the roster, the record is filled with the
new epoch number, the mask and the station's own rank and target, the target is given as a migrate request, MEMBERSHIP is
posted when the mask differs, and the beacon is filled; a due retry fills the MAIL slot where the head's destination stays
(R127). A boundary commanded by itself takes the deadline of the beacon before
(log 2). -/
def Obligations.ReferenceBoundary : Prop :=
  ∀ (s : State) (cfg : ConfigRecord), s.pins.resetn = true →
    s.config = some cfg → s.tb.boundary ≠ .overtaken → s.mc.station = .member →
    s.mc.role = .reference → ∃ t mask, exec .epochBoundary s = .next t ∧
      (∀ id, inMask mask id = true ↔ id = s.sid ∨
        (countedEntry cfg.lossEpochs s.mc.roster[id.val]).state = .member ∨
        (countedEntry cfg.lossEpochs s.mc.roster[id.val]).state = .joining) ∧
      (∀ id : StationId, id ≠ s.sid → t.mc.roster[id.val] =
        adoptedEntry (inMask mask id) false (countedEntry cfg.lossEpochs s.mc.roster[id.val])) ∧
      t.mc.record = some
        { epoch := s.tb.epoch + 1, mask := mask, reference := some s.sid, slot := some (slotIn cfg mask s.sid)
          handover := false } ∧
      t.mc.role = .reference ∧ t.mc.station = .member ∧ t.mc.beaconDeadline = true ∧
      t.tb.target = (slotIn cfg mask s.sid).target ∧ t.tb.current = s.tb.current ∧ t.tb.lock = s.tb.lock ∧
      t.lc.slots.beacon = (slotsFilled (pastDeadline s).lc (.beacon
        { epoch := 0, carrier := 0, position := 0, period := BitVec.ofNat 16 cfg.period, mode := cfg.mode
          length := cfg.length, handover := false, mask := mask })).beacon ∧
      hasEvent t.lp.events .membership =
        (hasEvent s.lp.events .membership || decide (s.mc.record.map (·.mask) ≠ some mask)) ∧
      retryTaken s t

/-- EPOCH_BOUNDARY in LEAVING and in JOINING (R25, R26, R32, R40, R59). In LEAVING the leave attempt counter goes up; at 4 the
station leaves the line with LEFT; before it a follower with no LEAVE acknowledged fills a LEAVE, and a reference renews its
record's epoch and fills a handover beacon whose mask is the peers counted MEMBER or JOINING and not itself, which it does not
adopt. In JOINING, after the silence counting, a due JOIN is filled again, and an admission wait counts the boundary: at its
second the try counts and a JOIN is filled, and at the fourth try the station leaves the line with JOIN_FAILED and is
LISTENING at once. A station that stays on the line fills a due retry where the head's destination stays (R127). The mark of a
JOIN refill that is due is the model's (log 14). A boundary commanded by itself takes a beacon's deadline first (log 2). -/
def Obligations.LeavingBoundary : Prop :=
  (∀ (s : State) (cfg : ConfigRecord), s.pins.resetn = true →
    s.config = some cfg → s.tb.boundary ≠ .overtaken → s.mc.station = .leaving →
    ∃ t, exec .epochBoundary s = .next t ∧
      (3 ≤ s.mc.leaveAttempts → LeftTheLine .configured s t ∧ t.lc.slots.leave = none ∧
        hasEvent t.lp.events .left = true) ∧
      (s.mc.leaveAttempts < 3 → t.mc.station = .leaving ∧ t.mc.role = s.mc.role ∧
        t.mc.leaveAttempts = s.mc.leaveAttempts + 1 ∧ retryTaken s t ∧
        (∀ id : StationId, id ≠ s.sid → t.mc.roster[id.val] = countedEntry cfg.lossEpochs s.mc.roster[id.val]) ∧
        hasEvent t.lp.events .left = hasEvent s.lp.events .left ∧
        (s.mc.role ≠ .reference → t.mc.record = s.mc.record ∧
          t.lc.slots.leave = (if s.mc.leaveAcked then s.lc.slots.leave else (slotsFilled s.lc .leave).leave)) ∧
        (s.mc.role = .reference →
          t.mc.record = s.mc.record.map (fun r => { r with epoch := s.tb.epoch + 1 }) ∧ ∃ mask,
          (∀ id, inMask mask id = true ↔ id ≠ s.sid ∧
            ((countedEntry cfg.lossEpochs s.mc.roster[id.val]).state = .member ∨
              (countedEntry cfg.lossEpochs s.mc.roster[id.val]).state = .joining)) ∧
          t.lc.slots.beacon = (slotsFilled (pastDeadline s).lc (.beacon
            { epoch := 0, carrier := 0, position := 0, period := BitVec.ofNat 16 cfg.period, mode := cfg.mode
              length := cfg.length, handover := true, mask := mask })).beacon))) ∧
  (∀ (s : State) (cfg : ConfigRecord), s.pins.resetn = true →
    s.config = some cfg → s.tb.boundary ≠ .overtaken → s.mc.station = .joining →
    let counts := s.mc.admission.accepted = true ∧ s.mc.admission.boundaries = 1
    ∃ t, exec .epochBoundary s = .next t ∧
      (counts → 3 ≤ s.mc.joinAttempts → t.mc.station = .listening ∧ t.mc.listenTimer = some 0 ∧
        LeftTheLine .configured s { t with mc := { t.mc with station := .configured, listenTimer := none } } ∧
        t.lc.slots.leave = none ∧ hasEvent t.lp.events .joinFailed = true) ∧
      (¬(counts ∧ 3 ≤ s.mc.joinAttempts) → t.mc.station = .joining ∧ t.mc.role = s.mc.role ∧
        t.mc.record = s.mc.record ∧ t.tb.lock = s.tb.lock ∧ retryTaken s t ∧
        (∀ id : StationId, id ≠ s.sid → t.mc.roster[id.val] = countedEntry cfg.lossEpochs s.mc.roster[id.val]) ∧
        t.mc.joinRefillDue = false ∧ hasEvent t.lp.events .joinFailed = hasEvent s.lp.events .joinFailed ∧
        (counts → t.mc.joinAttempts = s.mc.joinAttempts + 1) ∧ (¬counts → t.mc.joinAttempts = s.mc.joinAttempts) ∧
        (s.mc.admission.accepted = true → s.mc.admission.boundaries < 2 →
          t.mc.admission = { accepted := true, boundaries := s.mc.admission.boundaries + 1 }) ∧
        (s.mc.admission.accepted = false ∨ 2 ≤ s.mc.admission.boundaries → t.mc.admission = s.mc.admission) ∧
        (s.mc.joinRefillDue = true ∨ counts → t.lc.slots.join = (slotsFilled s.lc (.join
          { period := BitVec.ofNat 16 cfg.period, mode := cfg.mode, length := cfg.length })).join) ∧
        (s.mc.joinRefillDue = false → ¬counts → t.lc.slots.join = s.lc.slots.join)))

/-- ELECTION_START (R12, R51): at a station that is on the line, not the reference and in no election, one starts: the old
reference's entry becomes LOST, with PEER_LOST and the ends of its mail if it was not so already; a MEMBER FOLLOWER becomes
CANDIDATE with its rank and the count in the last mask without the old reference; any other does not stand. Else nothing
changes. That such a row, queued by itself, does its own effect alone is the model's choice (log 2). -/
def Obligations.ElectionStart : Prop :=
  ∀ s : State, s.pins.resetn = true → roleLaw s →
    (s.mc.role = .reference ∨ onLineState s.mc.station = false ∨ s.mc.election ≠ none →
      exec .electionStart s = .next s) ∧
    (s.mc.role ≠ .reference → onLineState s.mc.station = true → s.mc.election = none → ∃ t u,
      exec .electionStart s = .next t ∧
        (s.mc.record.bind (·.reference) = none → u = s) ∧
        (∀ r, s.mc.record.bind (·.reference) = some r → s.mc.roster[r.val].state = .lost → u = s) ∧
        (∀ r, s.mc.record.bind (·.reference) = some r → s.mc.roster[r.val].state ≠ .lost →
          u = destinationGone r { s with
            mc := { s.mc with roster := s.mc.roster.set r.val { s.mc.roster[r.val] with state := .lost } }
            lp := { s.lp with events := s.lp.events ||| eventMask .peerLost } }) ∧
        t = { u with mc := { u.mc with role := t.mc.role, election := t.mc.election } } ∧
        (s.mc.station ≠ .member ∨ s.mc.role ≠ .follower →
          t.mc.role = s.mc.role ∧ t.mc.election = some { carriers := 0, standing := none }) ∧
        (∀ record, s.mc.station = .member → s.mc.role = .follower → s.mc.record = some record → ∃ mask,
          (∀ id, inMask mask id = true ↔ inMask record.mask id = true ∧ record.reference ≠ some id) ∧
            t.mc.role = .candidate ∧
            t.mc.election = some
              { carriers := 0, standing := some { rank := maskRank mask s.sid, count := maskSize mask } }))

/-- MISSED_BEACON and HOLDOVER_EXPIRY (R5, R12): the end of an expected window that TB watches and in which no beacon was
handed to it counts a miss, to at most 8. A count of HOLDOVER_EPOCHS in LOCKED or HOLDOVER gives ACQUIRE with LOCK_LOST, the
residual and the in-window count 0 and the outputs off; else a first miss in LOCKED gives HOLDOVER; a count of 2 starts an
election. A window not watched, or in which a beacon was handed, closes without effect. That a sync step still being realised
runs on at the expiry is the model's choice (log 41). That the conditions of a watch are read at the window's end is read from
the rules (log 12). That such a row, queued by itself, does its own effect alone is the model's choice (log 2). -/
def Obligations.MissedBeacons : Prop :=
  ∀ (s : State) (cfg : ConfigRecord), s.pins.resetn = true → s.config = some cfg → acceptedValues cfg →
    let watched := s.mc.role ≠ .reference ∧
      (s.tb.lock = .locked ∨ s.tb.lock = .holdover ∨
        (s.tb.lock = .acquire ∧ (s.mc.station = .member ∨ s.mc.station = .leaving)) ∨
        (s.tb.lock = .acquire ∧ s.tb.expired = true ∧ 1 ≤ s.tb.missed))
    let count := min 8 (s.tb.missed + 1)
    (¬watched ∨ s.tb.windowSeen = true →
      exec .missedBeacon s = .next { s with tb := { s.tb with windowOpen := false, windowSeen := false } } ∧
        exec .holdoverExpiry s = .next s) ∧
    (watched → s.tb.windowSeen = false → ∃ t u,
      exec .missedBeacon s = .next t ∧ hostKept s u ∧ u.mc = s.mc ∧ u.lc = s.lc ∧ u.mu = s.mu ∧
        u.tb.missed = count ∧ u.tb.windowOpen = false ∧ u.tb.target = s.tb.target ∧ u.tb.current = s.tb.current ∧
        phaseKept s u ∧ u.tb.syncLeft = s.tb.syncLeft ∧
        (cfg.holdoverEpochs ≤ count → lockHeld s.tb.lock = true →
          u.tb.lock = .acquire ∧ u.tb.residual = 0 ∧ u.tb.inWindow = 0 ∧ u.pcu = { s.pcu with output := .off } ∧
            u.tc = unlockedTrip s.tc ∧ eventsAdded (eventMask .lockLost ||| unlockedEvents s.tc) s u ∧
            exec .holdoverExpiry s = .next t) ∧
        (¬(cfg.holdoverEpochs ≤ count ∧ lockHeld s.tb.lock = true) → exec .holdoverExpiry s = .next s ∧
          u.tb.residual = s.tb.residual ∧ u.tb.inWindow = s.tb.inWindow ∧ u.tc = s.tc ∧
          u.tb.lock = (if count = 1 ∧ s.tb.lock = .locked then .holdover else s.tb.lock) ∧
          eventsAdded (eventIf (count = 1 ∧ s.tb.lock = .locked) .holdover) s u) ∧
        (count ≠ 2 → t = u) ∧
        (count = 2 → exec .electionStart u = .next t))

/-! ### Beacons -/

/-- BEACON_MARKER (R6, R112): the settled phase, the shared phase with what is left of a sync step counted as realised, is
sampled with the epoch number it lies in; the sender of a beacon writes it into the beacon, a receiver holds it as the
sample. A frame that began before TB ran carries no sample. That the boundary of this count, while not yet taken, is counted
in the phase is the model's (log 3). That a sender holds no sample after it is read from the rules (log 18), and so is how many
epochs the settled phase stood ahead, which the sample keeps (log 7). -/
def Obligations.BeaconMarker : Prop :=
  ∀ s : State, s.pins.resetn = true →
    (s.config = none → exec .beaconMarker s = .next { s with tb := { s.tb with sample := none } }) ∧
    ∀ (cfg : ConfigRecord) (k : Int) (place : Nat), s.config = some cfg → acceptedValues cfg →
      place < epochCounts cfg →
      ((s.tb.carrier * carrierLength cfg + s.tb.position + countsPast s.tb : Nat) : Int) + s.tb.syncLeft =
        k * epochCounts cfg + place →
      ((∀ own, s.lc.onLine = some own → frameKind own.frame ≠ .beacon) → s.lc.beganStill = true →
        exec .beaconMarker s = .next { s with tb := { s.tb with sample := none } }) ∧
      ((∀ own, s.lc.onLine = some own → frameKind own.frame ≠ .beacon) → s.lc.beganStill = false →
        exec .beaconMarker s = .next { s with tb := { s.tb with
          sample := some
            { epoch := s.tb.epoch + BitVec.ofInt 16 k, carrier := place / carrierLength cfg
              position := place % carrierLength cfg, ahead := k, stepsSince := 0, boundariesSince := 0 } } }) ∧
      (∀ own b, s.lc.onLine = some own → own.frame = .beacon b →
        exec .beaconMarker s = .next { s with
          tb := { s.tb with sample := none }
          lc := { s.lc with onLine := some { own with
            frame := .beacon { b with
              epoch := s.tb.epoch + BitVec.ofInt 16 k
              carrier := BitVec.ofNat 8 (place / carrierLength cfg)
              position := BitVec.ofNat 16 (place % carrierLength cfg) } } } })

/-- BEACON_RECEIVED that is not accepted (R19, R23, R37, R43, R113): the source is reported, TB discards the sample, LC
acknowledges, and a reference on the line that hears its own ID posts CONFLICT_SEEN; nothing else changes. A LISTENING
station that hears another geometry leaves the line for MISMATCH with every slot empty and the transmitter off. The plan of the
reply bits is held in the model's own fields (log 20). -/
def Obligations.BeaconNotAccepted : Prop :=
  ∀ (src : StationId) (b : Beacon) (s : State), s.pins.resetn = true →
    (s.config = none ∨
        (s.mc.station ≠ .listening ∧
          ¬(acceptedBy43 src s ∧ ∃ cfg, s.config = some cfg ∧ sameGeometry cfg b.period b.mode b.length = true)) → ∃ t,
      exec (.beaconReceived src b) s = .next t ∧
        t = { s with
          tb := { s.tb with sample := none }
          mc := { s.mc with roster := t.mc.roster }
          lc := { s.lc with replyAck := true, replyRefuse := false }
          lp := t.lp } ∧
        eventsAdded
          (eventIf (s.config ≠ none ∧ s.mc.role = .reference ∧ src = s.sid ∧ onLineState s.mc.station = true)
            .conflictSeen) s t ∧
        ∀ id : StationId, t.mc.roster[id.val] = heardRoster src s id) ∧
    (∀ cfg, s.config = some cfg → s.mc.station = .listening →
      sameGeometry cfg b.period b.mode b.length = false → ∃ t,
      exec (.beaconReceived src b) s = .next t ∧ LeftTheLine .mismatch s t ∧ phaseKept s t ∧ settingsKept s t ∧
        (∀ kind, slotOf t.lc.slots kind = none) ∧ t.lc.txOn = false ∧ t.lc.ltx = true ∧ t.lc.attempt = none ∧
        t.lc.failures = s.lc.failures ∧ t.tb.sample = none ∧ t.tc = unlockedTrip s.tc ∧
        eventsAdded (unlockedEvents s.tc ||| eventMask .mismatch) s t)

/-- BEACON_RECEIVED that is accepted (R23, R26, R29, R30, R32, R37, R41, R43, R44, R57, R61): the record is that of the
beacon; its mask is adopted in the roster; any election ends; TB is given the target of a slot, and the beacon to measure
unless it gives the role; the station state and role follow from the mask; REFERENCE_CHANGED is posted on a change and by a
reference that yields, and MEMBERSHIP on a change. A LEAVING station that the mask leaves out has left the line. That the
source is reported before the beacon is accepted (log 10), that the sender of a handover beacon is ABSENT whatever its entry was
(log 11) and that an empty record is the absence of one (log 13) are read from the rules; that the sample of a beacon that gives
the role is dropped, that a sync step runs on under the role and that a waiting LEAVE stays in its slot are the model's choice
(log 25); so is that R61 goes before R57 at a reference that yields to a handover beacon (log 33). The reply bits are planned in
the model's own fields (log 20). -/
def Obligations.BeaconAccepted : Prop :=
  ∀ (src : StationId) (b : Beacon) (s : State) (cfg : ConfigRecord), s.pins.resetn = true →
    roleLaw s → electionLaw s → s.config = some cfg →
    sameGeometry cfg b.period b.mode b.length = true → acceptedBy43 src s →
    let takes := b.handover = true ∧ lowestId b.mask = some s.sid ∧ slotAfter b s
    let join : TxFrame := .join { period := BitVec.ofNat 16 cfg.period, mode := cfg.mode, length := cfg.length }
    (s.mc.station = .leaving → inMask b.mask s.sid = false → ∃ t,
      exec (.beaconReceived src b) s = .next t ∧ LeftTheLine .configured s t ∧ t.lc.slots.leave = none ∧
        hasEvent t.lp.events .left = true ∧ t.lc.replyAck = true ∧ t.lc.replyRefuse = false) ∧
    (¬(s.mc.station = .leaving ∧ inMask b.mask s.sid = false) → ∃ t u,
      exec (.beaconReceived src b) s = .next t ∧ hostKept s t ∧
        (b.handover = true → b.mask = 0 → t.mc.record = none) ∧
        (¬(b.handover = true ∧ b.mask = 0) → ∃ r, t.mc.record = some r ∧ r.epoch = b.epoch ∧ r.mask = b.mask ∧
          r.handover = b.handover ∧ referenceAfter src b s r.reference ∧
          (slotAfter b s → r.slot = some (slotIn cfg b.mask s.sid)) ∧ (¬slotAfter b s → r.slot = none)) ∧
        (∀ id : StationId, id ≠ s.sid → t.mc.roster[id.val] =
          adoptedEntry (inMask b.mask id) (b.handover && id == src) (heardRoster src s id)) ∧
        t.mc.roster[s.sid.val] = s.mc.roster[s.sid.val] ∧ t.mc.election = none ∧
        (slotAfter b s →
          t.mc.station = (if s.mc.station = .leaving then .leaving else .member) ∧
            (takes → t.mc.role = .reference) ∧ (¬takes → t.mc.role = .follower)) ∧
        (¬slotAfter b s → t.mc.station = .joining ∧ t.mc.role = .none) ∧
        (s.mc.station = .listening ∨ (s.mc.station = .member ∧ ¬slotAfter b s) →
          t.mc.joinAttempts = 0 ∧ t.mc.admission = { accepted := false, boundaries := 0 } ∧ t.mc.listenTimer = none ∧
            t.lc.slots.join = (slotsFilled s.lc join).join) ∧
        (s.mc.station = .joining → slotAfter b s → t.lc.slots.join = none ∧ t.mc.joinAttempts = 0) ∧
        (s.mc.station = .leaving → s.mc.role = .reference → ¬takes →
          t.mc.leaveAttempts = 0 ∧ t.mc.leaveAcked = false ∧ t.lc.slots.leave = (slotsFilled s.lc .leave).leave) ∧
        (s.mc.role = .reference ∨ s.mc.role = .candidate ∨ s.mc.election ≠ none →
          t.lc.slots.beacon = none ∧ t.mc.beaconDeadline = false) ∧
        t.lc.replyAck = true ∧ t.lc.replyRefuse = false ∧ t.lc.slots.trip = s.lc.slots.trip ∧
        t.lc.slots.status = s.lc.slots.status ∧
        u.config = s.config ∧ u.tb.carrier = s.tb.carrier ∧ u.tb.position = s.tb.position ∧ u.tb.epoch = s.tb.epoch ∧
        u.tb.lock = s.tb.lock ∧ u.tb.inWindow = s.tb.inWindow ∧ u.tb.residual = s.tb.residual ∧
        u.tb.sample = s.tb.sample ∧ u.tb.missed = s.tb.missed ∧ u.tb.boundary = s.tb.boundary ∧
        (slotAfter b s → u.tb.target = (slotIn cfg b.mask s.sid).target) ∧
        (¬slotAfter b s → u.tb = s.tb) ∧
        (s.mc.station ≠ .joining → u.tb = { s.tb with target := u.tb.target }) ∧
        (s.mc.station = .joining → slotAfter b s → u.tb.current = u.tb.target ∧ u.tb.syncLeft = 0 ∧
          outputRebased cfg u.tb ∧ requestsFormed (outputCounter cfg u.tb.outPos 0) s.pcu u.pcu) ∧
        (s.mc.station ≠ .joining ∨ ¬slotAfter b s → ∀ ch, channelOf u.pcu ch = channelOf s.pcu ch) ∧
        u.pcu.timed = s.pcu.timed ∧ u.pcu.due = s.pcu.due ∧
        hasEvent u.lp.events .dutyDropped = hasEvent s.lp.events .dutyDropped ∧
        (∀ v : State, (takes → v = u) → (¬takes → v = measureBeacon b u) →
          t.pcu.timed = v.pcu.timed ∧ t.pcu.due = v.pcu.due ∧ (∀ ch, channelOf t.pcu ch = channelOf v.pcu ch) ∧
            hasEvent t.lp.events .dutyDropped = hasEvent v.lp.events .dutyDropped) ∧
        (¬takes → t.tb = (measureBeacon b u).tb) ∧
        (takes → t.tb = { u.tb with lock := .locked, inWindow := 2, residual := 0, missed := 0, sample := none
                                    expired := t.tb.expired }) ∧
        settingsKept s t ∧ t.pcu.run = s.pcu.run ∧ t.pcu.pendingDuty = s.pcu.pendingDuty ∧
        t.tc.causes = s.tc.causes ∧ t.tc.tripEpoch = s.tc.tripEpoch ∧
        (t.tc = s.tc ∨ (lockHeld t.tb.lock = false ∧ t.tc = unlockedTrip s.tc)) ∧
        t.mu.bufA = s.mu.bufA ∧ t.mu.bufB = s.mu.bufB ∧ t.mu.ticket = s.mu.ticket ∧
        (hasEvent t.lp.events .joined = true ↔
          hasEvent s.lp.events .joined = true ∨ (s.mc.station = .joining ∧ slotAfter b s)) ∧
        (hasEvent t.lp.events .displaced = true ↔
          hasEvent s.lp.events .displaced = true ∨ (s.mc.station = .member ∧ ¬slotAfter b s)) ∧
        (hasEvent t.lp.events .referenceChanged = true ↔ hasEvent s.lp.events .referenceChanged = true ∨
          s.mc.role = .reference ∨ t.mc.record.bind (·.reference) ≠ s.mc.record.bind (·.reference)) ∧
        (hasEvent t.lp.events .membership = true ↔ hasEvent s.lp.events .membership = true ∨
          s.mc.record.map (·.mask) ≠ some b.mask) ∧
        (hasEvent t.lp.events .peerLost = true ↔ hasEvent s.lp.events .peerLost = true ∨
          ∃ id : StationId, id ≠ s.sid ∧ t.mc.roster[id.val].state = .lost ∧ s.mc.roster[id.val].state ≠ .lost) ∧
        (∀ e ∈ [Event.left, .joinFailed, .holdover, .trip, .mailIn, .mailOverflow, .dutyDue, .mismatch, .conflict,
            .isolated, .lineFault, .conflictSeen], hasEvent t.lp.events e = hasEvent s.lp.events e))

/-- What TB does with an accepted beacon for which it holds a sample (R5, R6, R7, R8, R9, R10, R11). With M counts an epoch,
e0 is the beacon's position with LINE_DELAY less the station's at the marker, taken above -M/2 and up to M/2, and e is e0 less
the sync steps decided since, taken likewise: the last phase error. It jumps in FREE, in ACQUIRE outside the window, and in
LOCKED or HOLDOVER outside four windows, which ends in ACQUIRE; else the error becomes the residual, and the second in-window
measurement in ACQUIRE, and every one in LOCKED or HOLDOVER, gives LOCKED. The adopted epoch number is k epochs from the
beacon's, where k counts whole epochs in its position less e0; that it is taken back by the epochs the settled phase stood
ahead is the model's (log 7), and so is that the boundary of this count, while not yet taken, is counted in the phase that a
jump moves (log 3). A jump re-bases the output position and the interval it begins is no output carrier (R66, R75). A change
of the epoch number is handed to PCU, as EpochNumberChange says. Without a sample the missed-beacon count is cleared and an
open window has its beacon, and no more (log 26). -/
def Obligations.Measurement : Prop :=
  ∀ (b : Beacon) (s : State), (s.config = none → measureBeacon b s = s) ∧
    (s.config ≠ none → s.tb.sample = none → measureBeacon b s =
      { s with tb := { s.tb with missed := 0, windowSeen := s.tb.windowSeen || s.tb.windowOpen } }) ∧
    ∀ (cfg : ConfigRecord) (m : MarkerSample) (e0 e k q : Int) (place : Nat), s.config = some cfg → acceptedValues cfg →
    s.tb.sample = some m →
    let counts : Int := epochCounts cfg
    let sent : Int := b.carrier.toNat * carrierLength cfg + b.position.toNat + cfg.lineDelay
    let jumps := s.tb.lock = .free ∨ (s.tb.lock = .acquire ∧ cfg.window < e.natAbs) ∨
      ((s.tb.lock = .locked ∨ s.tb.lock = .holdover) ∧ 4 * cfg.window < e.natAbs)
    let locks := ¬jumps ∧ (s.tb.lock ≠ .acquire ∨ 1 ≤ s.tb.inWindow)
    let adopted := b.epoch + BitVec.ofInt 16 (k - m.ahead + m.boundariesSince)
    counts ∣ sent - (m.carrier * carrierLength cfg + m.position : Nat) - e0 → -counts < 2 * e0 → 2 * e0 ≤ counts →
    counts ∣ e0 - m.stepsSince - e → -counts < 2 * e → 2 * e ≤ counts →
    k * counts ≤ sent - e0 → sent - e0 < (k + 1) * counts →
    (place : Int) < counts →
    ((s.tb.carrier * carrierLength cfg + s.tb.position + countsPast s.tb : Nat) : Int) + s.tb.syncLeft + e =
      q * counts + place →
    ∃ t, measureBeacon b s = t ∧ hostKept s t ∧ t.mc = s.mc ∧ t.lc = s.lc ∧ t.mu = s.mu ∧
      t.tb.sample = none ∧ t.tb.phaseError = some e ∧ t.tb.missed = 0 ∧
      t.tb.windowSeen = (s.tb.windowSeen || s.tb.windowOpen) ∧ t.tb.windowOpen = s.tb.windowOpen ∧
      t.tb.target = s.tb.target ∧
      (jumps → t.tb.carrier = place / carrierLength cfg ∧ t.tb.position = place % carrierLength cfg ∧
        t.tb.epoch = adopted + BitVec.ofInt 16 q ∧ t.tb.residual = 0 ∧ t.tb.syncLeft = 0 ∧ t.tb.inWindow = 0 ∧
        t.tb.lock = .acquire ∧ t.tb.current = s.tb.target ∧ outputRebased cfg t.tb ∧
        (t.tb.outPos : Int) = ((t.tb.position : Int) - s.tb.target) % carrierLength cfg ∧
        requestsFormed (outputCounter cfg t.tb.outPos 0) s.pcu t.pcu) ∧
      (¬jumps → t.tb.carrier = s.tb.carrier ∧ t.tb.position = s.tb.position ∧ t.tb.epoch = adopted ∧
        t.tb.residual = e ∧ t.tb.syncLeft = s.tb.syncLeft ∧ t.tb.current = s.tb.current ∧ t.tb.outPos = s.tb.outPos ∧
        t.tb.netStep = s.tb.netStep ∧ t.tb.inCarrier = s.tb.inCarrier ∧
        ∀ ch, channelOf t.pcu ch = channelOf s.pcu ch) ∧
      (locks → t.tb.lock = .locked ∧ t.tb.inWindow = 2) ∧
      (¬jumps → ¬locks → t.tb.lock = .acquire ∧ t.tb.inWindow = s.tb.inWindow + 1) ∧
      t.pcu.timed = (setEpoch t.tb.epoch s).pcu.timed ∧ t.pcu.due = (setEpoch t.tb.epoch s).pcu.due ∧
      hasEvent t.lp.events .dutyDropped = hasEvent (setEpoch t.tb.epoch s).lp.events .dutyDropped ∧
      (t.tb.epoch = s.tb.epoch → t.pcu.timed = s.pcu.timed ∧ t.pcu.due = s.pcu.due) ∧
      settingsKept s t ∧ t.pcu.run = s.pcu.run ∧ t.pcu.pendingDuty = s.pcu.pendingDuty ∧
      (outputLaw s → t.pcu.output = gatedOutput s.mc.station t.tb.lock s.pcu.run t.tc.trip s.pcu.output) ∧
      (lockHeld t.tb.lock = true → t.tc = s.tc) ∧
      (jumps → lockHeld s.tb.lock = true → t.tc = unlockedTrip s.tc) ∧
      (hasEvent t.lp.events .locked = true ↔ hasEvent s.lp.events .locked = true ∨ (locks ∧ s.tb.lock ≠ .locked)) ∧
      (hasEvent t.lp.events .lockLost = true ↔
        hasEvent s.lp.events .lockLost = true ∨ (jumps ∧ lockHeld s.tb.lock = true))

/-! ### Received frames -/

/-- JOIN_RECEIVED and JOIN_LEAVE_REPLY_COMPLETE (R24, R37, R38, R108, R113). A MEMBER whose own ID is the source of a JOIN
drives the refusal bit and posts CONFLICT_SEEN; a reference of another ID drives the acknowledge bit when P, mode and E all
match, and the refusal bit when any differs; any other station drives neither. When the reply bits are complete the frame
ends; in JOINING, MEMBER and LEAVING a JOIN from another ID, acknowledged and not refused, makes its entry JOINING, and a
LEAVE makes a MEMBER entry LEAVING and a JOINING one ABSENT, which ends mail for it; every other case changes no entry. -/
def Obligations.JoinAndLeaveFrames : Prop :=
  (∀ (src : StationId) (req : JoinRequest) (s : State), s.pins.resetn = true → ∃ t ack refuse,
    exec (.joinReceived src req) s = .next t ∧ heardFrom src ack refuse s t ∧ t.tc = s.tc ∧ t.mu = s.mu ∧
      t.mc.roster[src.val] = heardRoster src s src ∧
      (s.config = none → ack = false ∧ refuse = false ∧ t.lp = s.lp) ∧
      (∀ cfg, s.config = some cfg →
        (s.mc.station = .member → src = s.sid →
          ack = false ∧ refuse = true ∧ eventsAdded (eventMask .conflictSeen) s t) ∧
        (¬(s.mc.station = .member ∧ src = s.sid) → t.lp = s.lp) ∧
        (s.mc.role = .reference → src ≠ s.sid →
          req.period.toNat = cfg.period → req.mode = cfg.mode → req.length = cfg.length →
            ack = true ∧ refuse = false) ∧
        (s.mc.role = .reference → src ≠ s.sid →
          ¬(req.period.toNat = cfg.period ∧ req.mode = cfg.mode ∧ req.length = cfg.length) →
            ack = false ∧ refuse = true) ∧
        (¬(s.mc.station = .member ∧ src = s.sid) → ¬(s.mc.role = .reference ∧ src ≠ s.sid) →
          ack = false ∧ refuse = false))) ∧
  (∀ (src : StationId) (ack refuse : Bool) (s : State), s.pins.resetn = true →
    (groupState s.mc.station = false ∨ src = s.sid → ∀ kind,
      exec (.joinLeaveReplyComplete src kind ack refuse) s = .next { s with lc := frameEnded s.lc }) ∧
    (groupState s.mc.station = true → src ≠ s.sid →
      (ack = true → refuse = false →
        exec (.joinLeaveReplyComplete src .join ack refuse) s = .next { s with
          lc := frameEnded s.lc
          mc := { s.mc with
            roster := s.mc.roster.set src.val { s.mc.roster[src.val] with state := .joining } } }) ∧
      (ack = false ∨ refuse = true →
        exec (.joinLeaveReplyComplete src .join ack refuse) s = .next { s with lc := frameEnded s.lc }) ∧
      (s.mc.roster[src.val].state = .member →
        exec (.joinLeaveReplyComplete src .leave ack refuse) s = .next { s with
          lc := frameEnded s.lc
          mc := { s.mc with
            roster := s.mc.roster.set src.val { s.mc.roster[src.val] with state := .leaving } } }) ∧
      (s.mc.roster[src.val].state = .joining →
        exec (.joinLeaveReplyComplete src .leave ack refuse) s = .next (destinationGone src { s with
          lc := frameEnded s.lc
          mc := { s.mc with
            roster := s.mc.roster.set src.val { s.mc.roster[src.val] with state := .absent } } })) ∧
      (s.mc.roster[src.val].state ≠ .member → s.mc.roster[src.val].state ≠ .joining →
        exec (.joinLeaveReplyComplete src .leave ack refuse) s = .next { s with lc := frameEnded s.lc })))

/-- STATUS_RECEIVED (R37, R39, R113): in JOINING, MEMBER and LEAVING the entry of a source other than the station's own ID
takes the frame's report flags and phase error, its state unchanged, whatever it is and whatever the frame's epoch; in
LISTENING the source is reported alone; in any other state, and for the station's own ID, no entry changes. The plan of the
reply bits is held in the model's own fields (log 20). -/
def Obligations.StatusReceived : Prop :=
  ∀ (src : StationId) (status : StatusReport) (s : State), s.pins.resetn = true → ∃ t,
    exec (.statusReceived src status) s = .next t ∧ heardFrom src true false s t ∧ t.tc = s.tc ∧ t.mu = s.mu ∧
      t.lp = s.lp ∧
      (src ≠ s.sid → s.mc.station = .joining ∨ s.mc.station = .member ∨ s.mc.station = .leaving →
        t.mc.roster[src.val] =
          { state := s.mc.roster[src.val].state, silence := 0, lastHeard := s.tb.epoch
            report := some status.report, phaseError := some status.phaseError }) ∧
      (src ≠ s.sid → s.mc.station = .listening →
        t.mc.roster[src.val] = { s.mc.roster[src.val] with silence := 0, lastHeard := s.tb.epoch }) ∧
      (src = s.sid ∨ onLineState s.mc.station = false → t.mc.roster[src.val] = s.mc.roster[src.val])

/-- MAIL_RECEIVED and MAIL_FOR_OTHER_DESTINATION (R37, R115, R131): in JOINING, MEMBER and LEAVING a mail whose source and
ticket the filter holds is acknowledged and nothing stored; else it is stored in A if A is free and otherwise in B, marked
later in arrival, the filter set and MAIL_IN posted; with both full it is refused with the overflow indication and
MAIL_OVERFLOW. In any other state, and for another destination, neither bit is driven and nothing is stored. The marks of a
store on the count are the model's own (log 3), and so is that a mail given from outside the count sets none (log 38). -/
def Obligations.MailReceived : Prop :=
  ∀ (src : StationId) (ticket : Byte) (data : List Byte) (s : State), s.pins.resetn = true → ∃ t ack refuse,
    exec (.mailReceived src ticket data) s = .next t ∧ heardFrom src ack refuse s t ∧ t.tc = s.tc ∧
      t.mc.roster[src.val] = heardRoster src s src ∧
      (∃ u, exec (.mailForOtherDestination src) s = .next u ∧ heardFrom src false false s u ∧
        u.mc.roster[src.val] = heardRoster src s src ∧ u.tc = s.tc ∧ u.mu = s.mu ∧ u.lp = s.lp) ∧
      (groupState s.mc.station = false → ack = false ∧ refuse = false ∧ t.mu = s.mu ∧ t.lp = s.lp) ∧
      (groupState s.mc.station = true → s.mu.filter[src.val] = some ticket →
        ack = true ∧ refuse = false ∧ t.mu = s.mu ∧ t.lp = s.lp) ∧
      (groupState s.mc.station = true → s.mu.filter[src.val] ≠ some ticket →
        s.mu.bufA = none ∨ s.mu.bufB = none →
          ack = true ∧ refuse = false ∧ eventsAdded (eventMask .mailIn) s t ∧
            t.mu = { s.mu with
              filter := s.mu.filter.set src.val (some ticket)
              bufA := t.mu.bufA, bufB := t.mu.bufB, aLater := t.mu.aLater
              storedNow := if s.mu.storeDue then some src else s.mu.storedNow, storeDue := false } ∧
            (s.mu.bufA = none → t.mu.bufA = some { source := src, ticket := ticket, data := data } ∧
              t.mu.bufB = s.mu.bufB ∧ t.mu.aLater = true) ∧
            (s.mu.bufA ≠ none → t.mu.bufB = some { source := src, ticket := ticket, data := data } ∧
              t.mu.bufA = s.mu.bufA ∧ t.mu.aLater = false)) ∧
      (groupState s.mc.station = true → s.mu.filter[src.val] ≠ some ticket → s.mu.bufA ≠ none → s.mu.bufB ≠ none →
        ack = false ∧ refuse = true ∧ t.mu = { s.mu with overflow := true } ∧
          eventsAdded (eventMask .mailOverflow) s t)

/-- TRIP_FRAME_RECEIVED and LEAVE_RECEIVED (R37, R102, R113, R115): both are acknowledged and their source reported. A TRIP
frame's source is appended to the origin list unless the trip state is ARMED, the ID is in the list or the list holds 8; its
cause and epoch are not recorded and the trip state does not change. A LEAVE changes no entry's state before its reply bits. -/
def Obligations.TripAndLeaveReceived : Prop :=
  ∀ (src : StationId) (cause : Byte) (epoch : EpochNumber) (s : State), s.pins.resetn = true → ∃ t u,
    exec (.tripFrameReceived src cause epoch) s = .next t ∧ heardFrom src true false s t ∧ t.mu = s.mu ∧ t.lp = s.lp ∧
      t.mc.roster[src.val] = heardRoster src s src ∧
      t.tc = { s.tc with
        origins := if s.tc.trip = .armed ∨ src ∈ s.tc.origins ∨ 8 ≤ s.tc.origins.length then s.tc.origins
          else s.tc.origins ++ [src] } ∧
      exec (.leaveReceived src) s = .next u ∧ heardFrom src true false s u ∧ u.mu = s.mu ∧ u.lp = s.lp ∧
      u.mc.roster[src.val] = heardRoster src s src ∧ u.tc = s.tc

/-! ### The framer and the station's own frames -/

/-- The commands of the receive framer (R6, R108, R112, R114): FRAMER_IDLE takes WAIT_IDLE to IDLE; a start seen in IDLE
enters FRAME; a discarded frame loses its sample and its reply bits, a format error ending it at once and any other fault
letting it run on; after the refusal bit a receiver waits for idle. A sender's own frame is not ended by it. One count of the
bit engine and of the line monitor (R108, R109, R111, R113, R117, R121): a bit time is 8 counts; at its first the level of the
bit is driven, of an own frame, of a reply bit planned, or recessive; the level of LRX is sampled at its fifth count, is kept
in FRAME and counted in WAIT_IDLE, whose twelfth recessive bit has FRAMER_IDLE; the 513th dominant count on end has
LINE_RAISED, and the twelfth recessive bit on end LINE_INACTIVE while LINE is active; a falling edge in IDLE is a start seen
and every bit boundary in IDLE an opportunity; the sender of a beacon has its marker by its own frame, and a receiver by the
kind received, at the boundary after the arbitration field alone; a receiver ends a frame of a format error at once, has the
refusal bit's sample for a frame whose replies MC does not read, and for a JOIN or LEAVE that passed its checks the reply at
the end of that bit; and a sender has its success at the end of its own. The planned reply bits and the mark of a failed check
are the model's own fields (log 20), those of the bit engine too (log 30), that a level goes by the transmitter before any
command of the count is its choice (log 36), and the own drive is on LRX at its own count (log 5). -/
def Obligations.FramerCommands : Prop :=
  (∀ s : State, s.pins.resetn = true →
    exec .framerIdle s = .next { s with lc := { s.lc with
      framer := if s.lc.framer = .waitIdle then .idle else s.lc.framer } } ∧
    (s.lc.framer ≠ .idle → exec .frameStartSeen s = .next s) ∧
    (s.lc.framer = .idle → exec .frameStartSeen s = .next { s with lc := frameBegun s.config s.lc }) ∧
    exec (.frameDiscarded .format) s = .next { s with tb := { s.tb with sample := none }, lc := frameEnded s.lc } ∧
    (∀ why, why ≠ .format → exec (.frameDiscarded why) s = .next { s with
      tb := { s.tb with sample := none }
      lc := { s.lc with replyAck := false, replyRefuse := false, failed := true } }) ∧
    (s.lc.onLine = none → s.lc.attempt = none →
      exec .refusalBitSampled s = .next { s with lc := frameEnded s.lc }) ∧
    (s.lc.onLine ≠ none ∨ s.lc.attempt ≠ none → exec .refusalBitSampled s = .next s)) ∧
  ∀ (s : State) (lrx : LineLevel), oneCount s → lrx = (s.stimulus.headD s.pins).lrx → ∃ t level, step s = .next t ∧
    (∀ r, lrx = .forced r → level = r) ∧ (∀ r, lrx = .shared r → level = (r && t.lc.ltx)) ∧ t.lc.lrxLast = level ∧
    t.lc.bitPhase = (s.lc.bitPhase + 1) % 8 ∧ t.lc.slots = s.lc.slots ∧ t.lc.txOn = s.lc.txOn ∧
    t.lc.onLine = s.lc.onLine ∧ t.lc.attempt = s.lc.attempt ∧ t.lc.failures = s.lc.failures ∧
    t.lc.lineActive = s.lc.lineActive ∧
    t.lc.dominantRun = (if level then 0 else s.lc.dominantRun + 1) ∧
    (Instr.lineRaised ∈ t.pending ↔ t.lc.dominantRun = 513) ∧
    (Instr.frameStartSeen ∈ t.pending ↔ s.lc.framer = .idle ∧ s.lc.lrxLast = true ∧ level = false) ∧
    (Instr.startOpportunity ∈ t.pending ↔ s.lc.framer = .idle ∧ t.lc.bitPhase = 0) ∧
    (t.lc.bitPhase ≠ 0 → t.lc.ltx = s.lc.ltx ∧ t.lc.bitIndex = s.lc.bitIndex) ∧
    (t.lc.bitPhase ≠ 0 ∨ s.lc.framer ≠ .frame ∨ s.lc.bitIndex ≠ 9 ∨ s.lc.replyDue = true →
      Instr.beaconMarker ∉ t.pending ∧ Instr.arbitrationPassed ∉ t.pending) ∧
    (t.lc.bitPhase ≠ 0 ∨ s.lc.replyDue = false →
      (∀ ack refuse, Instr.frameSuccess ack refuse ∉ t.pending) ∧
        ∀ src kind ack refuse, Instr.joinLeaveReplyComplete src kind ack refuse ∉ t.pending) ∧
    (t.lc.bitPhase ≠ 0 → t.lc.bitPhase ≠ 4 → t.lc.replyDue = s.lc.replyDue ∧ t.lc.framer = s.lc.framer) ∧
    (t.lc.bitPhase = 0 →
      t.lc.framer = s.lc.framer ∧ t.lc.replyDue = false ∧
      t.lc.bitIndex = (if s.lc.framer = .frame then s.lc.bitIndex + 1 else s.lc.bitIndex) ∧
      (s.lc.framer ≠ .frame ∨ s.lc.txOn = false → t.lc.ltx = true) ∧
      (∀ f, s.lc.framer = .frame → s.lc.txOn = true →
        (∃ own, s.lc.onLine = some own ∧ own.frame = f) ∨
          (s.lc.onLine = none ∧ ∃ kind, s.lc.attempt = some kind ∧ slotOf s.lc.slots kind = some f) →
        t.lc.ltx = (frameBits s.sid f).getD s.lc.bitIndex true) ∧
      (s.lc.framer = .frame → s.lc.txOn = true → s.lc.onLine = none → s.lc.attempt = none →
        t.lc.ltx = match rxStatus s.lc.rxBits with
          | .complete _ _ _ _ [] => !(s.lc.replyAck && !s.lc.failed)
          | .complete _ _ _ _ [_] => !(s.lc.replyRefuse && !s.lc.failed)
          | _ => true) ∧
      (s.lc.replyDue = false → s.lc.framer = .frame → s.lc.bitIndex = 9 →
        (Instr.arbitrationPassed ∈ t.pending ↔ s.lc.attempt ≠ none) ∧
        (∀ own, s.lc.onLine = some own → (Instr.beaconMarker ∈ t.pending ↔ frameKind own.frame = .beacon)) ∧
        (∀ kind f, s.lc.onLine = none → s.lc.attempt = some kind → slotOf s.lc.slots kind = some f →
          (Instr.beaconMarker ∈ t.pending ↔ frameKind f = .beacon)) ∧
        (s.lc.onLine = none → s.lc.attempt = none →
          (Instr.beaconMarker ∈ t.pending ↔ natOfBits (s.lc.rxBits.take 4) = 1))) ∧
      (∀ own, s.lc.replyDue = true → s.lc.onLine = some own →
        Instr.frameSuccess (!((s.lc.rxBits.drop (frameBits s.sid own.frame).length).getD 0 true))
          (!((s.lc.rxBits.drop (frameBits s.sid own.frame).length).getD 1 true)) ∈ t.pending) ∧
      (∀ kind src payload good ack refuse, s.lc.replyDue = true → s.lc.onLine = none →
        rxStatus s.lc.rxBits = .complete kind src payload good [ack, refuse] →
        Instr.joinLeaveReplyComplete src (if kind = 3 then .join else .leave) (!ack) (!refuse) ∈ t.pending)) ∧
    (t.lc.bitPhase ≠ 4 → t.lc.recessiveRun = s.lc.recessiveRun ∧ t.lc.idleRun = s.lc.idleRun ∧
      t.lc.rxBits = s.lc.rxBits ∧ Instr.lineInactive ∉ t.pending ∧ Instr.framerIdle ∉ t.pending ∧
      Instr.refusalBitSampled ∉ t.pending) ∧
    (t.lc.bitPhase = 4 →
      t.lc.recessiveRun = (if level then min 12 (s.lc.recessiveRun + 1) else 0) ∧
      (Instr.lineInactive ∈ t.pending ↔ s.lc.lineActive = true ∧ t.lc.recessiveRun = 12) ∧
      (s.lc.framer = .waitIdle → t.lc.idleRun = (if level then s.lc.idleRun + 1 else 0) ∧
        (Instr.framerIdle ∈ t.pending ↔ 12 ≤ t.lc.idleRun)) ∧
      (s.lc.framer ≠ .frame ∨ s.lc.bitIndex = 0 → t.lc.rxBits = s.lc.rxBits) ∧
      (s.lc.framer = .frame → s.lc.bitIndex ≠ 0 → t.lc.rxBits = s.lc.rxBits ++ [level] ∧
        (∀ own, s.lc.onLine = some own → 10 ≤ s.lc.bitIndex →
          (Instr.transmitFailure ∈ t.pending ↔
            s.lc.bitIndex ≤ (frameBits s.sid own.frame).length ∧ s.lc.ltx ≠ level)) ∧
        (∀ kind f, s.lc.onLine = none → s.lc.attempt = some kind → slotOf s.lc.slots kind = some f →
          s.lc.bitIndex ≤ 9 → (Instr.arbitrationLost ∈ t.pending ↔ s.lc.ltx = true ∧ level = false)) ∧
        (∀ kind src payload good, s.lc.onLine = none → s.lc.attempt = none →
          rxStatus t.lc.rxBits = .complete kind src payload good [] →
          endOfChecks s.sid kind src payload good ∈ t.pending) ∧
        (∀ own, s.lc.onLine = some own →
          (s.lc.bitIndex = (frameBits s.sid own.frame).length + 2 →
            t.lc.replyDue = true ∧ t.lc.framer = .waitIdle ∧ t.lc.idleRun = 0) ∧
          (s.lc.bitIndex ≠ (frameBits s.sid own.frame).length + 2 →
            t.lc.replyDue = s.lc.replyDue ∧ t.lc.framer = .frame) ∧ Instr.refusalBitSampled ∉ t.pending) ∧
        (s.lc.onLine = none → s.lc.attempt = none →
          (rxStatus t.lc.rxBits = .formatError → Instr.frameDiscarded .format ∈ t.pending) ∧
          (∀ kind src payload good ack refuse, rxStatus t.lc.rxBits = .complete kind src payload good [ack, refuse] →
            ((kind = 3 ∨ kind = 4) → s.lc.failed = false →
              t.lc.replyDue = true ∧ t.lc.framer = .waitIdle ∧ t.lc.idleRun = 0 ∧
                Instr.refusalBitSampled ∉ t.pending) ∧
            (kind ≠ 3 ∧ kind ≠ 4 ∨ s.lc.failed = true → Instr.refusalBitSampled ∈ t.pending)))))

/-- START_OPPORTUNITY, ARBITRATION_LOST and ARBITRATION_PASSED (R108, R109, R111, R117, R118, R126): in IDLE with the
transmitter on the full slot of the lowest kind code starts its attempt with a start bit; a loss stops the driving and leaves
the frame in its slot; at passing the slot's frame is taken onto the line, returnable, its slot is empty, its first length
bit is driven, and a mail is in flight. That the own drive is on LRX at its own count is the model's choice (log 5), and the
marks of a frame begun are its own fields (log 20). -/
def Obligations.StartAndArbitration : Prop :=
  ∀ s : State, s.pins.resetn = true →
    (s.lc.framer ≠ .idle ∨ s.lc.txOn = false ∨ (∀ kind, slotOf s.lc.slots kind = none) →
      exec .startOpportunity s = .next s) ∧
    (∀ kind, s.lc.framer = .idle → s.lc.txOn = true → slotOf s.lc.slots kind ≠ none →
      (∀ other, kindCode other < kindCode kind → slotOf s.lc.slots other = none) → ∃ run,
      exec .startOpportunity s = .next { s with lc := { frameBegun s.config s.lc with
        attempt := some kind, ltx := false, dominantRun := run } } ∧
      (s.pins.lrx ≠ .forced true → run = max 1 s.lc.dominantRun)) ∧
    (s.lc.attempt = none → exec .arbitrationLost s = .next s ∧ exec .arbitrationPassed s = .next s) ∧
    (∀ kind, s.lc.attempt = some kind →
      exec .arbitrationLost s = .next { s with lc := { s.lc with attempt := none, ltx := true } }) ∧
    (∀ kind f, s.lc.attempt = some kind → slotOf s.lc.slots kind = some f → frameKind f = kind →
      (payloadBytes f).length ≤ 12 → ∃ slots,
      (∀ k, slotOf slots k = if k = kind then none else slotOf s.lc.slots k) ∧
        exec .arbitrationPassed s = .next { s with
          lc := { s.lc with
            attempt := none, slots := slots
            onLine := some { frame := f, returnable := true, restarted := false, stale := false }
            ltx := decide (s.lc.txOn = false ∨ 8 ≤ (payloadBytes f).length) }
          mu := { s.mu with inFlight := s.mu.inFlight || decide (kind = .mail) } })

/-- FRAME_SUCCESS but for a BEACON (R25, R26, R27, R32, R101, R118, R119, R126, R127, R128, R129): the frame is off the line
and the failure count 0. An outcome that LC or the owner discards, and that of a TRIP or a STATUS, does nothing more. A mail
in flight has one more attempt: acknowledged it is DELIVERED; else, its destination lost, UNDELIVERED; else at 3 attempts
REFUSED or UNDELIVERED by the refusal bit; so complete it leaves as MAIL_COMPLETION does; else a retry is due. A JOIN refused
takes a JOINING station to CONFLICT; accepted, the admission wait begins; unanswered, the try counts, and the fourth ends the
sequence as JOIN_FAILURE does. A LEAVE acknowledged sets the mark of a LEAVING follower. The mark of a JOIN refill that is due
is the model's (log 14). -/
def Obligations.FrameSuccess : Prop :=
  (∀ (s base : State) (ack refuse : Bool), s.pins.resetn = true →
    base = { s with lc := { offTheLine s.lc with failures := 0 } } →
    (s.lc.onLine = none → exec (.frameSuccess ack refuse) s = .next s) ∧
    ∀ own, s.lc.onLine = some own →
      (own.restarted = true ∨ own.stale = true ∨ frameKind own.frame = .trip ∨ frameKind own.frame = .status →
        exec (.frameSuccess ack refuse) s = .next base) ∧
      (own.restarted = false → own.stale = false → frameKind own.frame = .mail →
        (s.mu.inFlight = false → exec (.frameSuccess ack refuse) s = .next base) ∧
        ∀ head rest, s.mu.inFlight = true → s.mu.queue = head :: rest →
          (ack = false → head.destLost = false → head.attempts + 1 < 3 →
            exec (.frameSuccess ack refuse) s = .next { base with mu := { s.mu with
              queue := { head with attempts := head.attempts + 1 } :: rest, inFlight := false, retryDue := true } }) ∧
          (∀ outcome, ack = true ∨ head.destLost = true ∨ 3 ≤ head.attempts + 1 →
            outcome = (if ack then .delivered else if head.destLost then .undelivered
              else if refuse then .refused else .undelivered) →
            exec (.frameSuccess ack refuse) s = exec .mailCompletion { base with
              mu := { s.mu with
                queue := { head with attempts := head.attempts + 1, outcome := some outcome } :: rest
                inFlight := false, retryDue := false }
              lc := (emptySlot .mail base).lc }))) ∧
  (∀ (s base : State) (own : OwnFrame) (ack refuse : Bool), s.pins.resetn = true →
    base = { s with lc := { offTheLine s.lc with failures := 0 } } →
    s.lc.onLine = some own → own.restarted = false → own.stale = false →
    (frameKind own.frame = .join →
      (s.mc.station ≠ .joining → exec (.frameSuccess ack refuse) s = .next base) ∧
      (s.mc.station = .joining → refuse = true → ∃ t, exec (.frameSuccess ack refuse) s = .next t ∧
        LeftTheLine .conflict s t ∧ phaseKept s t ∧ settingsKept s t ∧ t.tc = unlockedTrip s.tc ∧
          t.lc.slots = { TxSlots.empty with trip := s.lc.slots.trip } ∧ t.lc.txOn = s.lc.txOn ∧
          eventsAdded (unlockedEvents s.tc ||| eventMask .conflict) s t) ∧
      (s.mc.station = .joining → refuse = false → ack = true →
        exec (.frameSuccess ack refuse) s = .next { base with
          mc := { s.mc with admission := { accepted := true, boundaries := 0 } } }) ∧
      (s.mc.station = .joining → refuse = false → ack = false → s.mc.joinAttempts < 3 →
        exec (.frameSuccess ack refuse) s = .next { base with
          mc := { s.mc with joinAttempts := s.mc.joinAttempts + 1, joinRefillDue := true } }) ∧
      (s.mc.station = .joining → refuse = false → ack = false → 3 ≤ s.mc.joinAttempts →
        exec (.frameSuccess ack refuse) s = exec .joinFailure base)) ∧
    (frameKind own.frame = .leave →
      exec (.frameSuccess ack refuse) s = .next { base with
        mc := { s.mc with
          leaveAcked := s.mc.leaveAcked || decide (s.mc.station = .leaving ∧ s.mc.role ≠ .reference ∧ ack = true) } }))

/-- FRAME_SUCCESS of a BEACON at MC (R13, R49, R53, R60): a candidate becomes reference with the mask its beacon carried: the
record, the roster, the target as a migrate request, and TB in LOCKED with the residual and the missed-beacon count 0; the
election ends; REFERENCE_CHANGED and MEMBERSHIP are posted on a change. A LEAVING reference whose handover beacon has been
sent leaves the line with LEFT. Any other beacon does nothing more; that this holds of a candidate's that LEAVE overtook is the
model's choice (log 32). The clause that a sync step still being realised runs on when the
candidate takes the role is the model's choice too, where R13 says that the phase is not corrected while REFERENCE (log 25), and
so is that a peer of the sent mask that became LOST since the fill becomes MEMBER by R41 (log 42). -/
def Obligations.BeaconSent : Prop :=
  ∀ (s base : State) (own : OwnFrame) (b : Beacon) (ack refuse : Bool), s.pins.resetn = true →
    base = { s with lc := { offTheLine s.lc with failures := 0 } } →
    s.lc.onLine = some own → own.restarted = false → own.stale = false → own.frame = .beacon b →
    (s.config = none ∨ (s.mc.role ≠ .candidate ∧
        ¬(s.mc.role = .reference ∧ s.mc.station = .leaving ∧ b.handover = true)) →
      exec (.frameSuccess ack refuse) s = .next base) ∧
    (s.config ≠ none → s.mc.role = .reference → s.mc.station = .leaving → b.handover = true → ∃ t,
      exec (.frameSuccess ack refuse) s = .next t ∧ LeftTheLine .configured s t ∧ phaseKept s t ∧
        t.lc.slots.leave = none ∧ t.tc = unlockedTrip s.tc ∧ eventsAdded (unlockedEvents s.tc ||| eventMask .left) s t) ∧
    (∀ cfg, s.config = some cfg → s.mc.role = .candidate → ∃ t, exec (.frameSuccess ack refuse) s = .next t ∧
      hostKept s t ∧ phaseKept s t ∧ t.mc.role = .reference ∧ t.mc.station = s.mc.station ∧ t.mc.election = none ∧
      t.mc.record = some
        { epoch := b.epoch, mask := b.mask, reference := some s.sid, handover := false
          slot := if inMask b.mask s.sid then some (slotIn cfg b.mask s.sid) else none } ∧
      (∀ id : StationId, id ≠ s.sid →
        t.mc.roster[id.val] = adoptedEntry (inMask b.mask id) false s.mc.roster[id.val]) ∧
      t.tb.lock = .locked ∧ t.tb.inWindow = 2 ∧ t.tb.residual = 0 ∧ t.tb.missed = 0 ∧
      t.tb.current = s.tb.current ∧ t.tb.syncLeft = s.tb.syncLeft ∧
      (inMask b.mask s.sid = true → t.tb.target = (slotIn cfg b.mask s.sid).target) ∧
      (inMask b.mask s.sid = false → t.tb.target = s.tb.target) ∧ t.tc = s.tc ∧ settingsKept s t ∧
      t.pcu.run = s.pcu.run ∧ t.lc.failures = 0 ∧ t.lc.onLine = none ∧
      (outputLaw s → t.pcu.output = gatedOutput s.mc.station .locked s.pcu.run s.tc.trip s.pcu.output) ∧
      (hasEvent t.lp.events .referenceChanged = true ↔ hasEvent s.lp.events .referenceChanged = true ∨
        s.mc.record.bind (·.reference) ≠ some s.sid) ∧
      (hasEvent t.lp.events .membership = true ↔ hasEvent s.lp.events .membership = true ∨
        s.mc.record.map (·.mask) ≠ some b.mask) ∧
      (hasEvent t.lp.events .locked = true ↔ hasEvent s.lp.events .locked = true ∨ s.tb.lock ≠ .locked))

/-- TRANSMIT_FAILURE and ISOLATION (R34, R118, R119, R120, R126, R129): the frame is off the line and goes back into its slot
if it is returnable; the failure is counted; a mail's flight ends, and one whose destination is lost is UNDELIVERED and
leaves as MAIL_COMPLETION does. A frame that was on the line at RESTART is neither returned nor counted. At 16 failures the
transmitter is off, every slot empty and the station ISOLATED. The failure notice comes before the isolation (log 16). That
ISOLATION, queued by itself, does its own effect is the model's choice (log 2). -/
def Obligations.TransmitFailures : Prop :=
  ∀ s : State, s.pins.resetn = true →
    (s.lc.onLine = none → exec .transmitFailure s = .next s) ∧
    (s.lc.txOn = false ∨ s.lc.failures < 15 → exec .isolation s = .next s) ∧
    (s.lc.txOn = true → 15 ≤ s.lc.failures → ∃ t, exec .isolation s = .next t ∧ isolatedFrom s t) ∧
    ∀ own lc, s.lc.onLine = some own →
      (own.restarted = true → exec .transmitFailure s = .next { s with lc := offTheLine s.lc }) ∧
      (own.restarted = false → 15 ≤ s.lc.failures → ∃ t, exec .transmitFailure s = .next t ∧ isolatedFrom s t) ∧
      (own.restarted = false → s.lc.failures < 15 →
        lc = { offTheLine s.lc with
          failures := s.lc.failures + 1
          slots := if own.returnable then setSlot s.lc.slots (frameKind own.frame) (some own.frame) else s.lc.slots } →
        (frameKind own.frame ≠ .mail ∨ s.mu.inFlight = false →
          exec .transmitFailure s = .next { s with lc := lc }) ∧
        ∀ head rest, frameKind own.frame = .mail → s.mu.inFlight = true → s.mu.queue = head :: rest →
          (head.destLost = false → exec .transmitFailure s =
            .next { s with lc := lc, mu := { s.mu with inFlight := false } }) ∧
          (head.destLost = true → exec .transmitFailure s = exec .mailCompletion { s with
            lc := (emptySlot .mail { s with lc := lc }).lc
            mu := { s.mu with
              queue := { head with outcome := some .undelivered } :: rest, retryDue := false, inFlight := false } }))

/-! ### Slots of a mask, and frames as bits -/

/-- Slots under a mask (R62, R63): the rank is the number of lower IDs in the mask, and the target floor(rank × L / K); over
the members of one mask ranks and targets increase strictly with the ID, every target is below L, adjacent targets differ by
floor(L/K) or one more, and the lowest ID has rank and target 0. -/
def Obligations.SlotsOfMask : Prop :=
  ∀ (cfg : ConfigRecord) (mask : MemberMask) (id : StationId), acceptedValues cfg → inMask mask id = true →
    (slotIn cfg mask id).rank = (Finset.univ.filter fun i : StationId => inMask mask i = true ∧ i < id).card ∧
      maskSize mask = (Finset.univ.filter fun i : StationId => inMask mask i = true).card ∧
      (slotIn cfg mask id).rank < maskSize mask ∧
      (slotIn cfg mask id).target * maskSize mask ≤ (slotIn cfg mask id).rank * carrierLength cfg ∧
      (slotIn cfg mask id).rank * carrierLength cfg < ((slotIn cfg mask id).target + 1) * maskSize mask ∧
      (slotIn cfg mask id).target < carrierLength cfg ∧
      (lowestId mask = some id ↔ ∀ i, inMask mask i = true → id ≤ i) ∧
      (lowestId mask = some id → slotIn cfg mask id = { rank := 0, target := 0 }) ∧
      ∀ other, inMask mask other = true → id < other →
        (slotIn cfg mask id).rank < (slotIn cfg mask other).rank ∧
          (slotIn cfg mask id).target + 37 ≤ (slotIn cfg mask other).target ∧
          ((slotIn cfg mask other).rank = (slotIn cfg mask id).rank + 1 →
            (slotIn cfg mask other).target = (slotIn cfg mask id).target + carrierLength cfg / maskSize mask ∨
              (slotIn cfg mask other).target = (slotIn cfg mask id).target + carrierLength cfg / maskSize mask + 1)

/-- Frames survive the line (R109, R110, R114, R115, 10.2): the bits of every own frame, read by a receiver, are that kind,
source and payload with a good CRC at the last CRC bit and no sooner, and what follows are its reply bits; with other CRC
bits the CRC is not good; and the frame is delivered as the command that carries the same fields. A mail has 1 to 8 data
bytes. -/
def Obligations.FrameRoundTrip : Prop :=
  ∀ (src own : StationId) (f : TxFrame),
    (∀ m, f = .mail m → 1 ≤ m.data.length ∧ m.data.length ≤ 8) →
    (∀ replies, rxStatus (frameBits src f ++ replies) =
      .complete (kindCode (frameKind f)) src (payloadBytes f) true replies) ∧
    (∀ n, n < (frameBits src f).length → rxStatus ((frameBits src f).take n) = .inProgress) ∧
    (∀ body crc other replies, frameBits src f = body ++ crc → crc.length = 16 → other.length = 16 → other ≠ crc →
      rxStatus (body ++ other ++ replies) = .complete (kindCode (frameKind f)) src (payloadBytes f) false replies) ∧
    endOfChecks own (kindCode (frameKind f)) src (payloadBytes f) true =
      (match f with
      | .trip cause epoch => .tripFrameReceived src (causeCode cause) epoch
      | .beacon b => .beaconReceived src b
      | .join request => .joinReceived src request
      | .leave => .leaveReceived src
      | .status status => .statusReceived src status
      | .mail m =>
        if m.destination = idByte own then .mailReceived src m.ticket m.data else .mailForOtherDestination src) ∧
    (∀ payload, endOfChecks own (kindCode (frameKind f)) src payload false = .frameDiscarded .badCrc)

/-! ### The laws of the device, kept by every step -/

/-- Every law of the device holds after reset, and after every HARDWARE_RESET. The law of RESETN is among them (log 22). The
values State.reset gives where the manual gives none are the model's (log 6, log 30). -/
def Obligations.LawsHoldAtReset : Prop :=
  ∀ (sid : StationId) (fltn : Bool) (s t : State),
    t = State.reset ∨ exec (.hardwareReset sid fltn) s = .next t →
    configLaw t ∧ standingStillLaw t ∧ tripLaw t ∧ outputLaw t ∧ dutyListLaw t ∧ roleLaw t ∧ electionLaw t ∧ countsLaw t ∧
      mailLaw t ∧ slotLaw t ∧ recordLaw t ∧ ownBeaconLaw t ∧ heldLaw t ∧ ∀ ch, stageLaw (channelOf t.pcu ch)

/-- Every step keeps the trip law, and the output law (R87, R88, R93, R95, R102): TRIPN is driven exactly in TRIPPED_LOCAL,
the origin list is bounded, without repeats and empty in ARMED, and the output state is ACTIVE only in MEMBER or LEAVING,
LOCKED or HOLDOVER, with RUN set and the trip state ARMED. Every step keeps the law of RESETN too: while it is low no block
holds any state, TRIPN is not driven and no output is on (R95, log 22). A step is a command, or one count on an empty queue
(log 1). -/
def Obligations.TripAndOutputLawsKept : Prop :=
  ∀ s t : State, step s = .next t → (tripLaw s → tripLaw t) ∧ (outputLaw s → outputLaw t) ∧
    (outputLaw t → t.pcu.output = .active → (t.mc.station = .member ∨ t.mc.station = .leaving) ∧
      (t.tb.lock = .locked ∨ t.tb.lock = .holdover) ∧ t.pcu.run = true ∧ t.tc.trip = .armed) ∧
    (heldLaw s → heldLaw t) ∧
    (heldLaw t → t.pins.resetn = false →
      drivesTripn t = false ∧ anyCause t.tc.causes = false ∧ t.pcu.output = .off ∧
        gatePins t = [false, false, false, false, false, false])

/-- Every step keeps the law of the timed duty list (R76, R78, R80, R81): at most 4 records, in strictly ascending order of
distance, each 1 to 255 epochs ahead of the current epoch, through boundaries and every other change of the epoch number. A
step is a command, or one count on an empty queue (log 1). -/
def Obligations.DutyListLawKept : Prop := ∀ s t : State, dutyListLaw s → step s = .next t → dutyListLaw t

/-- Every step keeps the role law and the record law (R20, R42): the role is REFERENCE exactly when the record's reference ID
is the station's own, and then only in MEMBER or LEAVING; and in those states the record's mask holds the station's own ID,
with its rank and target. The laws of the slots and of own beacons are kept with them; and so, by itself, is the law that a
candidate has an election in progress (R51, R54). A step is a command, or one count on an empty queue (log 1). -/
def Obligations.RoleAndRecordLawsKept : Prop :=
  ∀ s t : State, step s = .next t →
    (roleLaw s → recordLaw s → ownBeaconLaw s → slotLaw s → roleLaw t ∧ recordLaw t ∧ ownBeaconLaw t ∧ slotLaw t) ∧
      (electionLaw s → electionLaw t)

/-- Every step keeps the mail law (R116, R124, R126, R127): at most 4 mails and 4 receipts, and the MAIL slot holds only the
head of the outbound queue. The law that each slot holds a frame of its own kind is kept with it. A step is a command, or one
count on an empty queue (log 1). -/
def Obligations.MailLawKept : Prop :=
  ∀ s t : State, slotLaw s → mailLaw s → step s = .next t → slotLaw t ∧ mailLaw t

/-- Every step keeps the configuration law, the standing-still law and the bounds of the counts (R1, R5, R21, R119, R139);
and but for HARDWARE_RESET and the counts of RESETN low it keeps an accepted configuration record, the own ID, and every posted
event kind that no READ_EVENTS takes (R139, R142, R143). A step is a command, or one count on an empty queue (log 1, log 22). -/
def Obligations.CountsAndEventsKept : Prop :=
  ∀ s t : State, configLaw s → step s = .next t →
    configLaw t ∧ (standingStillLaw s → standingStillLaw t) ∧ (countsLaw s → countsLaw t) ∧
      ((∀ sid fltn, s.pending.head? ≠ some (.hardwareReset sid fltn)) → (s.pending = [] → oneCount s) →
        t.sid = s.sid ∧ (∀ cfg, s.config = some cfg → t.config = some cfg) ∧
          ((∀ payload, s.pending.head? ≠ some (.readEvents payload)) →
            ∀ e, hasEvent s.lp.events e = true → hasEvent t.lp.events e = true))

/-- Slew and dead time (R14, R15, R16, R17, R83, R84). While the output state stays ACTIVE over a command, the offset, the net
step and the output position move only at an output carrier start, which returns the output position to 0 with a net step of
at most SLEW_MAX, and the phase moves only at an epoch boundary. The law of the hold counts is kept, and with it a count has a
hold count of 0 where its request differs from that of the count before, and else one more than that count's at most: over
every step a channel's hold count restarts, goes up by at most one with its request kept, or is the one its count has if
nothing restarts it. So at D counts or more after a change of request a side turns on, and the two sides are never both on. A
step is a command, or one count on an empty queue (log 1); the request and the count before, and a mode that has changed, are
held in the model's own marks (log 3, log 29), and DEAD_TIME_EXPIRY, queued by itself, is a count of its channel (log 2). -/
def Obligations.SlewAndDeadTime : Prop :=
  ∀ s t : State, step s = .next t →
    (∀ c rest cfg, s.pending = c :: rest → s.config = some cfg → outputLaw s → s.pcu.output = .active →
      t.pcu.output = .active →
      ((t.tb.current = s.tb.current ∧ t.tb.netStep = s.tb.netStep ∧ t.tb.outPos = s.tb.outPos) ∨
        (c = .outputCarrierStart ∧ t.tb.outPos = 0 ∧ t.tb.netStep.natAbs ≤ cfg.slewMax)) ∧
      (c = .epochBoundary ∨ (t.tb.carrier = s.tb.carrier ∧ t.tb.position = s.tb.position))) ∧
    ∀ ch,
      (stageLaw (channelOf s.pcu ch) → stageLaw (channelOf t.pcu ch)) ∧
      ((channelOf t.pcu ch).hold = 0 ∨
        ((channelOf t.pcu ch).request = (channelOf s.pcu ch).request ∧
          (channelOf t.pcu ch).hold ≤ (channelOf s.pcu ch).hold + 1) ∨
        ((channelOf t.pcu ch).request = (channelOf s.pcu ch).lastRequest ∧
          (channelOf t.pcu ch).hold = (channelOf s.pcu ch).runHold)) ∧
      (oneCount s → s.config ≠ none →
        (channelOf t.pcu ch).lastRequest = (channelOf s.pcu ch).request ∧
          (channelOf t.pcu ch).runHold ≤ (channelOf s.pcu ch).hold + 1) ∧
      (∀ c rest, s.pending = c :: rest → (∀ sid fltn, c ≠ .hardwareReset sid fltn) → (∀ payload, c ≠ .restart payload) →
        c ≠ .deadTimeExpiry ch →
        (channelOf t.pcu ch).lastRequest = (channelOf s.pcu ch).lastRequest ∧
          (channelOf t.pcu ch).runHold = (channelOf s.pcu ch).runHold ∧
          ((channelOf s.pcu ch).modeChanged = true → (channelOf t.pcu ch).modeChanged = true)) ∧
      ∀ d, ¬(sideOn d (channelOf t.pcu ch) .high = true ∧ sideOn d (channelOf t.pcu ch) .low = true)
end

