-- ==== Sys2Proof/Laws/State.lean ====
section
/-! SUPPORT. One lemma per field per update: what each block's update leaves of State, true by rfl. -/

namespace Sys2Proof.Machine

variable (s : State)


section mapTb
variable (f : TimeBase → TimeBase)

@[simp] theorem mapTb_pending : (mapTb f s).pending = s.pending := rfl
@[simp] theorem mapTb_now : (mapTb f s).now = s.now := rfl
@[simp] theorem mapTb_stimulus : (mapTb f s).stimulus = s.stimulus := rfl
@[simp] theorem mapTb_sid : (mapTb f s).sid = s.sid := rfl
@[simp] theorem mapTb_config : (mapTb f s).config = s.config := rfl
@[simp] theorem mapTb_pins : (mapTb f s).pins = s.pins := rfl
@[simp] theorem mapTb_tb : (mapTb f s).tb = f s.tb := rfl
@[simp] theorem mapTb_mc : (mapTb f s).mc = s.mc := rfl
@[simp] theorem mapTb_pcu : (mapTb f s).pcu = s.pcu := rfl
@[simp] theorem mapTb_tc : (mapTb f s).tc = s.tc := rfl
@[simp] theorem mapTb_lc : (mapTb f s).lc = s.lc := rfl
@[simp] theorem mapTb_mu : (mapTb f s).mu = s.mu := rfl
@[simp] theorem mapTb_lp : (mapTb f s).lp = s.lp := rfl

end mapTb

section mapMc
variable (f : Membership → Membership)

@[simp] theorem mapMc_pending : (mapMc f s).pending = s.pending := rfl
@[simp] theorem mapMc_now : (mapMc f s).now = s.now := rfl
@[simp] theorem mapMc_stimulus : (mapMc f s).stimulus = s.stimulus := rfl
@[simp] theorem mapMc_sid : (mapMc f s).sid = s.sid := rfl
@[simp] theorem mapMc_config : (mapMc f s).config = s.config := rfl
@[simp] theorem mapMc_pins : (mapMc f s).pins = s.pins := rfl
@[simp] theorem mapMc_tb : (mapMc f s).tb = s.tb := rfl
@[simp] theorem mapMc_mc : (mapMc f s).mc = f s.mc := rfl
@[simp] theorem mapMc_pcu : (mapMc f s).pcu = s.pcu := rfl
@[simp] theorem mapMc_tc : (mapMc f s).tc = s.tc := rfl
@[simp] theorem mapMc_lc : (mapMc f s).lc = s.lc := rfl
@[simp] theorem mapMc_mu : (mapMc f s).mu = s.mu := rfl
@[simp] theorem mapMc_lp : (mapMc f s).lp = s.lp := rfl

end mapMc

section mapPcu
variable (f : ChannelUnit → ChannelUnit)

@[simp] theorem mapPcu_pending : (mapPcu f s).pending = s.pending := rfl
@[simp] theorem mapPcu_now : (mapPcu f s).now = s.now := rfl
@[simp] theorem mapPcu_stimulus : (mapPcu f s).stimulus = s.stimulus := rfl
@[simp] theorem mapPcu_sid : (mapPcu f s).sid = s.sid := rfl
@[simp] theorem mapPcu_config : (mapPcu f s).config = s.config := rfl
@[simp] theorem mapPcu_pins : (mapPcu f s).pins = s.pins := rfl
@[simp] theorem mapPcu_tb : (mapPcu f s).tb = s.tb := rfl
@[simp] theorem mapPcu_mc : (mapPcu f s).mc = s.mc := rfl
@[simp] theorem mapPcu_pcu : (mapPcu f s).pcu = f s.pcu := rfl
@[simp] theorem mapPcu_tc : (mapPcu f s).tc = s.tc := rfl
@[simp] theorem mapPcu_lc : (mapPcu f s).lc = s.lc := rfl
@[simp] theorem mapPcu_mu : (mapPcu f s).mu = s.mu := rfl
@[simp] theorem mapPcu_lp : (mapPcu f s).lp = s.lp := rfl

end mapPcu

section mapTc
variable (f : TripController → TripController)

@[simp] theorem mapTc_pending : (mapTc f s).pending = s.pending := rfl
@[simp] theorem mapTc_now : (mapTc f s).now = s.now := rfl
@[simp] theorem mapTc_stimulus : (mapTc f s).stimulus = s.stimulus := rfl
@[simp] theorem mapTc_sid : (mapTc f s).sid = s.sid := rfl
@[simp] theorem mapTc_config : (mapTc f s).config = s.config := rfl
@[simp] theorem mapTc_pins : (mapTc f s).pins = s.pins := rfl
@[simp] theorem mapTc_tb : (mapTc f s).tb = s.tb := rfl
@[simp] theorem mapTc_mc : (mapTc f s).mc = s.mc := rfl
@[simp] theorem mapTc_pcu : (mapTc f s).pcu = s.pcu := rfl
@[simp] theorem mapTc_tc : (mapTc f s).tc = f s.tc := rfl
@[simp] theorem mapTc_lc : (mapTc f s).lc = s.lc := rfl
@[simp] theorem mapTc_mu : (mapTc f s).mu = s.mu := rfl
@[simp] theorem mapTc_lp : (mapTc f s).lp = s.lp := rfl

end mapTc

section mapLc
variable (f : LineController → LineController)

@[simp] theorem mapLc_pending : (mapLc f s).pending = s.pending := rfl
@[simp] theorem mapLc_now : (mapLc f s).now = s.now := rfl
@[simp] theorem mapLc_stimulus : (mapLc f s).stimulus = s.stimulus := rfl
@[simp] theorem mapLc_sid : (mapLc f s).sid = s.sid := rfl
@[simp] theorem mapLc_config : (mapLc f s).config = s.config := rfl
@[simp] theorem mapLc_pins : (mapLc f s).pins = s.pins := rfl
@[simp] theorem mapLc_tb : (mapLc f s).tb = s.tb := rfl
@[simp] theorem mapLc_mc : (mapLc f s).mc = s.mc := rfl
@[simp] theorem mapLc_pcu : (mapLc f s).pcu = s.pcu := rfl
@[simp] theorem mapLc_tc : (mapLc f s).tc = s.tc := rfl
@[simp] theorem mapLc_lc : (mapLc f s).lc = f s.lc := rfl
@[simp] theorem mapLc_mu : (mapLc f s).mu = s.mu := rfl
@[simp] theorem mapLc_lp : (mapLc f s).lp = s.lp := rfl

end mapLc

section mapMu
variable (f : MailUnit → MailUnit)

@[simp] theorem mapMu_pending : (mapMu f s).pending = s.pending := rfl
@[simp] theorem mapMu_now : (mapMu f s).now = s.now := rfl
@[simp] theorem mapMu_stimulus : (mapMu f s).stimulus = s.stimulus := rfl
@[simp] theorem mapMu_sid : (mapMu f s).sid = s.sid := rfl
@[simp] theorem mapMu_config : (mapMu f s).config = s.config := rfl
@[simp] theorem mapMu_pins : (mapMu f s).pins = s.pins := rfl
@[simp] theorem mapMu_tb : (mapMu f s).tb = s.tb := rfl
@[simp] theorem mapMu_mc : (mapMu f s).mc = s.mc := rfl
@[simp] theorem mapMu_pcu : (mapMu f s).pcu = s.pcu := rfl
@[simp] theorem mapMu_tc : (mapMu f s).tc = s.tc := rfl
@[simp] theorem mapMu_lc : (mapMu f s).lc = s.lc := rfl
@[simp] theorem mapMu_mu : (mapMu f s).mu = f s.mu := rfl
@[simp] theorem mapMu_lp : (mapMu f s).lp = s.lp := rfl

end mapMu

section mapLp
variable (f : LocalPort → LocalPort)

@[simp] theorem mapLp_pending : (mapLp f s).pending = s.pending := rfl
@[simp] theorem mapLp_now : (mapLp f s).now = s.now := rfl
@[simp] theorem mapLp_stimulus : (mapLp f s).stimulus = s.stimulus := rfl
@[simp] theorem mapLp_sid : (mapLp f s).sid = s.sid := rfl
@[simp] theorem mapLp_config : (mapLp f s).config = s.config := rfl
@[simp] theorem mapLp_pins : (mapLp f s).pins = s.pins := rfl
@[simp] theorem mapLp_tb : (mapLp f s).tb = s.tb := rfl
@[simp] theorem mapLp_mc : (mapLp f s).mc = s.mc := rfl
@[simp] theorem mapLp_pcu : (mapLp f s).pcu = s.pcu := rfl
@[simp] theorem mapLp_tc : (mapLp f s).tc = s.tc := rfl
@[simp] theorem mapLp_lc : (mapLp f s).lc = s.lc := rfl
@[simp] theorem mapLp_mu : (mapLp f s).mu = s.mu := rfl
@[simp] theorem mapLp_lp : (mapLp f s).lp = f s.lp := rfl

end mapLp

section mapPins
variable (f : InputPins → InputPins)

@[simp] theorem mapPins_pending : (mapPins f s).pending = s.pending := rfl
@[simp] theorem mapPins_now : (mapPins f s).now = s.now := rfl
@[simp] theorem mapPins_stimulus : (mapPins f s).stimulus = s.stimulus := rfl
@[simp] theorem mapPins_sid : (mapPins f s).sid = s.sid := rfl
@[simp] theorem mapPins_config : (mapPins f s).config = s.config := rfl
@[simp] theorem mapPins_pins : (mapPins f s).pins = f s.pins := rfl
@[simp] theorem mapPins_tb : (mapPins f s).tb = s.tb := rfl
@[simp] theorem mapPins_mc : (mapPins f s).mc = s.mc := rfl
@[simp] theorem mapPins_pcu : (mapPins f s).pcu = s.pcu := rfl
@[simp] theorem mapPins_tc : (mapPins f s).tc = s.tc := rfl
@[simp] theorem mapPins_lc : (mapPins f s).lc = s.lc := rfl
@[simp] theorem mapPins_mu : (mapPins f s).mu = s.mu := rfl
@[simp] theorem mapPins_lp : (mapPins f s).lp = s.lp := rfl

end mapPins

end Sys2Proof.Machine
end

