-- ==== Sys2Proof/Laws/FrameTrip.lean ====
section
/-! SUPPORT. Frames of the shared operations: the fields of State that each one leaves alone. -/

namespace Sys2Proof.Machine

/-- What `post` leaves alone. -/
@[simp] theorem post_frame (e : Event) (s : State) :
    (post e s).pending = s.pending ∧ (post e s).now = s.now ∧ (post e s).stimulus = s.stimulus ∧
    (post e s).sid = s.sid ∧ (post e s).config = s.config ∧ (post e s).pins = s.pins ∧ (post e s).tb = s.tb ∧
    (post e s).mc = s.mc ∧ (post e s).pcu = s.pcu ∧ (post e s).tc = s.tc ∧ (post e s).lc = s.lc ∧
    (post e s).mu = s.mu ∧ (post e s).lp.mask = s.lp.mask ∧ (post e s).lp.phase = s.lp.phase ∧
    (post e s).lp.response = s.lp.response := by
  simp [post]

/-- What `postIf` leaves alone. -/
@[simp] theorem postIf_frame (c : Bool) (e : Event) (s : State) :
    (postIf c e s).pending = s.pending ∧ (postIf c e s).now = s.now ∧ (postIf c e s).stimulus = s.stimulus ∧
    (postIf c e s).sid = s.sid ∧ (postIf c e s).config = s.config ∧ (postIf c e s).pins = s.pins ∧
    (postIf c e s).tb = s.tb ∧ (postIf c e s).mc = s.mc ∧ (postIf c e s).pcu = s.pcu ∧ (postIf c e s).tc = s.tc ∧
    (postIf c e s).lc = s.lc ∧ (postIf c e s).mu = s.mu ∧ (postIf c e s).lp.mask = s.lp.mask ∧
    (postIf c e s).lp.phase = s.lp.phase ∧ (postIf c e s).lp.response = s.lp.response := by
  unfold postIf; split <;> simp

/-- What `regate` leaves alone. -/
@[simp] theorem regate_frame (s : State) :
    (regate s).pending = s.pending ∧ (regate s).now = s.now ∧ (regate s).stimulus = s.stimulus ∧
    (regate s).sid = s.sid ∧ (regate s).config = s.config ∧ (regate s).pins = s.pins ∧ (regate s).tb = s.tb ∧
    (regate s).mc = s.mc ∧ (regate s).pcu.run = s.pcu.run ∧ (regate s).pcu.timed = s.pcu.timed ∧
    (regate s).tc = s.tc ∧ (regate s).lc = s.lc ∧ (regate s).mu = s.mu ∧ (regate s).lp = s.lp := by
  simp [regate]

/-- What `fillSlot` leaves alone. -/
@[simp] theorem fillSlot_frame (f : TxFrame) (s : State) :
    (fillSlot f s).pending = s.pending ∧ (fillSlot f s).now = s.now ∧ (fillSlot f s).stimulus = s.stimulus ∧
    (fillSlot f s).sid = s.sid ∧ (fillSlot f s).config = s.config ∧ (fillSlot f s).pins = s.pins ∧
    (fillSlot f s).tb = s.tb ∧ (fillSlot f s).mc = s.mc ∧ (fillSlot f s).pcu = s.pcu ∧ (fillSlot f s).tc = s.tc ∧
    (fillSlot f s).lc.txOn = s.lc.txOn ∧ (fillSlot f s).lc.framer = s.lc.framer ∧ (fillSlot f s).mu = s.mu ∧
    (fillSlot f s).lp = s.lp := by
  unfold fillSlot; simp; split <;> simp

/-- What `emptySlot` leaves alone. -/
@[simp] theorem emptySlot_frame (kind : FrameKind) (s : State) :
    (emptySlot kind s).pending = s.pending ∧ (emptySlot kind s).now = s.now ∧
    (emptySlot kind s).stimulus = s.stimulus ∧ (emptySlot kind s).sid = s.sid ∧ (emptySlot kind s).config = s.config ∧
    (emptySlot kind s).pins = s.pins ∧ (emptySlot kind s).tb = s.tb ∧ (emptySlot kind s).mc = s.mc ∧
    (emptySlot kind s).pcu = s.pcu ∧ (emptySlot kind s).tc = s.tc ∧ (emptySlot kind s).lc.txOn = s.lc.txOn ∧
    (emptySlot kind s).lc.framer = s.lc.framer ∧ (emptySlot kind s).mu = s.mu ∧ (emptySlot kind s).lp = s.lp := by
  simp [emptySlot]

/-- What `emptyAllSlots` leaves alone. -/
@[simp] theorem emptyAllSlots_frame (s : State) :
    (emptyAllSlots s).pending = s.pending ∧ (emptyAllSlots s).now = s.now ∧ (emptyAllSlots s).stimulus = s.stimulus ∧
    (emptyAllSlots s).sid = s.sid ∧ (emptyAllSlots s).config = s.config ∧ (emptyAllSlots s).pins = s.pins ∧
    (emptyAllSlots s).tb = s.tb ∧ (emptyAllSlots s).mc = s.mc ∧ (emptyAllSlots s).pcu = s.pcu ∧
    (emptyAllSlots s).tc = s.tc ∧ (emptyAllSlots s).lc.txOn = s.lc.txOn ∧ (emptyAllSlots s).lc.framer = s.lc.framer ∧
    (emptyAllSlots s).mu = s.mu ∧ (emptyAllSlots s).lp = s.lp := by
  simp [emptyAllSlots]

/-- What `transmitterOff` leaves alone. -/
@[simp] theorem transmitterOff_frame (s : State) :
    (transmitterOff s).pending = s.pending ∧ (transmitterOff s).now = s.now ∧
    (transmitterOff s).stimulus = s.stimulus ∧ (transmitterOff s).sid = s.sid ∧ (transmitterOff s).config = s.config ∧
    (transmitterOff s).pins = s.pins ∧ (transmitterOff s).tb = s.tb ∧ (transmitterOff s).mc = s.mc ∧
    (transmitterOff s).pcu = s.pcu ∧ (transmitterOff s).tc = s.tc ∧ (transmitterOff s).lc.framer = s.lc.framer ∧
    (transmitterOff s).mu = s.mu ∧ (transmitterOff s).lp = s.lp := by
  simp [transmitterOff]

/-- What `toWaitIdle` leaves alone. -/
@[simp] theorem toWaitIdle_frame (s : State) :
    (toWaitIdle s).pending = s.pending ∧ (toWaitIdle s).now = s.now ∧ (toWaitIdle s).stimulus = s.stimulus ∧
    (toWaitIdle s).sid = s.sid ∧ (toWaitIdle s).config = s.config ∧ (toWaitIdle s).pins = s.pins ∧
    (toWaitIdle s).tb = s.tb ∧ (toWaitIdle s).mc = s.mc ∧ (toWaitIdle s).pcu = s.pcu ∧ (toWaitIdle s).tc = s.tc ∧
    (toWaitIdle s).lc.txOn = s.lc.txOn ∧ (toWaitIdle s).mu = s.mu ∧ (toWaitIdle s).lp = s.lp := by
  simp [toWaitIdle]

/-- What `respond` leaves alone. -/
@[simp] theorem respond_frame (status : Status) (payload : List Byte) (s : State) :
    (respond status payload s).pending = s.pending ∧ (respond status payload s).now = s.now ∧
    (respond status payload s).stimulus = s.stimulus ∧ (respond status payload s).sid = s.sid ∧
    (respond status payload s).config = s.config ∧ (respond status payload s).pins = s.pins ∧
    (respond status payload s).tb = s.tb ∧ (respond status payload s).mc = s.mc ∧
    (respond status payload s).pcu = s.pcu ∧ (respond status payload s).tc = s.tc ∧
    (respond status payload s).lc = s.lc ∧ (respond status payload s).mu = s.mu ∧
    (respond status payload s).lp.events = s.lp.events ∧ (respond status payload s).lp.mask = s.lp.mask := by
  simp [respond]

/-- What `answer` leaves alone. -/
@[simp] theorem answer_frame (status : Status) (s : State) :
    (answer status s).pending = s.pending ∧ (answer status s).now = s.now ∧ (answer status s).stimulus = s.stimulus ∧
    (answer status s).sid = s.sid ∧ (answer status s).config = s.config ∧ (answer status s).pins = s.pins ∧
    (answer status s).tb = s.tb ∧ (answer status s).mc = s.mc ∧ (answer status s).pcu = s.pcu ∧
    (answer status s).tc = s.tc ∧ (answer status s).lc = s.lc ∧ (answer status s).mu = s.mu ∧
    (answer status s).lp.events = s.lp.events ∧ (answer status s).lp.mask = s.lp.mask := by
  simp [answer]

/-- What `enterArmed` leaves alone. -/
@[simp] theorem enterArmed_frame (s : State) :
    (enterArmed s).pending = s.pending ∧ (enterArmed s).now = s.now ∧ (enterArmed s).stimulus = s.stimulus ∧
    (enterArmed s).sid = s.sid ∧ (enterArmed s).config = s.config ∧ (enterArmed s).pins = s.pins ∧
    (enterArmed s).tb = s.tb ∧ (enterArmed s).mc = s.mc ∧ (enterArmed s).pcu.run = s.pcu.run ∧
    (enterArmed s).pcu.timed = s.pcu.timed ∧ (enterArmed s).tc.causes = s.tc.causes ∧ (enterArmed s).lc = s.lc ∧
    (enterArmed s).mu = s.mu ∧ (enterArmed s).lp.mask = s.lp.mask ∧ (enterArmed s).lp.phase = s.lp.phase ∧
    (enterArmed s).lp.response = s.lp.response := by
  simp [enterArmed]

/-- What `rearmIfUnlocked` leaves alone. -/
@[simp] theorem rearmIfUnlocked_frame (s : State) :
    (rearmIfUnlocked s).pending = s.pending ∧ (rearmIfUnlocked s).now = s.now ∧
    (rearmIfUnlocked s).stimulus = s.stimulus ∧ (rearmIfUnlocked s).sid = s.sid ∧
    (rearmIfUnlocked s).config = s.config ∧ (rearmIfUnlocked s).pins = s.pins ∧ (rearmIfUnlocked s).tb = s.tb ∧
    (rearmIfUnlocked s).mc = s.mc ∧ (rearmIfUnlocked s).pcu.run = s.pcu.run ∧
    (rearmIfUnlocked s).pcu.timed = s.pcu.timed ∧ (rearmIfUnlocked s).tc.causes = s.tc.causes ∧
    (rearmIfUnlocked s).lc = s.lc ∧ (rearmIfUnlocked s).mu = s.mu ∧ (rearmIfUnlocked s).lp.mask = s.lp.mask ∧
    (rearmIfUnlocked s).lp.phase = s.lp.phase ∧ (rearmIfUnlocked s).lp.response = s.lp.response := by
  unfold rearmIfUnlocked; split <;> simp

/-- What `enterRearm` leaves alone. -/
@[simp] theorem enterRearm_frame (s : State) :
    (enterRearm s).pending = s.pending ∧ (enterRearm s).now = s.now ∧ (enterRearm s).stimulus = s.stimulus ∧
    (enterRearm s).sid = s.sid ∧ (enterRearm s).config = s.config ∧ (enterRearm s).pins = s.pins ∧
    (enterRearm s).tb = s.tb ∧ (enterRearm s).mc = s.mc ∧ (enterRearm s).pcu.run = s.pcu.run ∧
    (enterRearm s).pcu.timed = s.pcu.timed ∧ (enterRearm s).tc.causes = s.tc.causes ∧ (enterRearm s).lc = s.lc ∧
    (enterRearm s).mu = s.mu ∧ (enterRearm s).lp.mask = s.lp.mask ∧ (enterRearm s).lp.phase = s.lp.phase ∧
    (enterRearm s).lp.response = s.lp.response := by
  simp [enterRearm]

/-- What `enterRemote` leaves alone. -/
@[simp] theorem enterRemote_frame (s : State) :
    (enterRemote s).pending = s.pending ∧ (enterRemote s).now = s.now ∧ (enterRemote s).stimulus = s.stimulus ∧
    (enterRemote s).sid = s.sid ∧ (enterRemote s).config = s.config ∧ (enterRemote s).pins = s.pins ∧
    (enterRemote s).tb = s.tb ∧ (enterRemote s).mc = s.mc ∧ (enterRemote s).pcu.run = s.pcu.run ∧
    (enterRemote s).pcu.timed = s.pcu.timed ∧ (enterRemote s).tc.causes = s.tc.causes ∧ (enterRemote s).lc = s.lc ∧
    (enterRemote s).mu = s.mu ∧ (enterRemote s).lp.mask = s.lp.mask ∧ (enterRemote s).lp.phase = s.lp.phase ∧
    (enterRemote s).lp.response = s.lp.response := by
  simp [enterRemote]

/-- What `boundaryTc` leaves alone. -/
@[simp] theorem boundaryTc_frame (s : State) :
    (boundaryTc s).pending = s.pending ∧ (boundaryTc s).now = s.now ∧ (boundaryTc s).stimulus = s.stimulus ∧
    (boundaryTc s).sid = s.sid ∧ (boundaryTc s).config = s.config ∧ (boundaryTc s).pins = s.pins ∧
    (boundaryTc s).tb = s.tb ∧ (boundaryTc s).mc = s.mc ∧ (boundaryTc s).pcu.run = s.pcu.run ∧
    (boundaryTc s).pcu.timed = s.pcu.timed ∧ (boundaryTc s).tc.causes = s.tc.causes ∧ (boundaryTc s).lc = s.lc ∧
    (boundaryTc s).mu = s.mu ∧ (boundaryTc s).lp.mask = s.lp.mask ∧ (boundaryTc s).lp.phase = s.lp.phase ∧
    (boundaryTc s).lp.response = s.lp.response := by
  unfold boundaryTc; split <;> simp

/-- What `fillTrip` leaves alone. -/
@[simp] theorem fillTrip_frame (cause : TripCause) (s : State) :
    (fillTrip cause s).pending = s.pending ∧ (fillTrip cause s).now = s.now ∧
    (fillTrip cause s).stimulus = s.stimulus ∧ (fillTrip cause s).sid = s.sid ∧ (fillTrip cause s).config = s.config ∧
    (fillTrip cause s).pins = s.pins ∧ (fillTrip cause s).tb = s.tb ∧ (fillTrip cause s).mc = s.mc ∧
    (fillTrip cause s).pcu = s.pcu ∧ (fillTrip cause s).tc = s.tc ∧ (fillTrip cause s).lc.txOn = s.lc.txOn ∧
    (fillTrip cause s).lc.framer = s.lc.framer ∧ (fillTrip cause s).mu = s.mu ∧ (fillTrip cause s).lp = s.lp := by
  unfold fillTrip; split <;> simp

/-- What `latchCause` leaves alone. -/
@[simp] theorem latchCause_frame (cause : TripCause) (s : State) :
    (latchCause cause s).pending = s.pending ∧ (latchCause cause s).now = s.now ∧
    (latchCause cause s).stimulus = s.stimulus ∧ (latchCause cause s).sid = s.sid ∧
    (latchCause cause s).config = s.config ∧ (latchCause cause s).pins = s.pins ∧ (latchCause cause s).tb = s.tb ∧
    (latchCause cause s).mc = s.mc ∧ (latchCause cause s).pcu.run = s.pcu.run ∧
    (latchCause cause s).pcu.timed = s.pcu.timed ∧ (latchCause cause s).lc.txOn = s.lc.txOn ∧
    (latchCause cause s).lc.framer = s.lc.framer ∧ (latchCause cause s).mu = s.mu ∧
    (latchCause cause s).lp.mask = s.lp.mask ∧ (latchCause cause s).lp.phase = s.lp.phase ∧
    (latchCause cause s).lp.response = s.lp.response := by
  unfold latchCause; (repeat' split) <;> simp

/-- What `senseTripn` leaves alone. -/
@[simp] theorem senseTripn_frame (s : State) :
    (senseTripn s).pending = s.pending ∧ (senseTripn s).now = s.now ∧ (senseTripn s).stimulus = s.stimulus ∧
    (senseTripn s).sid = s.sid ∧ (senseTripn s).config = s.config ∧ (senseTripn s).pins = s.pins ∧
    (senseTripn s).tb = s.tb ∧ (senseTripn s).mc = s.mc ∧ (senseTripn s).pcu.run = s.pcu.run ∧
    (senseTripn s).pcu.timed = s.pcu.timed ∧ (senseTripn s).tc.causes = s.tc.causes ∧ (senseTripn s).lc = s.lc ∧
    (senseTripn s).mu = s.mu ∧ (senseTripn s).lp.mask = s.lp.mask ∧ (senseTripn s).lp.phase = s.lp.phase ∧
    (senseTripn s).lp.response = s.lp.response := by
  unfold senseTripn; (repeat' split) <;> simp

end Sys2Proof.Machine
end

