-- ==== Sys2Proof/Laws/FrameDuty.lean ====
section
/-! SUPPORT. Frames of the shared operations: the fields of State that each one leaves alone. -/

namespace Sys2Proof.Machine

/-- What `refreshChannels` leaves alone. -/
@[simp] theorem refreshChannels_frame (s : State) :
    (refreshChannels s).pending = s.pending ∧ (refreshChannels s).now = s.now ∧
    (refreshChannels s).stimulus = s.stimulus ∧ (refreshChannels s).sid = s.sid ∧
    (refreshChannels s).config = s.config ∧ (refreshChannels s).pins = s.pins ∧ (refreshChannels s).tb = s.tb ∧
    (refreshChannels s).mc = s.mc ∧ (refreshChannels s).pcu.run = s.pcu.run ∧
    (refreshChannels s).pcu.output = s.pcu.output ∧ (refreshChannels s).pcu.timed = s.pcu.timed ∧
    (refreshChannels s).tc = s.tc ∧ (refreshChannels s).lc = s.lc ∧ (refreshChannels s).mu = s.mu ∧
    (refreshChannels s).lp = s.lp := by
  unfold refreshChannels; split <;> simp

/-- What `applySettings` leaves alone. -/
@[simp] theorem applySettings_frame (d : DutySettings) (s : State) :
    (applySettings d s).pending = s.pending ∧ (applySettings d s).now = s.now ∧
    (applySettings d s).stimulus = s.stimulus ∧ (applySettings d s).sid = s.sid ∧
    (applySettings d s).config = s.config ∧ (applySettings d s).pins = s.pins ∧ (applySettings d s).tb = s.tb ∧
    (applySettings d s).mc = s.mc ∧ (applySettings d s).pcu.run = s.pcu.run ∧
    (applySettings d s).pcu.output = s.pcu.output ∧ (applySettings d s).pcu.timed = s.pcu.timed ∧
    (applySettings d s).tc = s.tc ∧ (applySettings d s).lc = s.lc ∧ (applySettings d s).mu = s.mu ∧
    (applySettings d s).lp = s.lp := by
  unfold applySettings; split <;> simp

/-- What `applyPending` leaves alone. -/
@[simp] theorem applyPending_frame (s : State) :
    (applyPending s).pending = s.pending ∧ (applyPending s).now = s.now ∧ (applyPending s).stimulus = s.stimulus ∧
    (applyPending s).sid = s.sid ∧ (applyPending s).config = s.config ∧ (applyPending s).pins = s.pins ∧
    (applyPending s).tb = s.tb ∧ (applyPending s).mc = s.mc ∧ (applyPending s).pcu.run = s.pcu.run ∧
    (applyPending s).pcu.output = s.pcu.output ∧ (applyPending s).pcu.timed = s.pcu.timed ∧
    (applyPending s).tc = s.tc ∧ (applyPending s).lc = s.lc ∧ (applyPending s).mu = s.mu ∧
    (applyPending s).lp = s.lp := by
  unfold applyPending; split <;> simp

/-- What `applyDue` leaves alone. -/
@[simp] theorem applyDue_frame (s : State) :
    (applyDue s).pending = s.pending ∧ (applyDue s).now = s.now ∧ (applyDue s).stimulus = s.stimulus ∧
    (applyDue s).sid = s.sid ∧ (applyDue s).config = s.config ∧ (applyDue s).pins = s.pins ∧ (applyDue s).tb = s.tb ∧
    (applyDue s).mc = s.mc ∧ (applyDue s).pcu.run = s.pcu.run ∧ (applyDue s).pcu.output = s.pcu.output ∧
    (applyDue s).pcu.timed = s.pcu.timed ∧ (applyDue s).tc = s.tc ∧ (applyDue s).lc = s.lc ∧ (applyDue s).mu = s.mu ∧
    (applyDue s).lp.mask = s.lp.mask ∧ (applyDue s).lp.phase = s.lp.phase ∧
    (applyDue s).lp.response = s.lp.response := by
  unfold applyDue; split <;> simp

/-- What `enterActive` leaves alone. -/
@[simp] theorem enterActive_frame (s : State) :
    (enterActive s).pending = s.pending ∧ (enterActive s).now = s.now ∧ (enterActive s).stimulus = s.stimulus ∧
    (enterActive s).sid = s.sid ∧ (enterActive s).config = s.config ∧ (enterActive s).pins = s.pins ∧
    (enterActive s).tb = s.tb ∧ (enterActive s).mc = s.mc ∧ (enterActive s).pcu.run = s.pcu.run ∧
    (enterActive s).pcu.timed = s.pcu.timed ∧ (enterActive s).tc = s.tc ∧ (enterActive s).lc = s.lc ∧
    (enterActive s).mu = s.mu ∧ (enterActive s).lp = s.lp := by
  unfold enterActive; split <;> simp

/-- What `takeDue` leaves alone. -/
@[simp] theorem takeDue_frame (n : EpochNumber) (s : State) :
    (takeDue n s).pending = s.pending ∧ (takeDue n s).now = s.now ∧ (takeDue n s).stimulus = s.stimulus ∧
    (takeDue n s).sid = s.sid ∧ (takeDue n s).config = s.config ∧ (takeDue n s).pins = s.pins ∧
    (takeDue n s).tb = s.tb ∧ (takeDue n s).mc = s.mc ∧ (takeDue n s).pcu.run = s.pcu.run ∧
    (takeDue n s).pcu.output = s.pcu.output ∧ (takeDue n s).tc = s.tc ∧ (takeDue n s).lc = s.lc ∧
    (takeDue n s).mu = s.mu ∧ (takeDue n s).lp.mask = s.lp.mask ∧ (takeDue n s).lp.phase = s.lp.phase ∧
    (takeDue n s).lp.response = s.lp.response := by
  unfold takeDue; (repeat' split) <;> simp

/-- What `dueAfterStart` leaves alone. -/
@[simp] theorem dueAfterStart_frame (s : State) :
    (dueAfterStart s).pending = s.pending ∧ (dueAfterStart s).now = s.now ∧ (dueAfterStart s).stimulus = s.stimulus ∧
    (dueAfterStart s).sid = s.sid ∧ (dueAfterStart s).config = s.config ∧ (dueAfterStart s).pins = s.pins ∧
    (dueAfterStart s).tb = s.tb ∧ (dueAfterStart s).mc = s.mc ∧ (dueAfterStart s).pcu.run = s.pcu.run ∧
    (dueAfterStart s).pcu.timed = s.pcu.timed ∧ (dueAfterStart s).tc = s.tc ∧ (dueAfterStart s).lc = s.lc ∧
    (dueAfterStart s).mu = s.mu ∧ (dueAfterStart s).lp.mask = s.lp.mask ∧ (dueAfterStart s).lp.phase = s.lp.phase ∧
    (dueAfterStart s).lp.response = s.lp.response := by
  unfold dueAfterStart; (repeat' split) <;> simp

/-- What `boundaryPcu` leaves alone. -/
@[simp] theorem boundaryPcu_frame (s : State) :
    (boundaryPcu s).pending = s.pending ∧ (boundaryPcu s).now = s.now ∧ (boundaryPcu s).stimulus = s.stimulus ∧
    (boundaryPcu s).sid = s.sid ∧ (boundaryPcu s).config = s.config ∧ (boundaryPcu s).pins = s.pins ∧
    (boundaryPcu s).tb = s.tb ∧ (boundaryPcu s).mc = s.mc ∧ (boundaryPcu s).pcu.run = s.pcu.run ∧
    (boundaryPcu s).tc = s.tc ∧ (boundaryPcu s).lc = s.lc ∧ (boundaryPcu s).mu = s.mu ∧
    (boundaryPcu s).lp.mask = s.lp.mask ∧ (boundaryPcu s).lp.phase = s.lp.phase ∧
    (boundaryPcu s).lp.response = s.lp.response := by
  unfold boundaryPcu; (repeat' split) <;> simp

/-- What `epochForward` leaves alone. -/
@[simp] theorem epochForward_frame (old new : EpochNumber) (s : State) :
    (epochForward old new s).pending = s.pending ∧ (epochForward old new s).now = s.now ∧
    (epochForward old new s).stimulus = s.stimulus ∧ (epochForward old new s).sid = s.sid ∧
    (epochForward old new s).config = s.config ∧ (epochForward old new s).pins = s.pins ∧
    (epochForward old new s).tb = s.tb ∧ (epochForward old new s).mc = s.mc ∧
    (epochForward old new s).pcu.run = s.pcu.run ∧ (epochForward old new s).pcu.output = s.pcu.output ∧
    (epochForward old new s).tc = s.tc ∧ (epochForward old new s).lc = s.lc ∧ (epochForward old new s).mu = s.mu ∧
    (epochForward old new s).lp.mask = s.lp.mask ∧ (epochForward old new s).lp.phase = s.lp.phase ∧
    (epochForward old new s).lp.response = s.lp.response := by
  unfold epochForward; simp; split <;> simp

/-- What `epochBackward` leaves alone. -/
@[simp] theorem epochBackward_frame (new : EpochNumber) (s : State) :
    (epochBackward new s).pending = s.pending ∧ (epochBackward new s).now = s.now ∧
    (epochBackward new s).stimulus = s.stimulus ∧ (epochBackward new s).sid = s.sid ∧
    (epochBackward new s).config = s.config ∧ (epochBackward new s).pins = s.pins ∧ (epochBackward new s).tb = s.tb ∧
    (epochBackward new s).mc = s.mc ∧ (epochBackward new s).pcu.run = s.pcu.run ∧
    (epochBackward new s).pcu.output = s.pcu.output ∧ (epochBackward new s).tc = s.tc ∧
    (epochBackward new s).lc = s.lc ∧ (epochBackward new s).mu = s.mu ∧ (epochBackward new s).lp.mask = s.lp.mask ∧
    (epochBackward new s).lp.phase = s.lp.phase ∧ (epochBackward new s).lp.response = s.lp.response := by
  simp [epochBackward]

/-- What `epochChanged` leaves alone. -/
@[simp] theorem epochChanged_frame (old new : EpochNumber) (s : State) :
    (epochChanged old new s).pending = s.pending ∧ (epochChanged old new s).now = s.now ∧
    (epochChanged old new s).stimulus = s.stimulus ∧ (epochChanged old new s).sid = s.sid ∧
    (epochChanged old new s).config = s.config ∧ (epochChanged old new s).pins = s.pins ∧
    (epochChanged old new s).tb = s.tb ∧ (epochChanged old new s).mc = s.mc ∧
    (epochChanged old new s).pcu.run = s.pcu.run ∧ (epochChanged old new s).pcu.output = s.pcu.output ∧
    (epochChanged old new s).tc = s.tc ∧ (epochChanged old new s).lc = s.lc ∧ (epochChanged old new s).mu = s.mu ∧
    (epochChanged old new s).lp.mask = s.lp.mask ∧ (epochChanged old new s).lp.phase = s.lp.phase ∧
    (epochChanged old new s).lp.response = s.lp.response := by
  unfold epochChanged; (repeat' split) <;> simp

/-- What `setEpoch` leaves alone. -/
@[simp] theorem setEpoch_frame (new : EpochNumber) (s : State) :
    (setEpoch new s).pending = s.pending ∧ (setEpoch new s).now = s.now ∧ (setEpoch new s).stimulus = s.stimulus ∧
    (setEpoch new s).sid = s.sid ∧ (setEpoch new s).config = s.config ∧ (setEpoch new s).pins = s.pins ∧
    (setEpoch new s).tb.lock = s.tb.lock ∧ (setEpoch new s).mc = s.mc ∧ (setEpoch new s).pcu.run = s.pcu.run ∧
    (setEpoch new s).pcu.output = s.pcu.output ∧ (setEpoch new s).tc = s.tc ∧ (setEpoch new s).lc = s.lc ∧
    (setEpoch new s).mu = s.mu ∧ (setEpoch new s).lp.mask = s.lp.mask ∧ (setEpoch new s).lp.phase = s.lp.phase ∧
    (setEpoch new s).lp.response = s.lp.response := by
  simp [setEpoch]

/-- What `leavePcu` leaves alone. -/
@[simp] theorem leavePcu_frame (s : State) :
    (leavePcu s).pending = s.pending ∧ (leavePcu s).now = s.now ∧ (leavePcu s).stimulus = s.stimulus ∧
    (leavePcu s).sid = s.sid ∧ (leavePcu s).config = s.config ∧ (leavePcu s).pins = s.pins ∧ (leavePcu s).tb = s.tb ∧
    (leavePcu s).mc = s.mc ∧ (leavePcu s).tc = s.tc ∧ (leavePcu s).lc = s.lc ∧ (leavePcu s).mu = s.mu ∧
    (leavePcu s).lp = s.lp := by
  simp [leavePcu]

end Sys2Proof.Machine
end

