-- ==== Sys2Proof/Laws/FrameTime.lean ====
section
/-! SUPPORT. Frames of the shared operations: the fields of State that each one leaves alone. -/

namespace Sys2Proof.Machine

/-- What `rebase` leaves alone. -/
@[simp] theorem rebase_frame (s : State) :
    (rebase s).pending = s.pending ∧ (rebase s).now = s.now ∧ (rebase s).stimulus = s.stimulus ∧
    (rebase s).sid = s.sid ∧ (rebase s).config = s.config ∧ (rebase s).pins = s.pins ∧
    (rebase s).tb.lock = s.tb.lock ∧ (rebase s).tb.epoch = s.tb.epoch ∧ (rebase s).mc = s.mc ∧
    (rebase s).pcu.run = s.pcu.run ∧ (rebase s).pcu.output = s.pcu.output ∧ (rebase s).pcu.timed = s.pcu.timed ∧
    (rebase s).tc = s.tc ∧ (rebase s).lc = s.lc ∧ (rebase s).mu = s.mu ∧ (rebase s).lp = s.lp := by
  unfold rebase; split <;> simp

/-- What `placeTarget` leaves alone. -/
@[simp] theorem placeTarget_frame (t : Nat) (s : State) :
    (placeTarget t s).pending = s.pending ∧ (placeTarget t s).now = s.now ∧ (placeTarget t s).stimulus = s.stimulus ∧
    (placeTarget t s).sid = s.sid ∧ (placeTarget t s).config = s.config ∧ (placeTarget t s).pins = s.pins ∧
    (placeTarget t s).tb.lock = s.tb.lock ∧ (placeTarget t s).tb.epoch = s.tb.epoch ∧ (placeTarget t s).mc = s.mc ∧
    (placeTarget t s).pcu.run = s.pcu.run ∧ (placeTarget t s).pcu.output = s.pcu.output ∧
    (placeTarget t s).pcu.timed = s.pcu.timed ∧ (placeTarget t s).tc = s.tc ∧ (placeTarget t s).lc = s.lc ∧
    (placeTarget t s).mu = s.mu ∧ (placeTarget t s).lp = s.lp := by
  simp [placeTarget]

/-- What `migrateTarget` leaves alone. -/
@[simp] theorem migrateTarget_frame (t : Nat) (s : State) :
    (migrateTarget t s).pending = s.pending ∧ (migrateTarget t s).now = s.now ∧
    (migrateTarget t s).stimulus = s.stimulus ∧ (migrateTarget t s).sid = s.sid ∧
    (migrateTarget t s).config = s.config ∧ (migrateTarget t s).pins = s.pins ∧
    (migrateTarget t s).tb.lock = s.tb.lock ∧ (migrateTarget t s).tb.epoch = s.tb.epoch ∧
    (migrateTarget t s).mc = s.mc ∧ (migrateTarget t s).pcu = s.pcu ∧ (migrateTarget t s).tc = s.tc ∧
    (migrateTarget t s).lc = s.lc ∧ (migrateTarget t s).mu = s.mu ∧ (migrateTarget t s).lp.mask = s.lp.mask ∧
    (migrateTarget t s).lp.phase = s.lp.phase ∧ (migrateTarget t s).lp.response = s.lp.response := by
  simp [migrateTarget]

/-- What `setLock` leaves alone. -/
@[simp] theorem setLock_frame (lock : LockState) (s : State) :
    (setLock lock s).pending = s.pending ∧ (setLock lock s).now = s.now ∧ (setLock lock s).stimulus = s.stimulus ∧
    (setLock lock s).sid = s.sid ∧ (setLock lock s).config = s.config ∧ (setLock lock s).pins = s.pins ∧
    (setLock lock s).tb.epoch = s.tb.epoch ∧ (setLock lock s).mc = s.mc ∧ (setLock lock s).pcu.run = s.pcu.run ∧
    (setLock lock s).pcu.timed = s.pcu.timed ∧ (setLock lock s).tc.causes = s.tc.causes ∧ (setLock lock s).lc = s.lc ∧
    (setLock lock s).mu = s.mu ∧ (setLock lock s).lp.mask = s.lp.mask ∧ (setLock lock s).lp.phase = s.lp.phase ∧
    (setLock lock s).lp.response = s.lp.response := by
  simp [setLock]

/-- What `lockAsReference` leaves alone. -/
@[simp] theorem lockAsReference_frame (s : State) :
    (lockAsReference s).pending = s.pending ∧ (lockAsReference s).now = s.now ∧
    (lockAsReference s).stimulus = s.stimulus ∧ (lockAsReference s).sid = s.sid ∧
    (lockAsReference s).config = s.config ∧ (lockAsReference s).pins = s.pins ∧
    (lockAsReference s).tb.epoch = s.tb.epoch ∧ (lockAsReference s).mc = s.mc ∧
    (lockAsReference s).pcu.run = s.pcu.run ∧ (lockAsReference s).pcu.timed = s.pcu.timed ∧
    (lockAsReference s).tc.causes = s.tc.causes ∧ (lockAsReference s).lc = s.lc ∧ (lockAsReference s).mu = s.mu ∧
    (lockAsReference s).lp.mask = s.lp.mask ∧ (lockAsReference s).lp.phase = s.lp.phase ∧
    (lockAsReference s).lp.response = s.lp.response := by
  simp [lockAsReference]

/-- What `jump` leaves alone. -/
@[simp] theorem jump_frame (e : Int) (adopted : EpochNumber) (s : State) :
    (jump e adopted s).pending = s.pending ∧ (jump e adopted s).now = s.now ∧
    (jump e adopted s).stimulus = s.stimulus ∧ (jump e adopted s).sid = s.sid ∧ (jump e adopted s).config = s.config ∧
    (jump e adopted s).pins = s.pins ∧ (jump e adopted s).tb.lock = s.tb.lock ∧ (jump e adopted s).mc = s.mc ∧
    (jump e adopted s).pcu.run = s.pcu.run ∧ (jump e adopted s).pcu.output = s.pcu.output ∧
    (jump e adopted s).tc = s.tc ∧ (jump e adopted s).lc = s.lc ∧ (jump e adopted s).mu = s.mu ∧
    (jump e adopted s).lp.mask = s.lp.mask ∧ (jump e adopted s).lp.phase = s.lp.phase ∧
    (jump e adopted s).lp.response = s.lp.response := by
  unfold jump; split <;> simp

/-- What `actOnError` leaves alone. -/
@[simp] theorem actOnError_frame (cfg : ConfigRecord) (e : Int) (adopted : EpochNumber) (s : State) :
    (actOnError cfg e adopted s).pending = s.pending ∧ (actOnError cfg e adopted s).now = s.now ∧
    (actOnError cfg e adopted s).stimulus = s.stimulus ∧ (actOnError cfg e adopted s).sid = s.sid ∧
    (actOnError cfg e adopted s).config = s.config ∧ (actOnError cfg e adopted s).pins = s.pins ∧
    (actOnError cfg e adopted s).mc = s.mc ∧ (actOnError cfg e adopted s).pcu.run = s.pcu.run ∧
    (actOnError cfg e adopted s).tc.causes = s.tc.causes ∧ (actOnError cfg e adopted s).lc = s.lc ∧
    (actOnError cfg e adopted s).mu = s.mu ∧ (actOnError cfg e adopted s).lp.mask = s.lp.mask ∧
    (actOnError cfg e adopted s).lp.phase = s.lp.phase ∧
    (actOnError cfg e adopted s).lp.response = s.lp.response := by
  unfold actOnError; (repeat' split) <;> simp; (repeat' split) <;> simp

/-- What `measureBeacon` leaves alone. -/
@[simp] theorem measureBeacon_frame (b : Beacon) (s : State) :
    (measureBeacon b s).pending = s.pending ∧ (measureBeacon b s).now = s.now ∧ (measureBeacon b s).stimulus = s.stimulus ∧
    (measureBeacon b s).sid = s.sid ∧ (measureBeacon b s).config = s.config ∧ (measureBeacon b s).pins = s.pins ∧
    (measureBeacon b s).mc = s.mc ∧ (measureBeacon b s).pcu.run = s.pcu.run ∧ (measureBeacon b s).tc.causes = s.tc.causes ∧
    (measureBeacon b s).lc = s.lc ∧ (measureBeacon b s).mu = s.mu ∧ (measureBeacon b s).lp.mask = s.lp.mask ∧
    (measureBeacon b s).lp.phase = s.lp.phase ∧ (measureBeacon b s).lp.response = s.lp.response := by
  unfold measureBeacon; (repeat' split) <;> simp [handOver]

/-- What `dropSample` leaves alone. -/
@[simp] theorem dropSample_frame (s : State) :
    (dropSample s).pending = s.pending ∧ (dropSample s).now = s.now ∧ (dropSample s).stimulus = s.stimulus ∧
    (dropSample s).sid = s.sid ∧ (dropSample s).config = s.config ∧ (dropSample s).pins = s.pins ∧
    (dropSample s).tb.lock = s.tb.lock ∧ (dropSample s).tb.epoch = s.tb.epoch ∧ (dropSample s).mc = s.mc ∧
    (dropSample s).pcu = s.pcu ∧ (dropSample s).tc = s.tc ∧ (dropSample s).lc = s.lc ∧ (dropSample s).mu = s.mu ∧
    (dropSample s).lp = s.lp := by
  simp [dropSample]

/-- What `countMiss` leaves alone. -/
@[simp] theorem countMiss_frame (cfg : ConfigRecord) (s : State) :
    (countMiss cfg s).pending = s.pending ∧ (countMiss cfg s).now = s.now ∧ (countMiss cfg s).stimulus = s.stimulus ∧
    (countMiss cfg s).sid = s.sid ∧ (countMiss cfg s).config = s.config ∧ (countMiss cfg s).pins = s.pins ∧
    (countMiss cfg s).tb.epoch = s.tb.epoch ∧ (countMiss cfg s).mc = s.mc ∧ (countMiss cfg s).pcu.run = s.pcu.run ∧
    (countMiss cfg s).pcu.timed = s.pcu.timed ∧ (countMiss cfg s).tc.causes = s.tc.causes ∧
    (countMiss cfg s).lc = s.lc ∧ (countMiss cfg s).mu = s.mu ∧ (countMiss cfg s).lp.mask = s.lp.mask ∧
    (countMiss cfg s).lp.phase = s.lp.phase ∧ (countMiss cfg s).lp.response = s.lp.response := by
  unfold countMiss; simp; (repeat' split) <;> simp

/-- What `startCarrier` leaves alone. -/
@[simp] theorem startCarrier_frame (cfg : ConfigRecord) (s : State) :
    (startCarrier cfg s).pending = s.pending ∧ (startCarrier cfg s).now = s.now ∧
    (startCarrier cfg s).stimulus = s.stimulus ∧ (startCarrier cfg s).sid = s.sid ∧
    (startCarrier cfg s).config = s.config ∧ (startCarrier cfg s).pins = s.pins ∧
    (startCarrier cfg s).tb.lock = s.tb.lock ∧ (startCarrier cfg s).tb.epoch = s.tb.epoch ∧
    (startCarrier cfg s).mc = s.mc ∧ (startCarrier cfg s).pcu = s.pcu ∧ (startCarrier cfg s).tc = s.tc ∧
    (startCarrier cfg s).lc = s.lc ∧ (startCarrier cfg s).mu = s.mu ∧ (startCarrier cfg s).lp.mask = s.lp.mask ∧
    (startCarrier cfg s).lp.phase = s.lp.phase ∧ (startCarrier cfg s).lp.response = s.lp.response := by
  simp [startCarrier]

/-- What `freeTb` leaves alone. -/
@[simp] theorem freeTb_frame (s : State) :
    (freeTb s).pending = s.pending ∧ (freeTb s).now = s.now ∧ (freeTb s).stimulus = s.stimulus ∧
    (freeTb s).sid = s.sid ∧ (freeTb s).config = s.config ∧ (freeTb s).pins = s.pins ∧
    (freeTb s).tb.epoch = s.tb.epoch ∧ (freeTb s).mc = s.mc ∧ (freeTb s).pcu.run = s.pcu.run ∧
    (freeTb s).pcu.timed = s.pcu.timed ∧ (freeTb s).tc.causes = s.tc.causes ∧ (freeTb s).lc = s.lc ∧
    (freeTb s).mu = s.mu ∧ (freeTb s).lp.mask = s.lp.mask ∧ (freeTb s).lp.phase = s.lp.phase ∧
    (freeTb s).lp.response = s.lp.response := by
  simp [freeTb]

end Sys2Proof.Machine
end

