-- ==== Sys2Proof/Laws/FrameMail.lean ====
section
/-! SUPPORT. Frames of the shared operations: the fields of State that each one leaves alone. -/

namespace Sys2Proof.Machine

/-- What `completeHeads` leaves alone. -/
@[simp] theorem completeHeads_frame (fuel : Nat) (s : State) :
    (completeHeads fuel s).pending = s.pending ∧ (completeHeads fuel s).now = s.now ∧
    (completeHeads fuel s).stimulus = s.stimulus ∧ (completeHeads fuel s).sid = s.sid ∧
    (completeHeads fuel s).config = s.config ∧ (completeHeads fuel s).pins = s.pins ∧
    (completeHeads fuel s).tb = s.tb ∧ (completeHeads fuel s).mc = s.mc ∧ (completeHeads fuel s).pcu = s.pcu ∧
    (completeHeads fuel s).tc = s.tc ∧ (completeHeads fuel s).lc.txOn = s.lc.txOn ∧
    (completeHeads fuel s).lc.framer = s.lc.framer ∧ (completeHeads fuel s).lp.mask = s.lp.mask ∧
    (completeHeads fuel s).lp.phase = s.lp.phase ∧ (completeHeads fuel s).lp.response = s.lp.response := by
  induction fuel generalizing s with
  | zero => simp [completeHeads]
  | succ n ih => unfold completeHeads; (repeat' split) <;> simp [ih]

/-- What `settleQueue` leaves alone. -/
@[simp] theorem settleQueue_frame (s : State) :
    (settleQueue s).pending = s.pending ∧ (settleQueue s).now = s.now ∧ (settleQueue s).stimulus = s.stimulus ∧
    (settleQueue s).sid = s.sid ∧ (settleQueue s).config = s.config ∧ (settleQueue s).pins = s.pins ∧
    (settleQueue s).tb = s.tb ∧ (settleQueue s).mc = s.mc ∧ (settleQueue s).pcu = s.pcu ∧ (settleQueue s).tc = s.tc ∧
    (settleQueue s).lc.txOn = s.lc.txOn ∧ (settleQueue s).lc.framer = s.lc.framer ∧
    (settleQueue s).lp.mask = s.lp.mask ∧ (settleQueue s).lp.phase = s.lp.phase ∧
    (settleQueue s).lp.response = s.lp.response := by
  unfold settleQueue; simp

/-- What `finishHead` leaves alone. -/
@[simp] theorem finishHead_frame (outcome : MailOutcome) (s : State) :
    (finishHead outcome s).pending = s.pending ∧ (finishHead outcome s).now = s.now ∧
    (finishHead outcome s).stimulus = s.stimulus ∧ (finishHead outcome s).sid = s.sid ∧
    (finishHead outcome s).config = s.config ∧ (finishHead outcome s).pins = s.pins ∧
    (finishHead outcome s).tb = s.tb ∧ (finishHead outcome s).mc = s.mc ∧ (finishHead outcome s).pcu = s.pcu ∧
    (finishHead outcome s).tc = s.tc ∧ (finishHead outcome s).lc.txOn = s.lc.txOn ∧
    (finishHead outcome s).lc.framer = s.lc.framer ∧ (finishHead outcome s).lp.mask = s.lp.mask ∧
    (finishHead outcome s).lp.phase = s.lp.phase ∧ (finishHead outcome s).lp.response = s.lp.response := by
  simp [finishHead]

/-- What `mailReported` leaves alone. -/
@[simp] theorem mailReported_frame (ack refuse : Bool) (s : State) :
    (mailReported ack refuse s).pending = s.pending ∧ (mailReported ack refuse s).now = s.now ∧
    (mailReported ack refuse s).stimulus = s.stimulus ∧ (mailReported ack refuse s).sid = s.sid ∧
    (mailReported ack refuse s).config = s.config ∧ (mailReported ack refuse s).pins = s.pins ∧
    (mailReported ack refuse s).tb = s.tb ∧ (mailReported ack refuse s).mc = s.mc ∧
    (mailReported ack refuse s).pcu = s.pcu ∧ (mailReported ack refuse s).tc = s.tc ∧
    (mailReported ack refuse s).lc.txOn = s.lc.txOn ∧ (mailReported ack refuse s).lc.framer = s.lc.framer ∧
    (mailReported ack refuse s).lp.mask = s.lp.mask ∧ (mailReported ack refuse s).lp.phase = s.lp.phase ∧
    (mailReported ack refuse s).lp.response = s.lp.response := by
  unfold mailReported; (repeat' split) <;> simp <;> (repeat' split) <;> simp

/-- What `mailFailed` leaves alone. -/
@[simp] theorem mailFailed_frame (s : State) :
    (mailFailed s).pending = s.pending ∧ (mailFailed s).now = s.now ∧ (mailFailed s).stimulus = s.stimulus ∧
    (mailFailed s).sid = s.sid ∧ (mailFailed s).config = s.config ∧ (mailFailed s).pins = s.pins ∧
    (mailFailed s).tb = s.tb ∧ (mailFailed s).mc = s.mc ∧ (mailFailed s).pcu = s.pcu ∧ (mailFailed s).tc = s.tc ∧
    (mailFailed s).lc.txOn = s.lc.txOn ∧ (mailFailed s).lc.framer = s.lc.framer ∧ (mailFailed s).lp.mask = s.lp.mask ∧
    (mailFailed s).lp.phase = s.lp.phase ∧ (mailFailed s).lp.response = s.lp.response := by
  unfold mailFailed; (repeat' split) <;> simp; (repeat' split) <;> simp

/-- What `retryHead` leaves alone. -/
@[simp] theorem retryHead_frame (s : State) :
    (retryHead s).pending = s.pending ∧ (retryHead s).now = s.now ∧ (retryHead s).stimulus = s.stimulus ∧
    (retryHead s).sid = s.sid ∧ (retryHead s).config = s.config ∧ (retryHead s).pins = s.pins ∧
    (retryHead s).tb = s.tb ∧ (retryHead s).mc = s.mc ∧ (retryHead s).pcu = s.pcu ∧ (retryHead s).tc = s.tc ∧
    (retryHead s).lc.txOn = s.lc.txOn ∧ (retryHead s).lc.framer = s.lc.framer ∧ (retryHead s).mu.queue = s.mu.queue ∧
    (retryHead s).mu.receipts = s.mu.receipts ∧ (retryHead s).lp = s.lp := by
  unfold retryHead; (repeat' split) <;> simp

/-- What `destinationGone` leaves alone. -/
@[simp] theorem destinationGone_frame (id : StationId) (s : State) :
    (destinationGone id s).pending = s.pending ∧ (destinationGone id s).now = s.now ∧
    (destinationGone id s).stimulus = s.stimulus ∧ (destinationGone id s).sid = s.sid ∧
    (destinationGone id s).config = s.config ∧ (destinationGone id s).pins = s.pins ∧
    (destinationGone id s).tb = s.tb ∧ (destinationGone id s).mc = s.mc ∧ (destinationGone id s).pcu = s.pcu ∧
    (destinationGone id s).tc = s.tc ∧ (destinationGone id s).lc.txOn = s.lc.txOn ∧
    (destinationGone id s).lc.framer = s.lc.framer ∧ (destinationGone id s).lp.mask = s.lp.mask ∧
    (destinationGone id s).lp.phase = s.lp.phase ∧ (destinationGone id s).lp.response = s.lp.response := by
  unfold destinationGone; dsimp only; (repeat' split) <;> simp

/-- What `leaveMu` leaves alone. -/
@[simp] theorem leaveMu_frame (s : State) :
    (leaveMu s).pending = s.pending ∧ (leaveMu s).now = s.now ∧ (leaveMu s).stimulus = s.stimulus ∧
    (leaveMu s).sid = s.sid ∧ (leaveMu s).config = s.config ∧ (leaveMu s).pins = s.pins ∧ (leaveMu s).tb = s.tb ∧
    (leaveMu s).mc = s.mc ∧ (leaveMu s).pcu = s.pcu ∧ (leaveMu s).tc = s.tc ∧ (leaveMu s).lc.txOn = s.lc.txOn ∧
    (leaveMu s).lc.framer = s.lc.framer ∧ (leaveMu s).lp = s.lp := by
  simp [leaveMu]

/-- What `mapEntry` leaves alone. -/
@[simp] theorem mapEntry_frame (id : StationId) (f : RosterEntry → RosterEntry) (s : State) :
    (mapEntry id f s).pending = s.pending ∧ (mapEntry id f s).now = s.now ∧ (mapEntry id f s).stimulus = s.stimulus ∧
    (mapEntry id f s).sid = s.sid ∧ (mapEntry id f s).config = s.config ∧ (mapEntry id f s).pins = s.pins ∧
    (mapEntry id f s).tb = s.tb ∧ (mapEntry id f s).mc.station = s.mc.station ∧
    (mapEntry id f s).mc.role = s.mc.role ∧ (mapEntry id f s).mc.record = s.mc.record ∧
    (mapEntry id f s).pcu = s.pcu ∧ (mapEntry id f s).tc = s.tc ∧ (mapEntry id f s).lc = s.lc ∧
    (mapEntry id f s).mu = s.mu ∧ (mapEntry id f s).lp = s.lp := by
  unfold mapEntry; split <;> simp

/-- What `setEntryState` leaves alone. -/
@[simp] theorem setEntryState_frame (id : StationId) (state : EntryState) (fresh : Bool) (s : State) :
    (setEntryState id state fresh s).pending = s.pending ∧ (setEntryState id state fresh s).now = s.now ∧
    (setEntryState id state fresh s).stimulus = s.stimulus ∧ (setEntryState id state fresh s).sid = s.sid ∧
    (setEntryState id state fresh s).config = s.config ∧ (setEntryState id state fresh s).pins = s.pins ∧
    (setEntryState id state fresh s).tb = s.tb ∧ (setEntryState id state fresh s).mc.station = s.mc.station ∧
    (setEntryState id state fresh s).mc.role = s.mc.role ∧ (setEntryState id state fresh s).mc.record = s.mc.record ∧
    (setEntryState id state fresh s).pcu = s.pcu ∧ (setEntryState id state fresh s).tc = s.tc ∧
    (setEntryState id state fresh s).lc.txOn = s.lc.txOn ∧ (setEntryState id state fresh s).lc.framer = s.lc.framer ∧
    (setEntryState id state fresh s).lp.mask = s.lp.mask ∧ (setEntryState id state fresh s).lp.phase = s.lp.phase ∧
    (setEntryState id state fresh s).lp.response = s.lp.response := by
  unfold setEntryState; (repeat' split) <;> simp <;> (repeat' split) <;> simp

/-- A projection that each step of a walk over the IDs keeps is kept by the walk. -/
theorem forEachId_keeps {α : Type} (proj : State → α) {f : StationId → State → State}
    (h : ∀ id s, proj (f id s) = proj s) (s : State) : proj (forEachId f s) = proj s := by
  unfold forEachId
  generalize List.finRange 32 = ids
  induction ids generalizing s with
  | nil => rfl
  | cons a t ih => simp [ih, h]

/-- What `sourceReport` leaves alone. -/
@[simp] theorem sourceReport_frame (src : StationId) (s : State) :
    (sourceReport src s).pending = s.pending ∧ (sourceReport src s).now = s.now ∧
    (sourceReport src s).stimulus = s.stimulus ∧ (sourceReport src s).sid = s.sid ∧
    (sourceReport src s).config = s.config ∧ (sourceReport src s).pins = s.pins ∧ (sourceReport src s).tb = s.tb ∧
    (sourceReport src s).mc.station = s.mc.station ∧ (sourceReport src s).mc.role = s.mc.role ∧
    (sourceReport src s).mc.record = s.mc.record ∧ (sourceReport src s).pcu = s.pcu ∧ (sourceReport src s).tc = s.tc ∧
    (sourceReport src s).lc = s.lc ∧ (sourceReport src s).mu = s.mu ∧ (sourceReport src s).lp = s.lp := by
  unfold sourceReport; split <;> simp

/-- What `countSilenceOf` leaves alone. -/
@[simp] theorem countSilenceOf_frame (lossEpochs : Nat) (id : StationId) (s : State) :
    (countSilenceOf lossEpochs id s).pending = s.pending ∧ (countSilenceOf lossEpochs id s).now = s.now ∧
    (countSilenceOf lossEpochs id s).stimulus = s.stimulus ∧ (countSilenceOf lossEpochs id s).sid = s.sid ∧
    (countSilenceOf lossEpochs id s).config = s.config ∧ (countSilenceOf lossEpochs id s).pins = s.pins ∧
    (countSilenceOf lossEpochs id s).tb = s.tb ∧ (countSilenceOf lossEpochs id s).mc.station = s.mc.station ∧
    (countSilenceOf lossEpochs id s).mc.role = s.mc.role ∧ (countSilenceOf lossEpochs id s).mc.record = s.mc.record ∧
    (countSilenceOf lossEpochs id s).pcu = s.pcu ∧ (countSilenceOf lossEpochs id s).tc = s.tc ∧
    (countSilenceOf lossEpochs id s).lc.txOn = s.lc.txOn ∧ (countSilenceOf lossEpochs id s).lc.framer = s.lc.framer ∧
    (countSilenceOf lossEpochs id s).lp.mask = s.lp.mask ∧ (countSilenceOf lossEpochs id s).lp.phase = s.lp.phase ∧
    (countSilenceOf lossEpochs id s).lp.response = s.lp.response := by
  unfold countSilenceOf; (repeat' split) <;> simp; (repeat' split) <;> simp

/-- What `countSilence` leaves alone. -/
@[simp] theorem countSilence_frame (lossEpochs : Nat) (s : State) :
    (countSilence lossEpochs s).pending = s.pending ∧ (countSilence lossEpochs s).now = s.now ∧
    (countSilence lossEpochs s).stimulus = s.stimulus ∧ (countSilence lossEpochs s).sid = s.sid ∧
    (countSilence lossEpochs s).config = s.config ∧ (countSilence lossEpochs s).pins = s.pins ∧
    (countSilence lossEpochs s).tb = s.tb ∧ (countSilence lossEpochs s).mc.station = s.mc.station ∧
    (countSilence lossEpochs s).mc.role = s.mc.role ∧ (countSilence lossEpochs s).mc.record = s.mc.record ∧
    (countSilence lossEpochs s).pcu = s.pcu ∧ (countSilence lossEpochs s).tc = s.tc ∧
    (countSilence lossEpochs s).lc.txOn = s.lc.txOn ∧ (countSilence lossEpochs s).lc.framer = s.lc.framer ∧
    (countSilence lossEpochs s).lp.mask = s.lp.mask ∧ (countSilence lossEpochs s).lp.phase = s.lp.phase ∧
    (countSilence lossEpochs s).lp.response = s.lp.response := by
  unfold countSilence; split
  · exact ⟨forEachId_keeps (·.pending) (by intros; simp) s,
      forEachId_keeps (·.now) (by intros; simp) s,
      forEachId_keeps (·.stimulus) (by intros; simp) s,
      forEachId_keeps (·.sid) (by intros; simp) s,
      forEachId_keeps (·.config) (by intros; simp) s,
      forEachId_keeps (·.pins) (by intros; simp) s,
      forEachId_keeps (·.tb) (by intros; simp) s,
      forEachId_keeps (·.mc.station) (by intros; simp) s,
      forEachId_keeps (·.mc.role) (by intros; simp) s,
      forEachId_keeps (·.mc.record) (by intros; simp) s,
      forEachId_keeps (·.pcu) (by intros; simp) s,
      forEachId_keeps (·.tc) (by intros; simp) s,
      forEachId_keeps (·.lc.txOn) (by intros; simp) s,
      forEachId_keeps (·.lc.framer) (by intros; simp) s,
      forEachId_keeps (·.lp.mask) (by intros; simp) s,
      forEachId_keeps (·.lp.phase) (by intros; simp) s,
      forEachId_keeps (·.lp.response) (by intros; simp) s⟩
  · simp

/-- What `adoptMask` leaves alone. -/
@[simp] theorem adoptMask_frame (mask : MemberMask) (handoverFrom : Option StationId) (s : State) :
    (adoptMask mask handoverFrom s).pending = s.pending ∧ (adoptMask mask handoverFrom s).now = s.now ∧
    (adoptMask mask handoverFrom s).stimulus = s.stimulus ∧ (adoptMask mask handoverFrom s).sid = s.sid ∧
    (adoptMask mask handoverFrom s).config = s.config ∧ (adoptMask mask handoverFrom s).pins = s.pins ∧
    (adoptMask mask handoverFrom s).tb = s.tb ∧ (adoptMask mask handoverFrom s).mc.station = s.mc.station ∧
    (adoptMask mask handoverFrom s).mc.role = s.mc.role ∧ (adoptMask mask handoverFrom s).mc.record = s.mc.record ∧
    (adoptMask mask handoverFrom s).pcu = s.pcu ∧ (adoptMask mask handoverFrom s).tc = s.tc ∧
    (adoptMask mask handoverFrom s).lc.txOn = s.lc.txOn ∧ (adoptMask mask handoverFrom s).lc.framer = s.lc.framer ∧
    (adoptMask mask handoverFrom s).lp.mask = s.lp.mask ∧ (adoptMask mask handoverFrom s).lp.phase = s.lp.phase ∧
    (adoptMask mask handoverFrom s).lp.response = s.lp.response := by
  unfold adoptMask
  exact ⟨forEachId_keeps (·.pending) (by intros; simp) s,
    forEachId_keeps (·.now) (by intros; simp) s,
    forEachId_keeps (·.stimulus) (by intros; simp) s,
    forEachId_keeps (·.sid) (by intros; simp) s,
    forEachId_keeps (·.config) (by intros; simp) s,
    forEachId_keeps (·.pins) (by intros; simp) s,
    forEachId_keeps (·.tb) (by intros; simp) s,
    forEachId_keeps (·.mc.station) (by intros; simp) s,
    forEachId_keeps (·.mc.role) (by intros; simp) s,
    forEachId_keeps (·.mc.record) (by intros; simp) s,
    forEachId_keeps (·.pcu) (by intros; simp) s,
    forEachId_keeps (·.tc) (by intros; simp) s,
    forEachId_keeps (·.lc.txOn) (by intros; simp) s,
    forEachId_keeps (·.lc.framer) (by intros; simp) s,
    forEachId_keeps (·.lp.mask) (by intros; simp) s,
    forEachId_keeps (·.lp.phase) (by intros; simp) s,
    forEachId_keeps (·.lp.response) (by intros; simp) s⟩

/-- What `fillBeacon` leaves alone. -/
@[simp] theorem fillBeacon_frame (cfg : ConfigRecord) (mask : MemberMask) (handover : Bool) (s : State) :
    (fillBeacon cfg mask handover s).pending = s.pending ∧ (fillBeacon cfg mask handover s).now = s.now ∧
    (fillBeacon cfg mask handover s).stimulus = s.stimulus ∧ (fillBeacon cfg mask handover s).sid = s.sid ∧
    (fillBeacon cfg mask handover s).config = s.config ∧ (fillBeacon cfg mask handover s).pins = s.pins ∧
    (fillBeacon cfg mask handover s).tb = s.tb ∧ (fillBeacon cfg mask handover s).mc.station = s.mc.station ∧
    (fillBeacon cfg mask handover s).mc.role = s.mc.role ∧ (fillBeacon cfg mask handover s).mc.record = s.mc.record ∧
    (fillBeacon cfg mask handover s).mc.roster = s.mc.roster ∧ (fillBeacon cfg mask handover s).pcu = s.pcu ∧
    (fillBeacon cfg mask handover s).tc = s.tc ∧ (fillBeacon cfg mask handover s).lc.txOn = s.lc.txOn ∧
    (fillBeacon cfg mask handover s).lc.framer = s.lc.framer ∧ (fillBeacon cfg mask handover s).mu = s.mu ∧
    (fillBeacon cfg mask handover s).lp = s.lp := by
  simp [fillBeacon]

/-- What `removeBeacon` leaves alone. -/
@[simp] theorem removeBeacon_frame (s : State) :
    (removeBeacon s).pending = s.pending ∧ (removeBeacon s).now = s.now ∧ (removeBeacon s).stimulus = s.stimulus ∧
    (removeBeacon s).sid = s.sid ∧ (removeBeacon s).config = s.config ∧ (removeBeacon s).pins = s.pins ∧
    (removeBeacon s).tb = s.tb ∧ (removeBeacon s).mc.station = s.mc.station ∧ (removeBeacon s).mc.role = s.mc.role ∧
    (removeBeacon s).mc.record = s.mc.record ∧ (removeBeacon s).mc.roster = s.mc.roster ∧
    (removeBeacon s).pcu = s.pcu ∧ (removeBeacon s).tc = s.tc ∧ (removeBeacon s).lc.txOn = s.lc.txOn ∧
    (removeBeacon s).lc.framer = s.lc.framer ∧ (removeBeacon s).mu = s.mu ∧ (removeBeacon s).lp = s.lp := by
  simp [removeBeacon]

/-- What `fillJoin` leaves alone. -/
@[simp] theorem fillJoin_frame (s : State) :
    (fillJoin s).pending = s.pending ∧ (fillJoin s).now = s.now ∧ (fillJoin s).stimulus = s.stimulus ∧
    (fillJoin s).sid = s.sid ∧ (fillJoin s).config = s.config ∧ (fillJoin s).pins = s.pins ∧ (fillJoin s).tb = s.tb ∧
    (fillJoin s).mc.station = s.mc.station ∧ (fillJoin s).mc.role = s.mc.role ∧ (fillJoin s).mc.record = s.mc.record ∧
    (fillJoin s).mc.roster = s.mc.roster ∧ (fillJoin s).pcu = s.pcu ∧ (fillJoin s).tc = s.tc ∧
    (fillJoin s).lc.txOn = s.lc.txOn ∧ (fillJoin s).lc.framer = s.lc.framer ∧ (fillJoin s).mu = s.mu ∧
    (fillJoin s).lp = s.lp := by
  unfold fillJoin; split <;> simp

/-- What `fillLeave` leaves alone. -/
@[simp] theorem fillLeave_frame (s : State) :
    (fillLeave s).pending = s.pending ∧ (fillLeave s).now = s.now ∧ (fillLeave s).stimulus = s.stimulus ∧
    (fillLeave s).sid = s.sid ∧ (fillLeave s).config = s.config ∧ (fillLeave s).pins = s.pins ∧
    (fillLeave s).tb = s.tb ∧ (fillLeave s).mc = s.mc ∧ (fillLeave s).pcu = s.pcu ∧ (fillLeave s).tc = s.tc ∧
    (fillLeave s).lc.txOn = s.lc.txOn ∧ (fillLeave s).lc.framer = s.lc.framer ∧ (fillLeave s).mu = s.mu ∧
    (fillLeave s).lp = s.lp := by
  simp [fillLeave]

/-- What `fillStatus` leaves alone. -/
@[simp] theorem fillStatus_frame (carrier : Nat) (s : State) :
    (fillStatus carrier s).pending = s.pending ∧ (fillStatus carrier s).now = s.now ∧
    (fillStatus carrier s).stimulus = s.stimulus ∧ (fillStatus carrier s).sid = s.sid ∧
    (fillStatus carrier s).config = s.config ∧ (fillStatus carrier s).pins = s.pins ∧
    (fillStatus carrier s).tb = s.tb ∧ (fillStatus carrier s).mc.station = s.mc.station ∧
    (fillStatus carrier s).mc.role = s.mc.role ∧ (fillStatus carrier s).mc.record = s.mc.record ∧
    (fillStatus carrier s).mc.roster = s.mc.roster ∧ (fillStatus carrier s).pcu = s.pcu ∧
    (fillStatus carrier s).tc = s.tc ∧ (fillStatus carrier s).lc.txOn = s.lc.txOn ∧
    (fillStatus carrier s).lc.framer = s.lc.framer ∧ (fillStatus carrier s).mu = s.mu ∧
    (fillStatus carrier s).lp = s.lp := by
  unfold fillStatus; (repeat' split) <;> simp

/-- What `setRecord` leaves alone. -/
@[simp] theorem setRecord_frame (record : Option EpochRecord) (s : State) :
    (setRecord record s).pending = s.pending ∧ (setRecord record s).now = s.now ∧
    (setRecord record s).stimulus = s.stimulus ∧ (setRecord record s).sid = s.sid ∧
    (setRecord record s).config = s.config ∧ (setRecord record s).pins = s.pins ∧ (setRecord record s).tb = s.tb ∧
    (setRecord record s).mc.station = s.mc.station ∧ (setRecord record s).mc.role = s.mc.role ∧
    (setRecord record s).mc.roster = s.mc.roster ∧ (setRecord record s).pcu = s.pcu ∧ (setRecord record s).tc = s.tc ∧
    (setRecord record s).lc = s.lc ∧ (setRecord record s).mu = s.mu ∧ (setRecord record s).lp = s.lp := by
  simp [setRecord]

/-- What `giveTarget` leaves alone. -/
@[simp] theorem giveTarget_frame (place : Bool) (s : State) :
    (giveTarget place s).pending = s.pending ∧ (giveTarget place s).now = s.now ∧
    (giveTarget place s).stimulus = s.stimulus ∧ (giveTarget place s).sid = s.sid ∧
    (giveTarget place s).config = s.config ∧ (giveTarget place s).pins = s.pins ∧
    (giveTarget place s).tb.lock = s.tb.lock ∧ (giveTarget place s).tb.epoch = s.tb.epoch ∧
    (giveTarget place s).mc = s.mc ∧ (giveTarget place s).pcu.run = s.pcu.run ∧
    (giveTarget place s).pcu.output = s.pcu.output ∧ (giveTarget place s).pcu.timed = s.pcu.timed ∧
    (giveTarget place s).tc = s.tc ∧ (giveTarget place s).lc = s.lc ∧ (giveTarget place s).mu = s.mu ∧
    (giveTarget place s).lp.mask = s.lp.mask ∧ (giveTarget place s).lp.phase = s.lp.phase ∧
    (giveTarget place s).lp.response = s.lp.response := by
  unfold giveTarget; (repeat' split) <;> simp

end Sys2Proof.Machine
end

