-- ==== Sys2Proof/Laws/FrameMember.lean ====
section
/-! SUPPORT. Frames of the shared operations: the fields of State that each one leaves alone. -/

namespace Sys2Proof.Machine

/-- What `setStation` leaves alone. -/
@[simp] theorem setStation_frame (station : StationState) (s : State) :
    (setStation station s).pending = s.pending ∧ (setStation station s).now = s.now ∧
    (setStation station s).stimulus = s.stimulus ∧ (setStation station s).sid = s.sid ∧
    (setStation station s).config = s.config ∧ (setStation station s).pins = s.pins ∧
    (setStation station s).tb = s.tb ∧ (setStation station s).mc.role = s.mc.role ∧
    (setStation station s).mc.record = s.mc.record ∧ (setStation station s).mc.roster = s.mc.roster ∧
    (setStation station s).pcu.run = s.pcu.run ∧ (setStation station s).pcu.timed = s.pcu.timed ∧
    (setStation station s).tc = s.tc ∧ (setStation station s).lc = s.lc ∧ (setStation station s).mu = s.mu ∧
    (setStation station s).lp = s.lp := by
  simp [setStation]

/-- What `setRole` leaves alone. -/
@[simp] theorem setRole_frame (role : Role) (s : State) :
    (setRole role s).pending = s.pending ∧ (setRole role s).now = s.now ∧ (setRole role s).stimulus = s.stimulus ∧
    (setRole role s).sid = s.sid ∧ (setRole role s).config = s.config ∧ (setRole role s).pins = s.pins ∧
    (setRole role s).tb = s.tb ∧ (setRole role s).mc.station = s.mc.station ∧
    (setRole role s).mc.record = s.mc.record ∧ (setRole role s).mc.roster = s.mc.roster ∧
    (setRole role s).pcu = s.pcu ∧ (setRole role s).tc = s.tc ∧ (setRole role s).lc = s.lc ∧
    (setRole role s).mu = s.mu ∧ (setRole role s).lp = s.lp := by
  simp [setRole]

/-- What `emptyMcSlots` leaves alone. -/
@[simp] theorem emptyMcSlots_frame (keepLeave : Bool) (s : State) :
    (emptyMcSlots keepLeave s).pending = s.pending ∧ (emptyMcSlots keepLeave s).now = s.now ∧
    (emptyMcSlots keepLeave s).stimulus = s.stimulus ∧ (emptyMcSlots keepLeave s).sid = s.sid ∧
    (emptyMcSlots keepLeave s).config = s.config ∧ (emptyMcSlots keepLeave s).pins = s.pins ∧
    (emptyMcSlots keepLeave s).tb = s.tb ∧ (emptyMcSlots keepLeave s).mc.station = s.mc.station ∧
    (emptyMcSlots keepLeave s).mc.role = s.mc.role ∧ (emptyMcSlots keepLeave s).mc.record = s.mc.record ∧
    (emptyMcSlots keepLeave s).mc.roster = s.mc.roster ∧ (emptyMcSlots keepLeave s).pcu = s.pcu ∧
    (emptyMcSlots keepLeave s).tc = s.tc ∧ (emptyMcSlots keepLeave s).lc.txOn = s.lc.txOn ∧
    (emptyMcSlots keepLeave s).lc.framer = s.lc.framer ∧ (emptyMcSlots keepLeave s).mu = s.mu ∧
    (emptyMcSlots keepLeave s).lp = s.lp := by
  unfold emptyMcSlots; split <;> simp

/-- What `leaveLine` leaves alone. -/
@[simp] theorem leaveLine_frame (keepLeave : Bool) (to_ : StationState) (s : State) :
    (leaveLine keepLeave to_ s).pending = s.pending ∧ (leaveLine keepLeave to_ s).now = s.now ∧
    (leaveLine keepLeave to_ s).stimulus = s.stimulus ∧ (leaveLine keepLeave to_ s).sid = s.sid ∧
    (leaveLine keepLeave to_ s).config = s.config ∧ (leaveLine keepLeave to_ s).pins = s.pins ∧
    (leaveLine keepLeave to_ s).tb.epoch = s.tb.epoch ∧ (leaveLine keepLeave to_ s).tc.causes = s.tc.causes ∧
    (leaveLine keepLeave to_ s).lc.txOn = s.lc.txOn ∧ (leaveLine keepLeave to_ s).lc.framer = s.lc.framer ∧
    (leaveLine keepLeave to_ s).lp.mask = s.lp.mask ∧ (leaveLine keepLeave to_ s).lp.phase = s.lp.phase ∧
    (leaveLine keepLeave to_ s).lp.response = s.lp.response := by
  simp [leaveLine]

/-- What `startListening` leaves alone. -/
@[simp] theorem startListening_frame (s : State) :
    (startListening s).pending = s.pending ∧ (startListening s).now = s.now ∧
    (startListening s).stimulus = s.stimulus ∧ (startListening s).sid = s.sid ∧ (startListening s).config = s.config ∧
    (startListening s).pins = s.pins ∧ (startListening s).tb = s.tb ∧ (startListening s).mc.role = s.mc.role ∧
    (startListening s).mc.record = s.mc.record ∧ (startListening s).mc.roster = s.mc.roster ∧
    (startListening s).pcu.run = s.pcu.run ∧ (startListening s).pcu.timed = s.pcu.timed ∧
    (startListening s).tc = s.tc ∧ (startListening s).lc.txOn = s.lc.txOn ∧
    (startListening s).lc.framer = s.lc.framer ∧ (startListening s).mu = s.mu ∧ (startListening s).lp = s.lp := by
  simp [startListening]

/-- What `joinFails` leaves alone. -/
@[simp] theorem joinFails_frame (s : State) :
    (joinFails s).pending = s.pending ∧ (joinFails s).now = s.now ∧ (joinFails s).stimulus = s.stimulus ∧
    (joinFails s).sid = s.sid ∧ (joinFails s).config = s.config ∧ (joinFails s).pins = s.pins ∧
    (joinFails s).tb.epoch = s.tb.epoch ∧ (joinFails s).tc.causes = s.tc.causes ∧ (joinFails s).lc.txOn = s.lc.txOn ∧
    (joinFails s).lc.framer = s.lc.framer ∧ (joinFails s).lp.mask = s.lp.mask ∧ (joinFails s).lp.phase = s.lp.phase ∧
    (joinFails s).lp.response = s.lp.response := by
  simp [joinFails]

/-- What `leaveDone` leaves alone. -/
@[simp] theorem leaveDone_frame (s : State) :
    (leaveDone s).pending = s.pending ∧ (leaveDone s).now = s.now ∧ (leaveDone s).stimulus = s.stimulus ∧
    (leaveDone s).sid = s.sid ∧ (leaveDone s).config = s.config ∧ (leaveDone s).pins = s.pins ∧
    (leaveDone s).tb.epoch = s.tb.epoch ∧ (leaveDone s).tc.causes = s.tc.causes ∧ (leaveDone s).lc.txOn = s.lc.txOn ∧
    (leaveDone s).lc.framer = s.lc.framer ∧ (leaveDone s).lp.mask = s.lp.mask ∧ (leaveDone s).lp.phase = s.lp.phase ∧
    (leaveDone s).lp.response = s.lp.response := by
  simp [leaveDone]

/-- What `enterMismatch` leaves alone. -/
@[simp] theorem enterMismatch_frame (s : State) :
    (enterMismatch s).pending = s.pending ∧ (enterMismatch s).now = s.now ∧ (enterMismatch s).stimulus = s.stimulus ∧
    (enterMismatch s).sid = s.sid ∧ (enterMismatch s).config = s.config ∧ (enterMismatch s).pins = s.pins ∧
    (enterMismatch s).tb.epoch = s.tb.epoch ∧ (enterMismatch s).tc.causes = s.tc.causes ∧
    (enterMismatch s).lc.framer = s.lc.framer ∧ (enterMismatch s).lp.mask = s.lp.mask ∧
    (enterMismatch s).lp.phase = s.lp.phase ∧ (enterMismatch s).lp.response = s.lp.response := by
  simp [enterMismatch]

/-- What `isolate` leaves alone. -/
@[simp] theorem isolate_frame (s : State) :
    (isolate s).pending = s.pending ∧ (isolate s).now = s.now ∧ (isolate s).stimulus = s.stimulus ∧
    (isolate s).sid = s.sid ∧ (isolate s).config = s.config ∧ (isolate s).pins = s.pins ∧
    (isolate s).tb.epoch = s.tb.epoch ∧ (isolate s).tc.causes = s.tc.causes ∧ (isolate s).lc.framer = s.lc.framer ∧
    (isolate s).lp.mask = s.lp.mask ∧ (isolate s).lp.phase = s.lp.phase ∧
    (isolate s).lp.response = s.lp.response := by
  unfold isolate; simp; split <;> simp

/-- What `startElection` leaves alone. -/
@[simp] theorem startElection_frame (s : State) :
    (startElection s).pending = s.pending ∧ (startElection s).now = s.now ∧ (startElection s).stimulus = s.stimulus ∧
    (startElection s).sid = s.sid ∧ (startElection s).config = s.config ∧ (startElection s).pins = s.pins ∧
    (startElection s).tb = s.tb ∧ (startElection s).mc.station = s.mc.station ∧
    (startElection s).mc.record = s.mc.record ∧ (startElection s).pcu = s.pcu ∧ (startElection s).tc = s.tc ∧
    (startElection s).lc.txOn = s.lc.txOn ∧ (startElection s).lc.framer = s.lc.framer ∧
    (startElection s).lp.mask = s.lp.mask ∧ (startElection s).lp.phase = s.lp.phase ∧
    (startElection s).lp.response = s.lp.response := by
  unfold startElection; (repeat' split) <;> simp; (repeat' split) <;> simp

/-- What `endElection` leaves alone. -/
@[simp] theorem endElection_frame (s : State) :
    (endElection s).pending = s.pending ∧ (endElection s).now = s.now ∧ (endElection s).stimulus = s.stimulus ∧
    (endElection s).sid = s.sid ∧ (endElection s).config = s.config ∧ (endElection s).pins = s.pins ∧
    (endElection s).tb = s.tb ∧ (endElection s).mc.station = s.mc.station ∧ (endElection s).mc.record = s.mc.record ∧
    (endElection s).mc.roster = s.mc.roster ∧ (endElection s).pcu = s.pcu ∧ (endElection s).tc = s.tc ∧
    (endElection s).lc.txOn = s.lc.txOn ∧ (endElection s).lc.framer = s.lc.framer ∧ (endElection s).mu = s.mu ∧
    (endElection s).lp = s.lp := by
  unfold endElection; (repeat' split) <;> simp <;> (repeat' split) <;> simp

/-- What `leaveAsFollower` leaves alone. -/
@[simp] theorem leaveAsFollower_frame (s : State) :
    (leaveAsFollower s).pending = s.pending ∧ (leaveAsFollower s).now = s.now ∧
    (leaveAsFollower s).stimulus = s.stimulus ∧ (leaveAsFollower s).sid = s.sid ∧
    (leaveAsFollower s).config = s.config ∧ (leaveAsFollower s).pins = s.pins ∧ (leaveAsFollower s).tb = s.tb ∧
    (leaveAsFollower s).mc.record = s.mc.record ∧ (leaveAsFollower s).mc.roster = s.mc.roster ∧
    (leaveAsFollower s).pcu.run = s.pcu.run ∧ (leaveAsFollower s).pcu.timed = s.pcu.timed ∧
    (leaveAsFollower s).tc = s.tc ∧ (leaveAsFollower s).lc.txOn = s.lc.txOn ∧
    (leaveAsFollower s).lc.framer = s.lc.framer ∧ (leaveAsFollower s).mu = s.mu ∧ (leaveAsFollower s).lp = s.lp := by
  unfold leaveAsFollower; split <;> simp

/-- What `found` leaves alone. -/
@[simp] theorem found_frame (cfg : ConfigRecord) (s : State) :
    (found cfg s).pending = s.pending ∧ (found cfg s).now = s.now ∧ (found cfg s).stimulus = s.stimulus ∧
    (found cfg s).sid = s.sid ∧ (found cfg s).config = s.config ∧ (found cfg s).pins = s.pins ∧
    (found cfg s).pcu.run = s.pcu.run ∧ (found cfg s).tc.causes = s.tc.causes ∧ (found cfg s).lc.txOn = s.lc.txOn ∧
    (found cfg s).lc.framer = s.lc.framer ∧ (found cfg s).lp.mask = s.lp.mask ∧ (found cfg s).lp.phase = s.lp.phase ∧
    (found cfg s).lp.response = s.lp.response := by
  simp [found]

/-- What `enterJoining` leaves alone. -/
@[simp] theorem enterJoining_frame (s : State) :
    (enterJoining s).pending = s.pending ∧ (enterJoining s).now = s.now ∧ (enterJoining s).stimulus = s.stimulus ∧
    (enterJoining s).sid = s.sid ∧ (enterJoining s).config = s.config ∧ (enterJoining s).pins = s.pins ∧
    (enterJoining s).tb = s.tb ∧ (enterJoining s).mc.role = s.mc.role ∧ (enterJoining s).mc.record = s.mc.record ∧
    (enterJoining s).mc.roster = s.mc.roster ∧ (enterJoining s).pcu.run = s.pcu.run ∧
    (enterJoining s).pcu.timed = s.pcu.timed ∧ (enterJoining s).tc = s.tc ∧ (enterJoining s).lc.txOn = s.lc.txOn ∧
    (enterJoining s).lc.framer = s.lc.framer ∧ (enterJoining s).mu = s.mu ∧ (enterJoining s).lp = s.lp := by
  simp [enterJoining]

/-- What `takeAdmission` leaves alone. -/
@[simp] theorem takeAdmission_frame (s : State) :
    (takeAdmission s).pending = s.pending ∧ (takeAdmission s).now = s.now ∧ (takeAdmission s).stimulus = s.stimulus ∧ (takeAdmission s).sid = s.sid ∧
    (takeAdmission s).config = s.config ∧ (takeAdmission s).pins = s.pins ∧ (takeAdmission s).tb = s.tb ∧ (takeAdmission s).mc.role = s.mc.role ∧
    (takeAdmission s).mc.record = s.mc.record ∧ (takeAdmission s).mc.roster = s.mc.roster ∧ (takeAdmission s).pcu.run = s.pcu.run ∧
    (takeAdmission s).pcu.timed = s.pcu.timed ∧ (takeAdmission s).tc = s.tc ∧ (takeAdmission s).lc.txOn = s.lc.txOn ∧
    (takeAdmission s).lc.framer = s.lc.framer ∧ (takeAdmission s).mu = s.mu ∧ (takeAdmission s).lp.mask = s.lp.mask ∧
    (takeAdmission s).lp.phase = s.lp.phase ∧ (takeAdmission s).lp.response = s.lp.response := by
  simp [takeAdmission]

/-- What `displace` leaves alone. -/
@[simp] theorem displace_frame (s : State) :
    (displace s).pending = s.pending ∧ (displace s).now = s.now ∧ (displace s).stimulus = s.stimulus ∧
    (displace s).sid = s.sid ∧ (displace s).config = s.config ∧ (displace s).pins = s.pins ∧ (displace s).tb = s.tb ∧
    (displace s).mc.record = s.mc.record ∧ (displace s).mc.roster = s.mc.roster ∧ (displace s).pcu.run = s.pcu.run ∧
    (displace s).pcu.timed = s.pcu.timed ∧ (displace s).tc = s.tc ∧ (displace s).lc.txOn = s.lc.txOn ∧
    (displace s).lc.framer = s.lc.framer ∧ (displace s).mu = s.mu ∧ (displace s).lp.mask = s.lp.mask ∧
    (displace s).lp.phase = s.lp.phase ∧ (displace s).lp.response = s.lp.response := by
  simp [displace]

/-- What `resumeLeave` leaves alone. -/
@[simp] theorem resumeLeave_frame (s : State) :
    (resumeLeave s).pending = s.pending ∧ (resumeLeave s).now = s.now ∧ (resumeLeave s).stimulus = s.stimulus ∧
    (resumeLeave s).sid = s.sid ∧ (resumeLeave s).config = s.config ∧ (resumeLeave s).pins = s.pins ∧
    (resumeLeave s).tb = s.tb ∧ (resumeLeave s).mc.station = s.mc.station ∧ (resumeLeave s).mc.role = s.mc.role ∧
    (resumeLeave s).mc.record = s.mc.record ∧ (resumeLeave s).mc.roster = s.mc.roster ∧ (resumeLeave s).pcu = s.pcu ∧
    (resumeLeave s).tc = s.tc ∧ (resumeLeave s).lc.txOn = s.lc.txOn ∧ (resumeLeave s).lc.framer = s.lc.framer ∧
    (resumeLeave s).mu = s.mu ∧ (resumeLeave s).lp = s.lp := by
  simp [resumeLeave]

/-- What `acceptState` leaves alone. -/
@[simp] theorem acceptState_frame (before : StationState) (admitted yielded : Bool) (b : Beacon) (s : State) :
    (acceptState before admitted yielded b s).pending = s.pending ∧
    (acceptState before admitted yielded b s).now = s.now ∧
    (acceptState before admitted yielded b s).stimulus = s.stimulus ∧
    (acceptState before admitted yielded b s).sid = s.sid ∧
    (acceptState before admitted yielded b s).config = s.config ∧
    (acceptState before admitted yielded b s).pins = s.pins ∧
    (acceptState before admitted yielded b s).tb.epoch = s.tb.epoch ∧
    (acceptState before admitted yielded b s).tc.causes = s.tc.causes ∧
    (acceptState before admitted yielded b s).lc.txOn = s.lc.txOn ∧
    (acceptState before admitted yielded b s).lc.framer = s.lc.framer ∧
    (acceptState before admitted yielded b s).lp.mask = s.lp.mask ∧
    (acceptState before admitted yielded b s).lp.phase = s.lp.phase ∧
    (acceptState before admitted yielded b s).lp.response = s.lp.response := by
  unfold acceptState; (repeat' split) <;> simp

/-- What `acceptBeacon` leaves alone. -/
@[simp] theorem acceptBeacon_frame (cfg : ConfigRecord) (src : StationId) (b : Beacon) (s : State) :
    (acceptBeacon cfg src b s).pending = s.pending ∧ (acceptBeacon cfg src b s).now = s.now ∧
    (acceptBeacon cfg src b s).stimulus = s.stimulus ∧ (acceptBeacon cfg src b s).sid = s.sid ∧
    (acceptBeacon cfg src b s).config = s.config ∧ (acceptBeacon cfg src b s).pins = s.pins ∧
    (acceptBeacon cfg src b s).tc.causes = s.tc.causes ∧ (acceptBeacon cfg src b s).lc.txOn = s.lc.txOn ∧
    (acceptBeacon cfg src b s).lc.framer = s.lc.framer ∧ (acceptBeacon cfg src b s).lp.mask = s.lp.mask ∧
    (acceptBeacon cfg src b s).lp.phase = s.lp.phase ∧ (acceptBeacon cfg src b s).lp.response = s.lp.response := by
  unfold acceptBeacon; simp; (repeat' split) <;> simp

/-- What `deliverBeacon` leaves alone. -/
@[simp] theorem deliverBeacon_frame (src : StationId) (b : Beacon) (s : State) :
    (deliverBeacon src b s).pending = s.pending ∧ (deliverBeacon src b s).now = s.now ∧
    (deliverBeacon src b s).stimulus = s.stimulus ∧ (deliverBeacon src b s).sid = s.sid ∧
    (deliverBeacon src b s).config = s.config ∧ (deliverBeacon src b s).pins = s.pins ∧
    (deliverBeacon src b s).tc.causes = s.tc.causes ∧ (deliverBeacon src b s).lc.framer = s.lc.framer ∧
    (deliverBeacon src b s).lp.mask = s.lp.mask ∧ (deliverBeacon src b s).lp.phase = s.lp.phase ∧
    (deliverBeacon src b s).lp.response = s.lp.response := by
  unfold deliverBeacon; (repeat' split) <;> simp <;> (repeat' split) <;> simp

/-- What `joinOutcome` leaves alone. -/
@[simp] theorem joinOutcome_frame (ack refuse : Bool) (s : State) :
    (joinOutcome ack refuse s).pending = s.pending ∧ (joinOutcome ack refuse s).now = s.now ∧
    (joinOutcome ack refuse s).stimulus = s.stimulus ∧ (joinOutcome ack refuse s).sid = s.sid ∧
    (joinOutcome ack refuse s).config = s.config ∧ (joinOutcome ack refuse s).pins = s.pins ∧
    (joinOutcome ack refuse s).tb.epoch = s.tb.epoch ∧ (joinOutcome ack refuse s).tc.causes = s.tc.causes ∧
    (joinOutcome ack refuse s).lc.txOn = s.lc.txOn ∧ (joinOutcome ack refuse s).lc.framer = s.lc.framer ∧
    (joinOutcome ack refuse s).lp.mask = s.lp.mask ∧ (joinOutcome ack refuse s).lp.phase = s.lp.phase ∧
    (joinOutcome ack refuse s).lp.response = s.lp.response := by
  simp only [joinOutcome, countTry]; (repeat' split) <;> simp

/-- What `leaveOutcome` leaves alone. -/
@[simp] theorem leaveOutcome_frame (ack : Bool) (s : State) :
    (leaveOutcome ack s).pending = s.pending ∧ (leaveOutcome ack s).now = s.now ∧
    (leaveOutcome ack s).stimulus = s.stimulus ∧ (leaveOutcome ack s).sid = s.sid ∧
    (leaveOutcome ack s).config = s.config ∧ (leaveOutcome ack s).pins = s.pins ∧ (leaveOutcome ack s).tb = s.tb ∧
    (leaveOutcome ack s).mc.station = s.mc.station ∧ (leaveOutcome ack s).mc.role = s.mc.role ∧
    (leaveOutcome ack s).mc.record = s.mc.record ∧ (leaveOutcome ack s).mc.roster = s.mc.roster ∧
    (leaveOutcome ack s).pcu = s.pcu ∧ (leaveOutcome ack s).tc = s.tc ∧ (leaveOutcome ack s).lc = s.lc ∧
    (leaveOutcome ack s).mu = s.mu ∧ (leaveOutcome ack s).lp = s.lp := by
  unfold leaveOutcome; split <;> simp

/-- What `becomeReference` leaves alone. -/
@[simp] theorem becomeReference_frame (cfg : ConfigRecord) (b : Beacon) (s : State) :
    (becomeReference cfg b s).pending = s.pending ∧ (becomeReference cfg b s).now = s.now ∧
    (becomeReference cfg b s).stimulus = s.stimulus ∧ (becomeReference cfg b s).sid = s.sid ∧
    (becomeReference cfg b s).config = s.config ∧ (becomeReference cfg b s).pins = s.pins ∧
    (becomeReference cfg b s).tb.epoch = s.tb.epoch ∧ (becomeReference cfg b s).mc.station = s.mc.station ∧
    (becomeReference cfg b s).pcu.run = s.pcu.run ∧ (becomeReference cfg b s).pcu.timed = s.pcu.timed ∧
    (becomeReference cfg b s).tc.causes = s.tc.causes ∧ (becomeReference cfg b s).lc.txOn = s.lc.txOn ∧
    (becomeReference cfg b s).lc.framer = s.lc.framer ∧ (becomeReference cfg b s).lp.mask = s.lp.mask ∧
    (becomeReference cfg b s).lp.phase = s.lp.phase ∧ (becomeReference cfg b s).lp.response = s.lp.response := by
  simp [becomeReference]

/-- What `beaconSent` leaves alone. -/
@[simp] theorem beaconSent_frame (b : Beacon) (s : State) :
    (beaconSent b s).pending = s.pending ∧ (beaconSent b s).now = s.now ∧ (beaconSent b s).stimulus = s.stimulus ∧
    (beaconSent b s).sid = s.sid ∧ (beaconSent b s).config = s.config ∧ (beaconSent b s).pins = s.pins ∧
    (beaconSent b s).tb.epoch = s.tb.epoch ∧ (beaconSent b s).tc.causes = s.tc.causes ∧
    (beaconSent b s).lc.txOn = s.lc.txOn ∧ (beaconSent b s).lc.framer = s.lc.framer ∧
    (beaconSent b s).lp.mask = s.lp.mask ∧ (beaconSent b s).lp.phase = s.lp.phase ∧
    (beaconSent b s).lp.response = s.lp.response := by
  unfold beaconSent; (repeat' split) <;> simp

/-- What `referenceBoundary` leaves alone. -/
@[simp] theorem referenceBoundary_frame (cfg : ConfigRecord) (s : State) :
    (referenceBoundary cfg s).pending = s.pending ∧ (referenceBoundary cfg s).now = s.now ∧
    (referenceBoundary cfg s).stimulus = s.stimulus ∧ (referenceBoundary cfg s).sid = s.sid ∧
    (referenceBoundary cfg s).config = s.config ∧ (referenceBoundary cfg s).pins = s.pins ∧
    (referenceBoundary cfg s).tb.lock = s.tb.lock ∧ (referenceBoundary cfg s).tb.epoch = s.tb.epoch ∧
    (referenceBoundary cfg s).mc.station = s.mc.station ∧ (referenceBoundary cfg s).mc.role = s.mc.role ∧
    (referenceBoundary cfg s).pcu.run = s.pcu.run ∧ (referenceBoundary cfg s).pcu.output = s.pcu.output ∧
    (referenceBoundary cfg s).pcu.timed = s.pcu.timed ∧ (referenceBoundary cfg s).tc = s.tc ∧
    (referenceBoundary cfg s).lc.txOn = s.lc.txOn ∧ (referenceBoundary cfg s).lc.framer = s.lc.framer ∧
    (referenceBoundary cfg s).lp.mask = s.lp.mask ∧ (referenceBoundary cfg s).lp.phase = s.lp.phase ∧
    (referenceBoundary cfg s).lp.response = s.lp.response := by
  simp [referenceBoundary]

/-- What `handoverBoundary` leaves alone. -/
@[simp] theorem handoverBoundary_frame (cfg : ConfigRecord) (s : State) :
    (handoverBoundary cfg s).pending = s.pending ∧ (handoverBoundary cfg s).now = s.now ∧
    (handoverBoundary cfg s).stimulus = s.stimulus ∧ (handoverBoundary cfg s).sid = s.sid ∧
    (handoverBoundary cfg s).config = s.config ∧ (handoverBoundary cfg s).pins = s.pins ∧
    (handoverBoundary cfg s).tb.epoch = s.tb.epoch ∧ (handoverBoundary cfg s).tc.causes = s.tc.causes ∧
    (handoverBoundary cfg s).lc.txOn = s.lc.txOn ∧ (handoverBoundary cfg s).lc.framer = s.lc.framer ∧
    (handoverBoundary cfg s).lp.mask = s.lp.mask ∧ (handoverBoundary cfg s).lp.phase = s.lp.phase ∧
    (handoverBoundary cfg s).lp.response = s.lp.response := by
  unfold handoverBoundary; simp; split <;> simp

/-- What `leaveBoundary` leaves alone. -/
@[simp] theorem leaveBoundary_frame (s : State) :
    (leaveBoundary s).pending = s.pending ∧ (leaveBoundary s).now = s.now ∧ (leaveBoundary s).stimulus = s.stimulus ∧
    (leaveBoundary s).sid = s.sid ∧ (leaveBoundary s).config = s.config ∧ (leaveBoundary s).pins = s.pins ∧
    (leaveBoundary s).tb.epoch = s.tb.epoch ∧ (leaveBoundary s).tc.causes = s.tc.causes ∧
    (leaveBoundary s).lc.txOn = s.lc.txOn ∧ (leaveBoundary s).lc.framer = s.lc.framer ∧
    (leaveBoundary s).lp.mask = s.lp.mask ∧ (leaveBoundary s).lp.phase = s.lp.phase ∧
    (leaveBoundary s).lp.response = s.lp.response := by
  unfold leaveBoundary; dsimp only; (repeat' split) <;> simp

/-- What `waitBoundary` leaves alone. -/
@[simp] theorem waitBoundary_frame (s : State) :
    (waitBoundary s).pending = s.pending ∧ (waitBoundary s).now = s.now ∧ (waitBoundary s).stimulus = s.stimulus ∧
    (waitBoundary s).sid = s.sid ∧ (waitBoundary s).config = s.config ∧ (waitBoundary s).pins = s.pins ∧
    (waitBoundary s).tb.epoch = s.tb.epoch ∧ (waitBoundary s).tc.causes = s.tc.causes ∧
    (waitBoundary s).lc.txOn = s.lc.txOn ∧ (waitBoundary s).lc.framer = s.lc.framer ∧
    (waitBoundary s).lp.mask = s.lp.mask ∧ (waitBoundary s).lp.phase = s.lp.phase ∧
    (waitBoundary s).lp.response = s.lp.response := by
  simp only [waitBoundary, countTry]; (repeat' split) <;> simp

/-- What `joinBoundary` leaves alone. -/
@[simp] theorem joinBoundary_frame (s : State) :
    (joinBoundary s).pending = s.pending ∧ (joinBoundary s).now = s.now ∧ (joinBoundary s).stimulus = s.stimulus ∧
    (joinBoundary s).sid = s.sid ∧ (joinBoundary s).config = s.config ∧ (joinBoundary s).pins = s.pins ∧
    (joinBoundary s).tb.epoch = s.tb.epoch ∧ (joinBoundary s).tc.causes = s.tc.causes ∧
    (joinBoundary s).lc.txOn = s.lc.txOn ∧ (joinBoundary s).lc.framer = s.lc.framer ∧
    (joinBoundary s).lp.mask = s.lp.mask ∧ (joinBoundary s).lp.phase = s.lp.phase ∧
    (joinBoundary s).lp.response = s.lp.response := by
  unfold joinBoundary; split <;> simp

/-- What `candidateFill` leaves alone. -/
@[simp] theorem candidateFill_frame (cfg : ConfigRecord) (s : State) :
    (candidateFill cfg s).pending = s.pending ∧ (candidateFill cfg s).now = s.now ∧
    (candidateFill cfg s).stimulus = s.stimulus ∧ (candidateFill cfg s).sid = s.sid ∧
    (candidateFill cfg s).config = s.config ∧ (candidateFill cfg s).pins = s.pins ∧ (candidateFill cfg s).tb = s.tb ∧
    (candidateFill cfg s).mc.station = s.mc.station ∧ (candidateFill cfg s).mc.role = s.mc.role ∧
    (candidateFill cfg s).mc.record = s.mc.record ∧ (candidateFill cfg s).mc.roster = s.mc.roster ∧
    (candidateFill cfg s).mc.election = s.mc.election ∧ (candidateFill cfg s).pcu = s.pcu ∧
    (candidateFill cfg s).tc = s.tc ∧ (candidateFill cfg s).lc.txOn = s.lc.txOn ∧
    (candidateFill cfg s).lc.framer = s.lc.framer ∧ (candidateFill cfg s).mu = s.mu ∧
    (candidateFill cfg s).lp = s.lp := by
  unfold candidateFill; split <;> simp [fillBeacon]

/-- What `memberBoundary` leaves alone. -/
@[simp] theorem memberBoundary_frame (cfg : ConfigRecord) (s : State) :
    (memberBoundary cfg s).pending = s.pending ∧ (memberBoundary cfg s).now = s.now ∧
    (memberBoundary cfg s).stimulus = s.stimulus ∧ (memberBoundary cfg s).sid = s.sid ∧
    (memberBoundary cfg s).config = s.config ∧ (memberBoundary cfg s).pins = s.pins ∧
    (memberBoundary cfg s).tb.lock = s.tb.lock ∧ (memberBoundary cfg s).tb.epoch = s.tb.epoch ∧
    (memberBoundary cfg s).mc.station = s.mc.station ∧ (memberBoundary cfg s).mc.role = s.mc.role ∧
    (memberBoundary cfg s).pcu.run = s.pcu.run ∧ (memberBoundary cfg s).pcu.output = s.pcu.output ∧
    (memberBoundary cfg s).pcu.timed = s.pcu.timed ∧ (memberBoundary cfg s).tc = s.tc ∧
    (memberBoundary cfg s).lc.txOn = s.lc.txOn ∧ (memberBoundary cfg s).lc.framer = s.lc.framer ∧
    (memberBoundary cfg s).lp.mask = s.lp.mask ∧ (memberBoundary cfg s).lp.phase = s.lp.phase ∧
    (memberBoundary cfg s).lp.response = s.lp.response := by
  unfold memberBoundary; (repeat' split) <;> simp

/-- What `boundaryMc` leaves alone. -/
@[simp] theorem boundaryMc_frame (cfg : ConfigRecord) (s : State) :
    (boundaryMc cfg s).pending = s.pending ∧ (boundaryMc cfg s).now = s.now ∧
    (boundaryMc cfg s).stimulus = s.stimulus ∧ (boundaryMc cfg s).sid = s.sid ∧ (boundaryMc cfg s).config = s.config ∧
    (boundaryMc cfg s).pins = s.pins ∧ (boundaryMc cfg s).tb.epoch = s.tb.epoch ∧
    (boundaryMc cfg s).tc.causes = s.tc.causes ∧ (boundaryMc cfg s).lc.txOn = s.lc.txOn ∧
    (boundaryMc cfg s).lc.framer = s.lc.framer ∧ (boundaryMc cfg s).lp.mask = s.lp.mask ∧
    (boundaryMc cfg s).lp.phase = s.lp.phase ∧ (boundaryMc cfg s).lp.response = s.lp.response := by
  unfold boundaryMc; dsimp only; (repeat' split) <;> simp

end Sys2Proof.Machine
end

