-- ==== Sys2Proof/Laws/FrameCommand.lean ====
section
/-! SUPPORT. Frames of the shared operations: the fields of State that each one leaves alone. -/

namespace Sys2Proof.Machine

/-- What `acceptConfig` leaves alone. -/
@[simp] theorem acceptConfig_frame (cfg : ConfigRecord) (s : State) :
    (acceptConfig cfg s).pending = s.pending ∧ (acceptConfig cfg s).now = s.now ∧
    (acceptConfig cfg s).stimulus = s.stimulus ∧ (acceptConfig cfg s).sid = s.sid ∧
    (acceptConfig cfg s).pins = s.pins ∧ (acceptConfig cfg s).mc.role = s.mc.role ∧
    (acceptConfig cfg s).mc.record = s.mc.record ∧ (acceptConfig cfg s).mc.roster = s.mc.roster ∧
    (acceptConfig cfg s).pcu.run = s.pcu.run ∧ (acceptConfig cfg s).pcu.timed = s.pcu.timed ∧
    (acceptConfig cfg s).tc = s.tc ∧ (acceptConfig cfg s).lc.framer = s.lc.framer ∧ (acceptConfig cfg s).mu = s.mu ∧
    (acceptConfig cfg s).lp = s.lp := by
  simp [acceptConfig]

/-- What `takeLeave` leaves alone. -/
@[simp] theorem takeLeave_frame (s : State) :
    (takeLeave s).pending = s.pending ∧ (takeLeave s).now = s.now ∧ (takeLeave s).stimulus = s.stimulus ∧
    (takeLeave s).sid = s.sid ∧ (takeLeave s).config = s.config ∧ (takeLeave s).pins = s.pins ∧
    (takeLeave s).tb.epoch = s.tb.epoch ∧ (takeLeave s).tc.causes = s.tc.causes ∧ (takeLeave s).lc.txOn = s.lc.txOn ∧
    (takeLeave s).lc.framer = s.lc.framer ∧ (takeLeave s).lp.mask = s.lp.mask ∧ (takeLeave s).lp.phase = s.lp.phase ∧
    (takeLeave s).lp.response = s.lp.response := by
  unfold takeLeave; (repeat' split) <;> simp

/-- What `restartLc` leaves alone. -/
@[simp] theorem restartLc_frame (s : State) :
    (restartLc s).pending = s.pending ∧ (restartLc s).now = s.now ∧ (restartLc s).stimulus = s.stimulus ∧
    (restartLc s).sid = s.sid ∧ (restartLc s).config = s.config ∧ (restartLc s).pins = s.pins ∧
    (restartLc s).tb = s.tb ∧ (restartLc s).mc = s.mc ∧ (restartLc s).pcu = s.pcu ∧ (restartLc s).tc = s.tc ∧
    (restartLc s).lc.framer = s.lc.framer ∧ (restartLc s).mu = s.mu ∧ (restartLc s).lp = s.lp := by
  simp [restartLc]

/-- What `restartPcu` leaves alone. -/
@[simp] theorem restartPcu_frame (s : State) :
    (restartPcu s).pending = s.pending ∧ (restartPcu s).now = s.now ∧ (restartPcu s).stimulus = s.stimulus ∧
    (restartPcu s).sid = s.sid ∧ (restartPcu s).config = s.config ∧ (restartPcu s).pins = s.pins ∧
    (restartPcu s).tb = s.tb ∧ (restartPcu s).mc = s.mc ∧ (restartPcu s).tc = s.tc ∧ (restartPcu s).lc = s.lc ∧
    (restartPcu s).mu = s.mu ∧ (restartPcu s).lp = s.lp := by
  simp [restartPcu]

/-- What `restartAll` leaves alone. -/
@[simp] theorem restartAll_frame (s : State) :
    (restartAll s).pending = s.pending ∧ (restartAll s).now = s.now ∧ (restartAll s).stimulus = s.stimulus ∧
    (restartAll s).sid = s.sid ∧ (restartAll s).config = s.config ∧ (restartAll s).pins = s.pins ∧
    (restartAll s).tb.epoch = s.tb.epoch ∧ (restartAll s).tc.causes = s.tc.causes ∧
    (restartAll s).lc.framer = s.lc.framer ∧ (restartAll s).lp.mask = s.lp.mask ∧
    (restartAll s).lp.phase = s.lp.phase ∧ (restartAll s).lp.response = s.lp.response := by
  simp [restartAll]

/-- What `setRun` leaves alone. -/
@[simp] theorem setRun_frame (on : Bool) (s : State) :
    (setRun on s).pending = s.pending ∧ (setRun on s).now = s.now ∧ (setRun on s).stimulus = s.stimulus ∧
    (setRun on s).sid = s.sid ∧ (setRun on s).config = s.config ∧ (setRun on s).pins = s.pins ∧
    (setRun on s).tb = s.tb ∧ (setRun on s).mc = s.mc ∧ (setRun on s).pcu.timed = s.pcu.timed ∧
    (setRun on s).tc = s.tc ∧ (setRun on s).lc = s.lc ∧ (setRun on s).mu = s.mu ∧ (setRun on s).lp = s.lp := by
  simp [setRun]

/-- What `placeUntimed` leaves alone. -/
@[simp] theorem placeUntimed_frame (d : DutySettings) (s : State) :
    (placeUntimed d s).pending = s.pending ∧ (placeUntimed d s).now = s.now ∧
    (placeUntimed d s).stimulus = s.stimulus ∧ (placeUntimed d s).sid = s.sid ∧ (placeUntimed d s).config = s.config ∧
    (placeUntimed d s).pins = s.pins ∧ (placeUntimed d s).tb = s.tb ∧ (placeUntimed d s).mc = s.mc ∧
    (placeUntimed d s).pcu.run = s.pcu.run ∧ (placeUntimed d s).pcu.output = s.pcu.output ∧
    (placeUntimed d s).pcu.timed = s.pcu.timed ∧ (placeUntimed d s).tc = s.tc ∧ (placeUntimed d s).lc = s.lc ∧
    (placeUntimed d s).mu = s.mu ∧ (placeUntimed d s).lp.events = s.lp.events ∧
    (placeUntimed d s).lp.mask = s.lp.mask := by
  simp [placeUntimed]

/-- What `placeTimed` leaves alone. -/
@[simp] theorem placeTimed_frame (r : TimedDuty) (s : State) :
    (placeTimed r s).pending = s.pending ∧ (placeTimed r s).now = s.now ∧ (placeTimed r s).stimulus = s.stimulus ∧
    (placeTimed r s).sid = s.sid ∧ (placeTimed r s).config = s.config ∧ (placeTimed r s).pins = s.pins ∧
    (placeTimed r s).tb = s.tb ∧ (placeTimed r s).mc = s.mc ∧ (placeTimed r s).pcu.run = s.pcu.run ∧
    (placeTimed r s).pcu.output = s.pcu.output ∧ (placeTimed r s).tc = s.tc ∧ (placeTimed r s).lc = s.lc ∧
    (placeTimed r s).mu = s.mu ∧ (placeTimed r s).lp.events = s.lp.events ∧ (placeTimed r s).lp.mask = s.lp.mask := by
  unfold placeTimed; (repeat' split) <;> simp

/-- What `placeDuty` leaves alone. -/
@[simp] theorem placeDuty_frame (d : DutySettings) (apply : Option EpochNumber) (s : State) :
    (placeDuty d apply s).pending = s.pending ∧ (placeDuty d apply s).now = s.now ∧
    (placeDuty d apply s).stimulus = s.stimulus ∧ (placeDuty d apply s).sid = s.sid ∧
    (placeDuty d apply s).config = s.config ∧ (placeDuty d apply s).pins = s.pins ∧ (placeDuty d apply s).tb = s.tb ∧
    (placeDuty d apply s).mc = s.mc ∧ (placeDuty d apply s).pcu.run = s.pcu.run ∧
    (placeDuty d apply s).pcu.output = s.pcu.output ∧ (placeDuty d apply s).tc = s.tc ∧
    (placeDuty d apply s).lc = s.lc ∧ (placeDuty d apply s).mu = s.mu ∧
    (placeDuty d apply s).lp.events = s.lp.events ∧ (placeDuty d apply s).lp.mask = s.lp.mask := by
  unfold placeDuty; (repeat' split) <;> simp; (repeat' split) <;> simp

/-- What `cancelEpoch` leaves alone. -/
@[simp] theorem cancelEpoch_frame (epoch : EpochNumber) (s : State) :
    (cancelEpoch epoch s).pending = s.pending ∧ (cancelEpoch epoch s).now = s.now ∧
    (cancelEpoch epoch s).stimulus = s.stimulus ∧ (cancelEpoch epoch s).sid = s.sid ∧
    (cancelEpoch epoch s).config = s.config ∧ (cancelEpoch epoch s).pins = s.pins ∧ (cancelEpoch epoch s).tb = s.tb ∧
    (cancelEpoch epoch s).mc = s.mc ∧ (cancelEpoch epoch s).pcu.run = s.pcu.run ∧
    (cancelEpoch epoch s).pcu.output = s.pcu.output ∧ (cancelEpoch epoch s).tc = s.tc ∧
    (cancelEpoch epoch s).lc = s.lc ∧ (cancelEpoch epoch s).mu = s.mu ∧
    (cancelEpoch epoch s).lp.events = s.lp.events ∧ (cancelEpoch epoch s).lp.mask = s.lp.mask := by
  unfold cancelEpoch; split <;> simp

/-- What `clearCauses` leaves alone. -/
@[simp] theorem clearCauses_frame (s : State) :
    (clearCauses s).pending = s.pending ∧ (clearCauses s).now = s.now ∧ (clearCauses s).stimulus = s.stimulus ∧
    (clearCauses s).sid = s.sid ∧ (clearCauses s).config = s.config ∧ (clearCauses s).pins = s.pins ∧
    (clearCauses s).tb = s.tb ∧ (clearCauses s).mc = s.mc ∧ (clearCauses s).pcu.run = s.pcu.run ∧
    (clearCauses s).pcu.timed = s.pcu.timed ∧ (clearCauses s).lc.txOn = s.lc.txOn ∧
    (clearCauses s).lc.framer = s.lc.framer ∧ (clearCauses s).mu = s.mu ∧ (clearCauses s).lp.mask = s.lp.mask ∧
    (clearCauses s).lp.phase = s.lp.phase ∧ (clearCauses s).lp.response = s.lp.response := by
  unfold clearCauses; simp; split <;> simp

/-- What `queueMail` leaves alone. -/
@[simp] theorem queueMail_frame (destination : StationId) (data : List Byte) (s : State) :
    (queueMail destination data s).pending = s.pending ∧ (queueMail destination data s).now = s.now ∧
    (queueMail destination data s).stimulus = s.stimulus ∧ (queueMail destination data s).sid = s.sid ∧
    (queueMail destination data s).config = s.config ∧ (queueMail destination data s).pins = s.pins ∧
    (queueMail destination data s).tb = s.tb ∧ (queueMail destination data s).mc = s.mc ∧
    (queueMail destination data s).pcu = s.pcu ∧ (queueMail destination data s).tc = s.tc ∧
    (queueMail destination data s).lc.txOn = s.lc.txOn ∧ (queueMail destination data s).lc.framer = s.lc.framer ∧
    (queueMail destination data s).mu.receipts = s.mu.receipts ∧ (queueMail destination data s).lp = s.lp := by
  unfold queueMail; split <;> simp

/-- What `postMail` leaves alone. -/
@[simp] theorem postMail_frame (payload : List Byte) (s : State) :
    (postMail payload s).pending = s.pending ∧ (postMail payload s).now = s.now ∧
    (postMail payload s).stimulus = s.stimulus ∧ (postMail payload s).sid = s.sid ∧
    (postMail payload s).config = s.config ∧ (postMail payload s).pins = s.pins ∧ (postMail payload s).tb = s.tb ∧
    (postMail payload s).mc = s.mc ∧ (postMail payload s).pcu = s.pcu ∧ (postMail payload s).tc = s.tc ∧
    (postMail payload s).lc.txOn = s.lc.txOn ∧ (postMail payload s).lc.framer = s.lc.framer ∧
    (postMail payload s).mu.receipts = s.mu.receipts ∧ (postMail payload s).lp.events = s.lp.events ∧
    (postMail payload s).lp.mask = s.lp.mask := by
  unfold postMail; (repeat' split) <;> simp

/-- What `takeMail` leaves alone. -/
@[simp] theorem takeMail_frame (s : State) :
    (takeMail s).pending = s.pending ∧ (takeMail s).now = s.now ∧ (takeMail s).stimulus = s.stimulus ∧
    (takeMail s).sid = s.sid ∧ (takeMail s).config = s.config ∧ (takeMail s).pins = s.pins ∧ (takeMail s).tb = s.tb ∧
    (takeMail s).mc = s.mc ∧ (takeMail s).pcu = s.pcu ∧ (takeMail s).tc = s.tc ∧ (takeMail s).lc = s.lc ∧
    (takeMail s).lp.events = s.lp.events ∧ (takeMail s).lp.mask = s.lp.mask := by
  unfold takeMail; split <;> simp

/-- What `takeReceipt` leaves alone. -/
@[simp] theorem takeReceipt_frame (s : State) :
    (takeReceipt s).pending = s.pending ∧ (takeReceipt s).now = s.now ∧ (takeReceipt s).stimulus = s.stimulus ∧
    (takeReceipt s).sid = s.sid ∧ (takeReceipt s).config = s.config ∧ (takeReceipt s).pins = s.pins ∧
    (takeReceipt s).tb = s.tb ∧ (takeReceipt s).mc = s.mc ∧ (takeReceipt s).pcu = s.pcu ∧ (takeReceipt s).tc = s.tc ∧
    (takeReceipt s).lc.txOn = s.lc.txOn ∧ (takeReceipt s).lc.framer = s.lc.framer ∧
    (takeReceipt s).lp.mask = s.lp.mask := by
  unfold takeReceipt; split <;> simp

/-- What `boundaryCarrier` leaves alone. -/
@[simp] theorem boundaryCarrier_frame (s : State) :
    (boundaryCarrier s).pending = s.pending ∧ (boundaryCarrier s).now = s.now ∧
    (boundaryCarrier s).stimulus = s.stimulus ∧ (boundaryCarrier s).sid = s.sid ∧
    (boundaryCarrier s).config = s.config ∧ (boundaryCarrier s).pins = s.pins ∧ (boundaryCarrier s).tb = s.tb ∧
    (boundaryCarrier s).mc.station = s.mc.station ∧ (boundaryCarrier s).mc.role = s.mc.role ∧
    (boundaryCarrier s).mc.record = s.mc.record ∧ (boundaryCarrier s).mc.roster = s.mc.roster ∧
    (boundaryCarrier s).pcu = s.pcu ∧ (boundaryCarrier s).tc = s.tc ∧ (boundaryCarrier s).lc.txOn = s.lc.txOn ∧
    (boundaryCarrier s).lc.framer = s.lc.framer ∧ (boundaryCarrier s).mu = s.mu ∧ (boundaryCarrier s).lp = s.lp := by
  unfold boundaryCarrier countCarrier; (repeat' split) <;> simp

/-- What `takeBoundary` leaves alone. -/
@[simp] theorem takeBoundary_frame (cfg : ConfigRecord) (s : State) :
    (takeBoundary cfg s).pending = s.pending ∧ (takeBoundary cfg s).now = s.now ∧
    (takeBoundary cfg s).stimulus = s.stimulus ∧ (takeBoundary cfg s).sid = s.sid ∧
    (takeBoundary cfg s).config = s.config ∧ (takeBoundary cfg s).pins = s.pins ∧
    (takeBoundary cfg s).tc.causes = s.tc.causes ∧ (takeBoundary cfg s).lc.framer = s.lc.framer ∧
    (takeBoundary cfg s).lp.mask = s.lp.mask ∧ (takeBoundary cfg s).lp.phase = s.lp.phase ∧
    (takeBoundary cfg s).lp.response = s.lp.response := by
  simp [takeBoundary]

/-- What `startPcu` leaves alone. -/
@[simp] theorem startPcu_frame (s : State) :
    (startPcu s).pending = s.pending ∧ (startPcu s).now = s.now ∧ (startPcu s).stimulus = s.stimulus ∧
    (startPcu s).sid = s.sid ∧ (startPcu s).config = s.config ∧ (startPcu s).pins = s.pins ∧ (startPcu s).tb = s.tb ∧
    (startPcu s).mc = s.mc ∧ (startPcu s).pcu.run = s.pcu.run ∧ (startPcu s).pcu.timed = s.pcu.timed ∧
    (startPcu s).tc = s.tc ∧ (startPcu s).lc = s.lc ∧ (startPcu s).mu = s.mu ∧ (startPcu s).lp.mask = s.lp.mask ∧
    (startPcu s).lp.phase = s.lp.phase ∧ (startPcu s).lp.response = s.lp.response := by
  unfold startPcu; split <;> simp

/-- What `markStart` leaves alone. -/
@[simp] theorem markStart_frame (recordApplied : Bool) (s : State) :
    (markStart recordApplied s).pending = s.pending ∧ (markStart recordApplied s).now = s.now ∧
    (markStart recordApplied s).stimulus = s.stimulus ∧ (markStart recordApplied s).sid = s.sid ∧
    (markStart recordApplied s).config = s.config ∧ (markStart recordApplied s).pins = s.pins ∧
    (markStart recordApplied s).tb.lock = s.tb.lock ∧ (markStart recordApplied s).tb.epoch = s.tb.epoch ∧
    (markStart recordApplied s).mc = s.mc ∧ (markStart recordApplied s).pcu = s.pcu ∧
    (markStart recordApplied s).tc = s.tc ∧ (markStart recordApplied s).lc = s.lc ∧
    (markStart recordApplied s).mu = s.mu ∧ (markStart recordApplied s).lp = s.lp := by
  simp [markStart]

/-- What `planReply` leaves alone. -/
@[simp] theorem planReply_frame (ack refuse : Bool) (s : State) :
    (planReply ack refuse s).pending = s.pending ∧ (planReply ack refuse s).now = s.now ∧
    (planReply ack refuse s).stimulus = s.stimulus ∧ (planReply ack refuse s).sid = s.sid ∧
    (planReply ack refuse s).config = s.config ∧ (planReply ack refuse s).pins = s.pins ∧
    (planReply ack refuse s).tb = s.tb ∧ (planReply ack refuse s).mc = s.mc ∧ (planReply ack refuse s).pcu = s.pcu ∧
    (planReply ack refuse s).tc = s.tc ∧ (planReply ack refuse s).lc.txOn = s.lc.txOn ∧
    (planReply ack refuse s).lc.framer = s.lc.framer ∧ (planReply ack refuse s).mu = s.mu ∧
    (planReply ack refuse s).lp = s.lp := by
  simp [planReply]

/-- What `missBeacon` leaves alone. -/
@[simp] theorem missBeacon_frame (cfg : ConfigRecord) (s : State) :
    (missBeacon cfg s).pending = s.pending ∧ (missBeacon cfg s).now = s.now ∧
    (missBeacon cfg s).stimulus = s.stimulus ∧ (missBeacon cfg s).sid = s.sid ∧ (missBeacon cfg s).config = s.config ∧
    (missBeacon cfg s).pins = s.pins ∧ (missBeacon cfg s).tb.epoch = s.tb.epoch ∧
    (missBeacon cfg s).mc.station = s.mc.station ∧ (missBeacon cfg s).mc.record = s.mc.record ∧
    (missBeacon cfg s).pcu.run = s.pcu.run ∧ (missBeacon cfg s).pcu.timed = s.pcu.timed ∧
    (missBeacon cfg s).tc.causes = s.tc.causes ∧ (missBeacon cfg s).lc.txOn = s.lc.txOn ∧
    (missBeacon cfg s).lc.framer = s.lc.framer ∧ (missBeacon cfg s).lp.mask = s.lp.mask ∧
    (missBeacon cfg s).lp.phase = s.lp.phase ∧ (missBeacon cfg s).lp.response = s.lp.response := by
  unfold missBeacon; simp; split <;> simp

/-- What `replyEffect` leaves alone. -/
@[simp] theorem replyEffect_frame (src : StationId) (kind : ReplyKind) (ack refuse : Bool) (s : State) :
    (replyEffect src kind ack refuse s).pending = s.pending ∧ (replyEffect src kind ack refuse s).now = s.now ∧
    (replyEffect src kind ack refuse s).stimulus = s.stimulus ∧ (replyEffect src kind ack refuse s).sid = s.sid ∧
    (replyEffect src kind ack refuse s).config = s.config ∧ (replyEffect src kind ack refuse s).pins = s.pins ∧
    (replyEffect src kind ack refuse s).tb = s.tb ∧ (replyEffect src kind ack refuse s).mc.station = s.mc.station ∧
    (replyEffect src kind ack refuse s).mc.role = s.mc.role ∧
    (replyEffect src kind ack refuse s).mc.record = s.mc.record ∧ (replyEffect src kind ack refuse s).pcu = s.pcu ∧
    (replyEffect src kind ack refuse s).tc = s.tc ∧ (replyEffect src kind ack refuse s).lc.txOn = s.lc.txOn ∧
    (replyEffect src kind ack refuse s).lc.framer = s.lc.framer ∧
    (replyEffect src kind ack refuse s).lp.mask = s.lp.mask ∧
    (replyEffect src kind ack refuse s).lp.phase = s.lp.phase ∧
    (replyEffect src kind ack refuse s).lp.response = s.lp.response := by
  unfold replyEffect; (repeat' split) <;> simp

/-- What `endFrame` leaves alone. -/
@[simp] theorem endFrame_frame (s : State) :
    (endFrame s).pending = s.pending ∧ (endFrame s).now = s.now ∧ (endFrame s).stimulus = s.stimulus ∧
    (endFrame s).sid = s.sid ∧ (endFrame s).config = s.config ∧ (endFrame s).pins = s.pins ∧ (endFrame s).tb = s.tb ∧
    (endFrame s).mc = s.mc ∧ (endFrame s).pcu = s.pcu ∧ (endFrame s).tc = s.tc ∧ (endFrame s).lc.txOn = s.lc.txOn ∧
    (endFrame s).mu = s.mu ∧ (endFrame s).lp = s.lp := by
  unfold endFrame; simp; split <;> simp

/-- What `takeInMail` leaves alone. -/
@[simp] theorem takeInMail_frame (mail : InMail) (s : State) :
    (takeInMail mail s).pending = s.pending ∧ (takeInMail mail s).now = s.now ∧
    (takeInMail mail s).stimulus = s.stimulus ∧ (takeInMail mail s).sid = s.sid ∧
    (takeInMail mail s).config = s.config ∧ (takeInMail mail s).pins = s.pins ∧ (takeInMail mail s).tb = s.tb ∧
    (takeInMail mail s).mc = s.mc ∧ (takeInMail mail s).pcu = s.pcu ∧ (takeInMail mail s).tc = s.tc ∧
    (takeInMail mail s).lc.txOn = s.lc.txOn ∧ (takeInMail mail s).lc.framer = s.lc.framer ∧
    (takeInMail mail s).mu.queue = s.mu.queue ∧ (takeInMail mail s).mu.receipts = s.mu.receipts ∧
    (takeInMail mail s).lp.mask = s.lp.mask ∧ (takeInMail mail s).lp.phase = s.lp.phase ∧
    (takeInMail mail s).lp.response = s.lp.response := by
  unfold takeInMail; (repeat' split) <;> simp [storeMail]; split <;> simp

/-- What `clearLine` leaves alone. -/
@[simp] theorem clearLine_frame (s : State) :
    (clearLine s).pending = s.pending ∧ (clearLine s).now = s.now ∧ (clearLine s).stimulus = s.stimulus ∧
    (clearLine s).sid = s.sid ∧ (clearLine s).config = s.config ∧ (clearLine s).pins = s.pins ∧
    (clearLine s).tb = s.tb ∧ (clearLine s).mc = s.mc ∧ (clearLine s).pcu = s.pcu ∧ (clearLine s).tc = s.tc ∧
    (clearLine s).lc.txOn = s.lc.txOn ∧ (clearLine s).mu = s.mu ∧ (clearLine s).lp = s.lp := by
  simp [clearLine]

/-- What `giveOutcome` leaves alone. -/
@[simp] theorem giveOutcome_frame (f : TxFrame) (ack refuse : Bool) (s : State) :
    (giveOutcome f ack refuse s).pending = s.pending ∧ (giveOutcome f ack refuse s).now = s.now ∧
    (giveOutcome f ack refuse s).stimulus = s.stimulus ∧ (giveOutcome f ack refuse s).sid = s.sid ∧
    (giveOutcome f ack refuse s).config = s.config ∧ (giveOutcome f ack refuse s).pins = s.pins ∧
    (giveOutcome f ack refuse s).tb.epoch = s.tb.epoch ∧ (giveOutcome f ack refuse s).tc.causes = s.tc.causes ∧
    (giveOutcome f ack refuse s).lc.txOn = s.lc.txOn ∧ (giveOutcome f ack refuse s).lc.framer = s.lc.framer ∧
    (giveOutcome f ack refuse s).lp.mask = s.lp.mask ∧ (giveOutcome f ack refuse s).lp.phase = s.lp.phase ∧
    (giveOutcome f ack refuse s).lp.response = s.lp.response := by
  unfold giveOutcome; split <;> simp

/-- What `countFailure` leaves alone. -/
@[simp] theorem countFailure_frame (s : State) :
    (countFailure s).pending = s.pending ∧ (countFailure s).now = s.now ∧ (countFailure s).stimulus = s.stimulus ∧
    (countFailure s).sid = s.sid ∧ (countFailure s).config = s.config ∧ (countFailure s).pins = s.pins ∧
    (countFailure s).tb.epoch = s.tb.epoch ∧ (countFailure s).tc.causes = s.tc.causes ∧
    (countFailure s).lc.framer = s.lc.framer ∧ (countFailure s).lp.mask = s.lp.mask ∧
    (countFailure s).lp.phase = s.lp.phase ∧ (countFailure s).lp.response = s.lp.response := by
  unfold countFailure; simp; split <;> simp

/-- What `returnFrame` leaves alone. -/
@[simp] theorem returnFrame_frame (own : OwnFrame) (s : State) :
    (returnFrame own s).pending = s.pending ∧ (returnFrame own s).now = s.now ∧
    (returnFrame own s).stimulus = s.stimulus ∧ (returnFrame own s).sid = s.sid ∧
    (returnFrame own s).config = s.config ∧ (returnFrame own s).pins = s.pins ∧ (returnFrame own s).tb = s.tb ∧
    (returnFrame own s).mc = s.mc ∧ (returnFrame own s).pcu = s.pcu ∧ (returnFrame own s).tc = s.tc ∧
    (returnFrame own s).lc.txOn = s.lc.txOn ∧ (returnFrame own s).lc.framer = s.lc.framer ∧
    (returnFrame own s).mu = s.mu ∧ (returnFrame own s).lp = s.lp := by
  unfold returnFrame; split <;> simp

/-- What `failureNotice` leaves alone. -/
@[simp] theorem failureNotice_frame (f : TxFrame) (s : State) :
    (failureNotice f s).pending = s.pending ∧ (failureNotice f s).now = s.now ∧
    (failureNotice f s).stimulus = s.stimulus ∧ (failureNotice f s).sid = s.sid ∧
    (failureNotice f s).config = s.config ∧ (failureNotice f s).pins = s.pins ∧ (failureNotice f s).tb = s.tb ∧
    (failureNotice f s).mc = s.mc ∧ (failureNotice f s).pcu = s.pcu ∧ (failureNotice f s).tc = s.tc ∧
    (failureNotice f s).lc.txOn = s.lc.txOn ∧ (failureNotice f s).lc.framer = s.lc.framer ∧
    (failureNotice f s).lp.mask = s.lp.mask ∧ (failureNotice f s).lp.phase = s.lp.phase ∧
    (failureNotice f s).lp.response = s.lp.response := by
  unfold failureNotice; split <;> simp

end Sys2Proof.Machine
end

