-- ==== Sys2Proof/Laws/Effects.lean ====
section
/-! SUPPORT. What the most used shared operations do, each said once: events, the output gate, transmit slots, responses, trips,
the channels, re-basing, and leaving the line. The Frame files say what they leave alone. -/

namespace Sys2Proof.Machine

/-! ### Commands and RESETN (R95, R123, log 22) -/

/-- With RESETN high a command comes to its effect. -/
theorem goes_high (s t : State) (h : s.pins.resetn = true) : goes s t = .next t := by simp [goes, h]

/-- With RESETN low a command does nothing. -/
theorem goes_low (s t : State) (h : s.pins.resetn = false) : goes s t = .next s := by simp [goes, h]

/-! ### Events (R142) -/

theorem eventMask_getLsbD (e : Event) (i : Nat) (h : i < 23) : (eventMask e).getLsbD i = decide (i = eventBit e) := by
  cases e <;> (revert i; decide)

theorem eventBit_lt (e : Event) : eventBit e < 23 := by cases e <;> decide

theorem eventBit_inj (e f : Event) : eventBit e = eventBit f ↔ e = f := by
  cases e <;> cases f <;> decide

/-- A posted event is present, and no other kind changes. -/
@[simp] theorem hasEvent_post (e f : Event) (s : State) :
    hasEvent (post e s).lp.events f = (hasEvent s.lp.events f || decide (f = e)) := by
  simp only [post, mapLp_lp, hasEvent, BitVec.getLsbD_or, eventMask_getLsbD e _ (eventBit_lt f), eventBit_inj]

@[simp] theorem hasEvent_postIf (c : Bool) (e f : Event) (s : State) :
    hasEvent (postIf c e s).lp.events f = (hasEvent s.lp.events f || (c && decide (f = e))) := by
  cases c <;> simp [postIf]

/-! ### The output gate (R87, R88) -/

/-- After `regate` the output state is OFF with the gate closed, and STANDBY at least with it open. -/
theorem regate_output (s : State) :
    (regate s).pcu = { s.pcu with
      output := if gateOpen s then (if s.pcu.output = .off then .standby else s.pcu.output) else .off } := rfl

theorem regate_closed (s : State) (h : gateOpen s = false) : (regate s).pcu.output = .off := by
  simp [regate_output, h]

theorem regate_open (s : State) (h : gateOpen s = true) : (regate s).pcu.output ≠ .off := by
  simp only [regate_output, h, if_true]
  split <;> simp_all

/-- A gate in line with the output state stays as it is. -/
theorem regate_id (s : State) (h : s.pcu.output = .off ↔ gateOpen s = false) : regate s = s := by
  have : (if gateOpen s then (if s.pcu.output = .off then .standby else s.pcu.output) else .off) = s.pcu.output := by
    cases hg : gateOpen s
    · simpa using (h.2 hg).symm
    · have : s.pcu.output ≠ .off := fun ho => by simp [h.1 ho] at hg
      simp [this]
  show mapPcu _ s = s
  simp only [mapPcu, this]

/-! ### Transmit slots (R116, R117, R118) -/

theorem slotOf_setSlot (slots : TxSlots) (k j : FrameKind) (f : Option TxFrame) :
    slotOf (setSlot slots k f) j = if j = k then f else slotOf slots j := by
  cases k <;> cases j <;> rfl

/-- A fill with the transmitter off is discarded. -/
theorem fillSlot_off (f : TxFrame) (s : State) (h : s.lc.txOn = false) : fillSlot f s = s := by
  simp [fillSlot, mapLc, h]

/-- A fill with the transmitter on puts the frame into its slot and into no other. -/
theorem fillSlot_on (f : TxFrame) (s : State) (h : s.lc.txOn = true) (k : FrameKind) :
    slotOf (fillSlot f s).lc.slots k = if k = frameKind f then some f else slotOf s.lc.slots k := by
  simp [fillSlot, h, slotOf_setSlot]

theorem emptySlot_slots (j k : FrameKind) (s : State) :
    slotOf (emptySlot j s).lc.slots k = if k = j then none else slotOf s.lc.slots k := by
  simp [emptySlot, slotOf_setSlot]

/-! ### Responses (R136) -/

theorem respond_lp (status : Status) (payload : List Byte) (s : State) :
    (respond status payload s).lp = { s.lp with
      phase := .turnaround, shift := [], bitCount := 0, sdo := some true
      response := responseFrame (statusByte status) payload } := rfl

/-! ### Trips (R96, R97, R98, R100) -/

/-- A cause in the set latches nothing. -/
theorem latchCause_again (cause : TripCause) (s : State) (h : hasCause s.tc.causes cause = true) :
    latchCause cause s = s := by simp [latchCause, h]

theorem hasCause_addCause (c : CauseSet) (a b : TripCause) :
    hasCause (addCause c a) b = (hasCause c b || decide (b = a)) := by
  cases a <;> cases b <;> simp [hasCause, addCause]

@[simp] theorem fillTrip_tc (cause : TripCause) (s : State) : (fillTrip cause s).tc = s.tc := by
  unfold fillTrip; split <;> simp

/-- A cause latched is in the set, whatever the trip state was. -/
theorem latchCause_causes (cause : TripCause) (s : State) :
    hasCause (latchCause cause s).tc.causes cause = true := by
  unfold latchCause
  split
  · assumption
  · split <;> simp [hasCause_addCause]

/-- After a new cause the station is TRIPPED_LOCAL. -/
theorem latchCause_trip (cause : TripCause) (s : State) (h : hasCause s.tc.causes cause = false) :
    (latchCause cause s).tc.trip = .trippedLocal := by
  unfold latchCause
  rw [if_neg (by simp [h])]
  split <;> simp_all

theorem rearmIfUnlocked_tc (s : State) (h : lockHeld s.tb.lock = false) : (rearmIfUnlocked s).tc = unlockedTrip s.tc := by
  unfold rearmIfUnlocked unlockedTrip
  by_cases hr : s.tc.trip = .rearm
  · simp [hr, h, enterArmed]
  · simp [hr]

/-! ### Channels (R72, R83, R85) -/

theorem refreshChannel_setting (n : Nat) (c : ChannelState) : (refreshChannel n c).setting = c.setting := rfl

theorem refreshChannel_request (n : Nat) (c : ChannelState) :
    (refreshChannel n c).request = requestOf c.setting n := rfl

/-- What a command leaves the hold count at: all that `settleHold` does. -/
theorem settleHold_law (c : ChannelState) : stageLaw (settleHold c) := rfl

theorem refreshChannel_law (n : Nat) (c : ChannelState) : stageLaw (refreshChannel n c) := rfl

theorem applyChannel_law (n : Nat) (d : ChannelSetting) (c : ChannelState) : stageLaw (applyChannel n d c) := rfl

theorem advanceHold_law (deadTime : Nat) (c : ChannelState) : stageLaw (advanceHold deadTime c) := by
  simp [stageLaw, advanceHold]

/-- All that an apply point does to a channel (R75, R79, R83). -/
theorem applyChannel_applied (n : Nat) (d : ChannelSetting) (c : ChannelState) :
    ChannelApplied n d c (applyChannel n d c) := by
  constructor <;> simp_all [applyChannel, settleHold, requestOf]

/-- A request formed afresh is that of the channel's own setting applied again (R83). -/
theorem refreshChannel_applied (n : Nat) (c : ChannelState) : ChannelApplied n c.setting c (refreshChannel n c) := by
  have h : refreshChannel n c = applyChannel n c.setting c := by simp [refreshChannel, applyChannel]
  exact h ▸ applyChannel_applied n c.setting c

/-- A request taken back within its count restarts nothing. -/
theorem refreshChannel_twice (n m : Nat) (c : ChannelState) :
    refreshChannel n (refreshChannel m c) = refreshChannel n c := rfl

theorem channelOf_mapChannel (ch : Channel) (f : ChannelState → ChannelState) (p : ChannelUnit) (j : Channel) :
    channelOf (mapChannel ch f p) j = if j = ch then f (channelOf p j) else channelOf p j := by
  cases ch <;> cases j <;> rfl

/-- The two sides of one channel are never on together. -/
theorem channel_sides_exclusive (deadTime : Nat) (c : ChannelState) :
    ¬(sideOn deadTime c .high = true ∧ sideOn deadTime c .low = true) := by
  cases h : c.request <;> simp [sideOn, h]

/-! ### Re-basing and leaving the line (R10, R15, R18, R33) -/

/-- Re-basing moves the output position and the requests, and no setting or flag of PCU. -/
theorem rebase_pcu (s : State) :
    (rebase s).pcu = { s.pcu with u := (rebase s).pcu.u, v := (rebase s).pcu.v, w := (rebase s).pcu.w } := by
  unfold rebase
  cases h : s.config <;> simp [refreshChannels, h]

/-- All that re-basing does to TB's output position (R10, R15, R18, R66). -/
theorem rebase_outputRebased (cfg : ConfigRecord) (s : State) (h : s.config = some cfg) (hl : 0 < carrierLength cfg) :
    outputRebased cfg (rebase s).tb := by
  have := Int.emod_nonneg (((s.tb.position + countsPast s.tb : Nat) - s.tb.current : Int))
    (b := (carrierLength cfg : Int)) (by omega)
  simp only [rebase, h, refreshChannels_frame, mapTb_tb, outputRebased, countsPast] at *
  exact ⟨by omega, by simp⟩

theorem rebase_settings (s : State) :
    (rebase s).pcu.u.setting = s.pcu.u.setting ∧ (rebase s).pcu.v.setting = s.pcu.v.setting ∧
      (rebase s).pcu.w.setting = s.pcu.w.setting := by
  unfold rebase
  cases h : s.config <;> simp [refreshChannels, h, refreshChannel_setting]

/-- Leaving the line empties MC's state but for the station state it enters. -/
theorem leaveLine_mc (keepLeave : Bool) (to_ : StationState) (s : State) :
    (leaveLine keepLeave to_ s).mc = leftMembership to_ s.mc := by
  unfold leaveLine freeTb leaveMu leavePcu
  cases keepLeave <;> simp [emptyMcSlots, removeBeacon, leftMembership]

/-- Leaving the line turns the outputs off, whatever the state it is for. -/
theorem leaveLine_output (keepLeave : Bool) (to_ : StationState) (s : State) (h : slotState to_ = false) :
    (leaveLine keepLeave to_ s).pcu.output = .off ∧ (leaveLine keepLeave to_ s).pcu.run = false := by
  unfold leaveLine freeTb
  constructor
  · unfold rearmIfUnlocked
    have hg : ∀ u : State, u.mc.station = to_ → gateOpen u = false := fun u hu => by simp [gateOpen, hu, h]
    split
    · unfold enterArmed
      exact regate_closed _ (hg _ (by simp [leaveMu, leavePcu, leftMembership]))
    · exact regate_closed _ (hg _ (by simp [leaveMu, leavePcu, leftMembership]))
  · simp [leaveMu, leavePcu]

end Sys2Proof.Machine
end

