-- ==== Sys2Proof/Laws/FrameTick.lean ====
section
/-! SUPPORT. What one count does: the blocks each part of it leaves alone, and which commands fall on it from which part. -/

namespace Sys2Proof.Machine

/-! ### The orders of one count (log 3) -/

theorem mem_takeGroups (i : Instr) : ∀ (fuel n : Nat) (groups : List (List Instr)), groups.length ≤ fuel →
    (i ∈ takeGroups fuel n groups ↔ ∃ g ∈ groups, i ∈ g) := by
  intro fuel
  induction fuel with
  | zero => intro n groups h; simp at h; subst h; simp [takeGroups]
  | succ k ih =>
    intro n groups h
    simp only [takeGroups, List.mem_append]
    rcases Nat.eq_zero_or_pos groups.length with h0 | hpos
    · obtain rfl := List.length_eq_zero_iff.1 h0
      simpa using ih (n / 0) [] (by simp)
    · have hm : n % groups.length < groups.length := Nat.mod_lt _ hpos
      rw [ih _ _ (by rw [List.length_eraseIdx]; simp [hm]; omega), List.getD_eq_getElem _ _ hm]
      constructor
      · rintro (h1 | ⟨g, hg, h1⟩)
        · exact ⟨_, List.getElem_mem hm, h1⟩
        · exact ⟨g, List.mem_of_mem_eraseIdx hg, h1⟩
      · rintro ⟨g, hg, h1⟩
        obtain ⟨j, hj, rfl⟩ := List.getElem_of_mem hg
        by_cases hjm : j = n % groups.length
        · subst hjm; exact .inl h1
        · exact .inr ⟨groups[j], List.mem_eraseIdx_iff_getElem.2 ⟨j, hj, hjm, rfl⟩, h1⟩

/-- Whatever the order, the queue of a count holds the commands of its groups and no others. -/
theorem mem_arrange (i : Instr) (now : Nat) (groups : List (List Instr)) :
    i ∈ arrange now groups ↔ ∃ g ∈ groups, i ∈ g := by
  unfold arrange
  split
  · simp
  · exact mem_takeGroups i _ _ _ le_rfl

/-! ### What the parts of a count leave alone -/

/-- The pins' part changes the pins, the count and the stimulus alone. -/
@[simp] theorem pinTick_frame (s : State) :
    (pinTick s).2.pending = s.pending ∧ (pinTick s).2.now = s.now + 1 ∧ (pinTick s).2.sid = s.sid ∧
    (pinTick s).2.config = s.config ∧ (pinTick s).2.tb = s.tb ∧ (pinTick s).2.mc = s.mc ∧ (pinTick s).2.pcu = s.pcu ∧
    (pinTick s).2.tc = s.tc ∧ (pinTick s).2.lc = s.lc ∧ (pinTick s).2.mu = s.mu ∧ (pinTick s).2.lp = s.lp ∧
    (pinTick s).2.pins.lrx = (nextPins s).lrx ∧ (pinTick s).2.pins.seln = (nextPins s).seln ∧
    (pinTick s).2.pins.sck = (nextPins s).sck ∧ (pinTick s).2.pins.sdi = (nextPins s).sdi := by
  simp [pinTick]

/-- The time part changes TB, MC and PCU alone. -/
theorem timePart_frame (s : State) :
    (timePart s).2 = { s with tb := (timePart s).2.tb, mc := (timePart s).2.mc, pcu := (timePart s).2.pcu } := by
  unfold timePart
  simp only []
  split
  · rfl
  · unfold timeTick channelTick
    simp only []
    split <;> rfl

@[simp] theorem receiverSample_frame (s : State) :
    (receiverSample s).2 = { s with lc := (receiverSample s).2.lc } := by
  unfold receiverSample; (repeat' split) <;> rfl

@[simp] theorem senderSample_frame (bits : List Bool) (index : Nat) (bit : Bool) (s : State) :
    (senderSample bits index bit s).2 = { s with lc := (senderSample bits index bit s).2.lc } := by
  unfold senderSample; (repeat' split) <;> rfl

@[simp] theorem frameSample_frame (bit : Bool) (s : State) :
    (frameSample bit s).2 = { s with lc := (frameSample bit s).2.lc } := by
  unfold frameSample
  split
  · rfl
  · simp only []
    split
    · rw [senderSample_frame]; rfl
    · rw [receiverSample_frame]; rfl

@[simp] theorem sampleBit_frame (bit : Bool) (s : State) : (sampleBit bit s).2 = { s with lc := (sampleBit bit s).2.lc } := by
  unfold sampleBit
  simp only []
  split
  · rfl
  · rfl
  · rw [frameSample_frame]; rfl

/-- The line's part changes LC alone. -/
theorem lineTick_frame (s : State) : (lineTick s).2 = { s with lc := (lineTick s).2.lc } := by
  unfold lineTick
  simp only []
  split
  · split
    · rw [sampleBit_frame]; rfl
    · rfl
  · split
    · rw [sampleBit_frame]; rfl
    · rfl

/-- The port's part changes LP alone. -/
theorem portTick_frame (s : State) : (portTick s).2 = { s with lp := (portTick s).2.lp } := rfl

/-! ### Which commands fall on a count -/

/-- The part of a count that brings a command: the pins 0, the time base 1, the line 2, the local port 3. -/
def rowGroup : Instr → Nat
  | .fltnFall | .fltnRise | .tripnLow | .tripnHigh => 0
  | .beaconDeadline | .outputCarrierStart | .epochBoundary | .listenTimerExpiry | .candidateFillPoint | .statusFill _
  | .missedBeacon | .peak | .compareMatch _ | .mailCompletion => 1
  | .lineRaised | .lineInactive | .framerIdle | .frameStartSeen | .startOpportunity | .arbitrationLost | .arbitrationPassed
  | .beaconMarker | .frameSuccess _ _ | .transmitFailure | .refusalBitSampled | .joinLeaveReplyComplete _ _ _ _
  | .frameDiscarded _ | .tripFrameReceived _ _ _ | .beaconReceived _ _ | .joinReceived _ _ | .leaveReceived _
  | .statusReceived _ _ | .mailReceived _ _ _ | .mailForOtherDestination _ => 2
  | _ => 3

/-- All commands of a list fall on a count from one part of it. -/
def rowsOf (part : Nat) (rows : List Instr) : Prop := ∀ i ∈ rows, rowGroup i = part

theorem rowsOf_nil (part : Nat) : rowsOf part [] := by simp [rowsOf]

theorem rowsOf_cons (part : Nat) (i : Instr) (rows : List Instr) :
    rowsOf part (i :: rows) ↔ rowGroup i = part ∧ rowsOf part rows := by
  unfold rowsOf; exact List.forall_mem_cons

theorem rowsOf_append (part : Nat) (a b : List Instr) : rowsOf part (a ++ b) ↔ rowsOf part a ∧ rowsOf part b := by
  unfold rowsOf; exact List.forall_mem_append

theorem mem_rowIf (i j : Instr) (c : Bool) : i ∈ rowIf c j ↔ c = true ∧ i = j := by
  cases c <;> simp [rowIf]

theorem rowsOf_rowIf (part : Nat) (c : Bool) (i : Instr) : rowsOf part (rowIf c i) ↔ (c = true → rowGroup i = part) := by
  cases c <;> simp [rowIf, rowsOf]

theorem rowsOf_matches (chs : List Channel) : rowsOf 1 (chs.map .compareMatch) := by
  intro i hi
  obtain ⟨ch, _, rfl⟩ := List.mem_map.1 hi
  rfl

theorem pinTick_rows (s : State) : rowsOf 0 (pinTick s).1 := by
  simp only [pinTick, pinRows, fltnRows, tripnRows]
  (repeat' split) <;> simp [rowsOf_append, rowsOf_cons, rowsOf_nil, rowsOf_rowIf, rowGroup]

theorem carrierRows_rows (cfg : ConfigRecord) (c : Nat) (s : State) : rowsOf 1 (carrierRows cfg c s) := by
  simp [carrierRows, rowsOf_append, rowsOf_rowIf, rowGroup]

theorem boundaryAndStart_rows (now : Nat) (boundary start : Bool) (rest : List Instr) (h : rowsOf 1 rest) :
    rowsOf 1 (boundaryAndStart now boundary start rest) := by
  unfold boundaryAndStart
  split <;> simp [rowsOf_append, rowsOf_cons, rowsOf_rowIf, rowGroup, h]

theorem timePart_rows (s : State) : rowsOf 1 (timePart s).1 := by
  unfold timePart
  simp only []
  split
  · exact rowsOf_nil 1
  · unfold timeTick channelTick
    simp only [rowsOf_append]
    refine ⟨⟨⟨(rowsOf_rowIf _ _ _).2 fun _ => rfl, boundaryAndStart_rows _ _ _ _ ?_⟩, (rowsOf_rowIf _ _ _).2 fun _ => rfl⟩, rowsOf_matches _⟩
    split
    · exact rowsOf_nil 1
    · exact carrierRows_rows _ _ _

theorem deliveryOf_row (own : StationId) (kind : Nat) (src : StationId) (payload : List Byte) (c : Instr)
    (h : deliveryOf own kind src payload = some c) : rowGroup c = 2 := by
  unfold deliveryOf at h
  split at h
  · split at h <;> cases h; rfl
  · split at h
    · obtain ⟨_, _, rfl⟩ := Option.map_eq_some_iff.1 h; rfl
    · split at h
      · split at h <;> cases h; rfl
      · split at h
        · cases h; rfl
        · split at h
          · split at h <;> cases h; rfl
          · split at h
            · split at h
              · split at h <;> (cases h; rfl)
              · cases h
            · cases h

theorem endOfChecks_row (own : StationId) (kind : Nat) (src : StationId) (payload : List Byte) (good : Bool) :
    rowGroup (endOfChecks own kind src payload good) = 2 := by
  unfold endOfChecks
  split
  · rfl
  · split
    · rfl
    · cases h : deliveryOf own kind src payload with
      | none => rfl
      | some c => exact deliveryOf_row _ _ _ _ _ h

theorem receiverSample_rows (s : State) : rowsOf 2 (receiverSample s).1 := by
  unfold receiverSample
  (repeat' split) <;> simp [rowsOf_cons, rowsOf_nil, endOfChecks_row] <;> rfl

theorem senderSample_rows (bits : List Bool) (index : Nat) (bit : Bool) (s : State) :
    rowsOf 2 (senderSample bits index bit s).1 := by
  unfold senderSample
  (repeat' split) <;> first | exact rowsOf_nil 2 | exact (rowsOf_rowIf _ _ _).2 fun _ => rfl

theorem frameSample_rows (bit : Bool) (s : State) : rowsOf 2 (frameSample bit s).1 := by
  unfold frameSample
  split
  · exact rowsOf_nil 2
  · simp only []
    split
    · exact senderSample_rows _ _ _ _
    · exact receiverSample_rows _

theorem sampleBit_rows (bit : Bool) (s : State) : rowsOf 2 (sampleBit bit s).1 := by
  unfold sampleBit
  simp only [rowsOf_append]
  refine ⟨(rowsOf_rowIf _ _ _).2 fun _ => rfl, ?_⟩
  generalize mapLc _ s = u
  cases hu : u.lc.framer
  · exact (rowsOf_rowIf _ _ _).2 fun _ => rfl
  · exact rowsOf_nil 2
  · exact frameSample_rows _ _

theorem boundaryRows_rows (s : State) : rowsOf 2 (boundaryRows s) := by
  unfold boundaryRows replyRows
  (repeat' split) <;> simp [rowsOf_append, rowsOf_cons, rowsOf_nil, rowsOf_rowIf, rowGroup]

theorem idleRows_rows (level : Bool) (s : State) : rowsOf 2 (idleRows level s) := by
  unfold idleRows
  simp only []
  (repeat' split) <;> simp [rowsOf_append, rowsOf_nil, rowsOf_rowIf, rowGroup]

theorem lineTick_rows (s : State) : rowsOf 2 (lineTick s).1 := by
  unfold lineTick monitorTick
  simp only [rowsOf_append]
  refine ⟨⟨⟨(rowsOf_rowIf _ _ _).2 fun _ => rfl, ?_⟩, idleRows_rows _ _⟩, ?_⟩
  · split
    · exact boundaryRows_rows _
    · exact rowsOf_nil 2
  · (repeat' split) <;> first | exact sampleBit_rows _ _ | exact rowsOf_nil 2

theorem commandOfCode_row (code : Byte) (payload : List Byte) : rowGroup (commandOfCode code payload) = 3 := by
  unfold commandOfCode
  split <;> rfl

theorem commandOfWindow_row (bytes : List Byte) (c : Instr) (h : commandOfWindow bytes = some c) : rowGroup c = 3 := by
  unfold commandOfWindow at h
  split at h
  · split at h
    · cases h; rfl
    · split at h
      · cases h
      · simp only [] at h
        split at h <;> cases h
        · exact commandOfCode_row _ _
        · rfl
  · cases h

theorem portTick_rows (s : State) : rowsOf 3 (portTick s).1 := by
  have hw : ∀ bytes, rowsOf 3 (commandOfWindow bytes).toList := fun bytes i hi =>
    commandOfWindow_row bytes i (by simpa using hi)
  unfold portTick
  simp only [rowsOf_append]
  constructor
  · unfold selectTick
    split <;> simp [rowsOf_cons, rowsOf_nil, rowGroup]
  · have hr : rowsOf 3 (risingEdge s.pins.sdi (selectTick s.pins.seln s.lp).2).1 := by
      unfold risingEdge
      split
      · simp only []
        split
        · exact hw _
        · exact rowsOf_nil 3
      · split <;> exact rowsOf_nil 3
      · exact rowsOf_nil 3
    (repeat' split) <;> first | exact rowsOf_nil 3 | exact hr

/-! ### One count with RESETN high -/

theorem step_of_oneCount (s : State) (h : oneCount s) : step s = .next (runningTick s) := by
  obtain ⟨h1, h2, h3⟩ := h
  simp [step, h1, tick, h2, h3]

/-- One count completes no mail and makes no receipt. -/
theorem headLeaves_of_count (s : State) (rows : List Instr) :
    headLeaves (freshMail rows (portTick (lineTick (timePart (pinTick s).2).2).2).2.mu) = headLeaves s.mu := by
  rw [portTick_frame, lineTick_frame, timePart_frame]
  simp only [headLeaves, freshMail, pinTick_frame]

/-- The queue of a count: each command falls on it from its own part. -/
theorem mem_runningTick (i : Instr) (s : State) :
    i ∈ (runningTick s).pending ↔
      i ∈ (pinTick s).1 ∨ i ∈ (timePart (pinTick s).2).1 ∨ (headLeaves s.mu = true ∧ i = .mailCompletion) ∨
        i ∈ (lineTick (timePart (pinTick s).2).2).1 ∨ i ∈ (portTick (lineTick (timePart (pinTick s).2).2).2).1 := by
  have hm := headLeaves_of_count s (lineTick (timePart (pinTick s).2).2).1
  simp only [runningTick, mem_arrange, List.mem_cons, List.not_mem_nil, or_false, exists_eq_or_imp, exists_eq_left,
    List.mem_append, mem_rowIf, mapMu, hm, or_assoc]

end Sys2Proof.Machine
end

