-- ==== Sys2Proof/WellFormed.lean ====
section
/-! DEFINITION. Which commands are well formed: those the outside world can bring. A command frame holds at most 16
payload bytes (R135); an unknown code is none of 10.3 (R138); a frame error has a CRC byte that is not its body's (R137); an
overflowing length is above 16 (R137); a window that closed early held no whole command (R135); mail carries 1 to 8 data
bytes (R114); a STATUS fill is decided at a carrier index of an epoch, 0 to 63 (R29). -/

namespace Sys2Proof

/-- At most 16 payload bytes (R135). -/
def Instr.payloadFits (payload : List Byte) : Bool := payload.length ≤ 16

/-- Whether a code is one of 10.3. -/
def Instr.knownCode (code : Byte) : Bool :=
  match Machine.commandOfCode code [] with
  | .unknownCommand _ _ => false
  | _ => true

/-- Whether a command is well formed. -/
def Instr.wellFormed : Instr → Bool
  | .hardwareReset _ _ => true
  | .loadConfig p => payloadFits p
  | .start p => payloadFits p
  | .leave p => payloadFits p
  | .restart p => payloadFits p
  | .run p => payloadFits p
  | .halt p => payloadFits p
  | .setDuty p => payloadFits p
  | .cancelTimed p => payloadFits p
  | .forceTrip p => payloadFits p
  | .clearTrip p => payloadFits p
  | .postMail p => payloadFits p
  | .takeMail p => payloadFits p
  | .takeReceipt p => payloadFits p
  | .readStatus p => payloadFits p
  | .readRoster p => payloadFits p
  | .readEpoch p => payloadFits p
  | .readTrip p => payloadFits p
  | .readConfig p => payloadFits p
  | .readEvents p => payloadFits p
  | .setEventMask p => payloadFits p
  | .unknownCommand code p => !knownCode code && payloadFits p
  | .frameError body crc => 2 ≤ body.length && body.length ≤ 18 && crc != Machine.crc8 body
  | .commandLengthOverflow _ length => 16 < length.toNat
  | .windowClosedEarly bytes => (Machine.commandOfWindow bytes).isNone
  | .epochBoundary => true
  | .peerLostBySilence _ => true
  | .handoverTimeout => true
  | .leaveTimeout => true
  | .leaveRefill => true
  | .joinRefill => true
  | .admissionWaitExpiry => true
  | .joinFailure => true
  | .listenTimerExpiry => true
  | .statusFill carrier => carrier < 64
  | .candidateFillPoint => true
  | .beaconDeadline => true
  | .outputCarrierStart => true
  | .peak => true
  | .pendingRecordApply => true
  | .timedRecordDue _ => true
  | .dueRecordApply => true
  | .outputActiveEntry => true
  | .missedBeacon => true
  | .holdoverExpiry => true
  | .electionStart => true
  | .beaconMarker => true
  | .beaconReceived _ _ => true
  | .joinReceived _ _ => true
  | .joinLeaveReplyComplete _ _ _ _ => true
  | .statusReceived _ _ => true
  | .mailReceived _ _ data => 1 ≤ data.length && data.length ≤ 8
  | .tripFrameReceived _ _ _ => true
  | .frameDiscarded _ => true
  | .framerIdle => true
  | .startOpportunity => true
  | .arbitrationLost => true
  | .arbitrationPassed => true
  | .frameSuccess _ _ => true
  | .transmitFailure => true
  | .isolation => true
  | .mailRetry => true
  | .mailCompletion => true
  | .lineRaised => true
  | .lineInactive => true
  | .fltnFall => true
  | .fltnRise => true
  | .tripnLow => true
  | .tripnHigh => true
  | .rearm => true
  | .frameStartSeen => true
  | .refusalBitSampled => true
  | .mailForOtherDestination _ => true
  | .leaveReceived _ => true
  | .compareMatch _ => true
  | .deadTimeExpiry _ => true

end Sys2Proof
end

