-- ==== Sys2Proof/Laws/PerInstr.lean ====
section
/-! SUPPORT. The family `Payload`, one lemma per command: a well-formed command brings the local port at most 16 payload
bytes (R135). -/

namespace Sys2Proof.Laws.Payload

/-- The payload bytes that a command brings the local port; none for a command from elsewhere. The body of a
FRAME_ERROR is its code, its length and its payload (R137). -/
def bytes : Instr → List Byte
  | .loadConfig p => p
  | .start p => p
  | .leave p => p
  | .restart p => p
  | .run p => p
  | .halt p => p
  | .setDuty p => p
  | .cancelTimed p => p
  | .forceTrip p => p
  | .clearTrip p => p
  | .postMail p => p
  | .takeMail p => p
  | .takeReceipt p => p
  | .readStatus p => p
  | .readRoster p => p
  | .readEpoch p => p
  | .readTrip p => p
  | .readConfig p => p
  | .readEvents p => p
  | .setEventMask p => p
  | .unknownCommand _ p => p
  | .frameError body _ => body.drop 2
  | _ => []

/-- A well-formed command brings at most 16 payload bytes. -/
def Statement (i : Instr) : Prop := i.wellFormed = true → (bytes i).length ≤ 16

theorem hardwareReset (sid : StationId) (fltn : Bool) : Statement (.hardwareReset sid fltn) := fun _ => Nat.zero_le _

theorem loadConfig (payload : List Byte) : Statement (.loadConfig payload) :=
  fun h => of_decide_eq_true h

theorem start (payload : List Byte) : Statement (.start payload) :=
  fun h => of_decide_eq_true h

theorem leave (payload : List Byte) : Statement (.leave payload) :=
  fun h => of_decide_eq_true h

theorem restart (payload : List Byte) : Statement (.restart payload) :=
  fun h => of_decide_eq_true h

theorem run (payload : List Byte) : Statement (.run payload) :=
  fun h => of_decide_eq_true h

theorem halt (payload : List Byte) : Statement (.halt payload) :=
  fun h => of_decide_eq_true h

theorem setDuty (payload : List Byte) : Statement (.setDuty payload) :=
  fun h => of_decide_eq_true h

theorem cancelTimed (payload : List Byte) : Statement (.cancelTimed payload) :=
  fun h => of_decide_eq_true h

theorem forceTrip (payload : List Byte) : Statement (.forceTrip payload) :=
  fun h => of_decide_eq_true h

theorem clearTrip (payload : List Byte) : Statement (.clearTrip payload) :=
  fun h => of_decide_eq_true h

theorem postMail (payload : List Byte) : Statement (.postMail payload) :=
  fun h => of_decide_eq_true h

theorem takeMail (payload : List Byte) : Statement (.takeMail payload) :=
  fun h => of_decide_eq_true h

theorem takeReceipt (payload : List Byte) : Statement (.takeReceipt payload) :=
  fun h => of_decide_eq_true h

theorem readStatus (payload : List Byte) : Statement (.readStatus payload) :=
  fun h => of_decide_eq_true h

theorem readRoster (payload : List Byte) : Statement (.readRoster payload) :=
  fun h => of_decide_eq_true h

theorem readEpoch (payload : List Byte) : Statement (.readEpoch payload) :=
  fun h => of_decide_eq_true h

theorem readTrip (payload : List Byte) : Statement (.readTrip payload) :=
  fun h => of_decide_eq_true h

theorem readConfig (payload : List Byte) : Statement (.readConfig payload) :=
  fun h => of_decide_eq_true h

theorem readEvents (payload : List Byte) : Statement (.readEvents payload) :=
  fun h => of_decide_eq_true h

theorem setEventMask (payload : List Byte) : Statement (.setEventMask payload) :=
  fun h => of_decide_eq_true h

theorem unknownCommand (code : Byte) (payload : List Byte) : Statement (.unknownCommand code payload) :=
  fun h => of_decide_eq_true ((Bool.and_eq_true _ _).mp h).2

theorem frameError (body : List Byte) (crc : Byte) : Statement (.frameError body crc) := by
  intro h
  simp only [Instr.wellFormed, Bool.and_eq_true, decide_eq_true_eq] at h
  simp only [bytes, List.length_drop]
  omega

theorem commandLengthOverflow (code length : Byte) : Statement (.commandLengthOverflow code length) :=
  fun _ => Nat.zero_le _

theorem windowClosedEarly (bytes : List Byte) : Statement (.windowClosedEarly bytes) := fun _ => Nat.zero_le _

theorem epochBoundary : Statement .epochBoundary := fun _ => Nat.zero_le _

theorem peerLostBySilence (id : StationId) : Statement (.peerLostBySilence id) := fun _ => Nat.zero_le _

theorem handoverTimeout : Statement .handoverTimeout := fun _ => Nat.zero_le _

theorem leaveTimeout : Statement .leaveTimeout := fun _ => Nat.zero_le _

theorem leaveRefill : Statement .leaveRefill := fun _ => Nat.zero_le _

theorem joinRefill : Statement .joinRefill := fun _ => Nat.zero_le _

theorem admissionWaitExpiry : Statement .admissionWaitExpiry := fun _ => Nat.zero_le _

theorem joinFailure : Statement .joinFailure := fun _ => Nat.zero_le _

theorem listenTimerExpiry : Statement .listenTimerExpiry := fun _ => Nat.zero_le _

theorem statusFill (carrier : Nat) : Statement (.statusFill carrier) := fun _ => Nat.zero_le _

theorem candidateFillPoint : Statement .candidateFillPoint := fun _ => Nat.zero_le _

theorem beaconDeadline : Statement .beaconDeadline := fun _ => Nat.zero_le _

theorem outputCarrierStart : Statement .outputCarrierStart := fun _ => Nat.zero_le _

theorem peak : Statement .peak := fun _ => Nat.zero_le _

theorem pendingRecordApply : Statement .pendingRecordApply := fun _ => Nat.zero_le _

theorem timedRecordDue (epoch : EpochNumber) : Statement (.timedRecordDue epoch) := fun _ => Nat.zero_le _

theorem dueRecordApply : Statement .dueRecordApply := fun _ => Nat.zero_le _

theorem outputActiveEntry : Statement .outputActiveEntry := fun _ => Nat.zero_le _

theorem missedBeacon : Statement .missedBeacon := fun _ => Nat.zero_le _

theorem holdoverExpiry : Statement .holdoverExpiry := fun _ => Nat.zero_le _

theorem electionStart : Statement .electionStart := fun _ => Nat.zero_le _

theorem beaconMarker : Statement .beaconMarker := fun _ => Nat.zero_le _

theorem beaconReceived (src : StationId) (beacon : Beacon) : Statement (.beaconReceived src beacon) :=
  fun _ => Nat.zero_le _

theorem joinReceived (src : StationId) (request : JoinRequest) : Statement (.joinReceived src request) :=
  fun _ => Nat.zero_le _

theorem joinLeaveReplyComplete (src : StationId) (kind : ReplyKind) (ack refuse : Bool) :
    Statement (.joinLeaveReplyComplete src kind ack refuse) :=
  fun _ => Nat.zero_le _

theorem statusReceived (src : StationId) (status : StatusReport) : Statement (.statusReceived src status) :=
  fun _ => Nat.zero_le _

theorem mailReceived (src : StationId) (ticket : Byte) (data : List Byte) : Statement (.mailReceived src ticket data) :=
  fun _ => Nat.zero_le _

theorem tripFrameReceived (src : StationId) (cause : Byte) (epoch : EpochNumber) : Statement (.tripFrameReceived src cause epoch) :=
  fun _ => Nat.zero_le _

theorem frameDiscarded (why : FrameFault) : Statement (.frameDiscarded why) := fun _ => Nat.zero_le _

theorem framerIdle : Statement .framerIdle := fun _ => Nat.zero_le _

theorem startOpportunity : Statement .startOpportunity := fun _ => Nat.zero_le _

theorem arbitrationLost : Statement .arbitrationLost := fun _ => Nat.zero_le _

theorem arbitrationPassed : Statement .arbitrationPassed := fun _ => Nat.zero_le _

theorem frameSuccess (ack refuse : Bool) : Statement (.frameSuccess ack refuse) := fun _ => Nat.zero_le _

theorem transmitFailure : Statement .transmitFailure := fun _ => Nat.zero_le _

theorem isolation : Statement .isolation := fun _ => Nat.zero_le _

theorem mailRetry : Statement .mailRetry := fun _ => Nat.zero_le _

theorem mailCompletion : Statement .mailCompletion := fun _ => Nat.zero_le _

theorem lineRaised : Statement .lineRaised := fun _ => Nat.zero_le _

theorem lineInactive : Statement .lineInactive := fun _ => Nat.zero_le _

theorem fltnFall : Statement .fltnFall := fun _ => Nat.zero_le _

theorem fltnRise : Statement .fltnRise := fun _ => Nat.zero_le _

theorem tripnLow : Statement .tripnLow := fun _ => Nat.zero_le _

theorem tripnHigh : Statement .tripnHigh := fun _ => Nat.zero_le _

theorem rearm : Statement .rearm := fun _ => Nat.zero_le _

theorem frameStartSeen : Statement .frameStartSeen := fun _ => Nat.zero_le _

theorem refusalBitSampled : Statement .refusalBitSampled := fun _ => Nat.zero_le _

theorem mailForOtherDestination (src : StationId) : Statement (.mailForOtherDestination src) := fun _ => Nat.zero_le _

theorem leaveReceived (src : StationId) : Statement (.leaveReceived src) := fun _ => Nat.zero_le _

theorem compareMatch (channel : Channel) : Statement (.compareMatch channel) := fun _ => Nat.zero_le _

theorem deadTimeExpiry (channel : Channel) : Statement (.deadTimeExpiry channel) := fun _ => Nat.zero_le _

end Sys2Proof.Laws.Payload
end

