-- ==== Sys2Proof/Tests/Slice0.lean ====
section
/-! SUPPORT. The model's own tests: the checks of WellFormed, the manual's tables and worked examples, one step at a time, and
for every statement concrete states and operands that meet its hypotheses. -/

namespace Sys2Proof.Tests

/- The proofs below are kernel evaluations; one after another, they need one thread. -/
set_option Elab.async false

open Sys2Proof Sys2Proof.Machine

/-! ### States to test on -/

/-- The configuration of the worked examples of chapters 1, 4 and 5: EDGE, P = 2,000, E = 16, W = 20, SLEW_MAX = 40 (1.8). -/
def cfgA : ConfigRecord :=
  { mode := .edge, period := 2000, length := .e16, deadTime := 4, slewMax := 40, window := 20, holdoverEpochs := 3
    lossEpochs := 3, listenEpochs := 2, lineDelay := 4, polHigh := true, polLow := true, applyAtPeak := false }

/-- A CENTRE configuration at its least period, with peaks as apply points. -/
def cfgC : ConfigRecord := { cfgA with mode := .centre, period := 600, applyAtPeak := true }

/-- Station 9 in a station state, with a configuration accepted and its transmitter on. -/
def at_ (station : StationState) : State :=
  { State.reset with
    sid := 9
    config := some cfgA
    mc := { Membership.reset with station := station }
    lc := { LineController.reset with txOn := true } }

/-- The mask {2, 5, 9} (1.8). -/
def mask259 : MemberMask := 0x224

/-- Station 9 with a slot under the mask {2, 5, 9}, in LOCKED, under a reference. -/
def inGroup (station : StationState) (role : Role) (reference : Option StationId) : State :=
  { at_ station with
    mc :=
      { Membership.reset with
        station := station
        role := role
        roster := ((Vector.replicate 32 RosterEntry.blank).set 2 { RosterEntry.blank with state := .member }).set 5
          { RosterEntry.blank with state := .joining }
        record := some
          { epoch := 412, mask := mask259, reference := reference, slot := some (slotIn cfgA mask259 9), handover := false } }
    tb := { TimeBase.reset with lock := .locked, inWindow := 2, epoch := 412 } }

/-- A follower of reference 2. -/
def follower : State := inGroup .member .follower (some 2)

/-- The reference. -/
def reference : State := inGroup .member .reference (some 9)

/-- A candidate of the group of reference 2. -/
def candidate : State :=
  let s := inGroup .member .candidate (some 2)
  { s with mc := { s.mc with election := some { carriers := 0, standing := some { rank := 1, count := 2 } } } }

/-- A LEAVING follower, and a LEAVING reference. -/
def leaver : State := inGroup .leaving .follower (some 2)

def leavingReference : State := inGroup .leaving .reference (some 9)

/-- The state after a command. -/
def after (c : Instr) (s : State) : State :=
  match exec c s with
  | .next t => t
  | .fault _ => s
  | .refused _ => s

/-- A mail of the outbound queue. -/
def mailTo (id : StationId) (attempts : Nat) (lost : Bool) (outcome : Option MailOutcome) : OutMail :=
  { destination := id, ticket := 57, data := [1, 0], attempts := attempts, destLost := lost, outcome := outcome }

/-- A station with mails queued, the head in flight, retried or waiting. -/
def mailing (inFlight retryDue : Bool) (queue : List OutMail) (s : State) : State :=
  { s with mu := { s.mu with queue := queue, inFlight := inFlight, retryDue := retryDue } }

/-- A station with an own frame on the line. -/
def sendingFrame (f : TxFrame) (s : State) : State :=
  { s with lc := { s.lc with onLine := some { frame := f, returnable := true, restarted := false, stale := false } } }

/-- A duty record of one compare value. -/
def duty (c : Nat) : DutySettings :=
  let one : ChannelSetting := { mode := .pwm, compare := c }
  { u := one, v := one, w := one }

/-- A station with a trip state and a cause set. -/
def tripped (trip : TripState) (pin line : Bool) (s : State) : State :=
  { s with tc := { s.tc with trip := trip, causes := { pin := pin, command := false, line := line } } }

/-- The response of the local port, but for its CRC byte. -/
def answerOf (s : State) : List Byte := s.lp.response.dropLast

/-! ### Well-formed commands -/

/-- A payload above 16 bytes is refused for every command that carries one (R135). -/
theorem test_payload_above_16_refused :
    [Instr.loadConfig, .start, .leave, .restart, .run, .halt, .setDuty, .cancelTimed, .forceTrip, .clearTrip, .postMail,
      .takeMail, .takeReceipt, .readStatus, .readRoster, .readEpoch, .readTrip, .readConfig, .readEvents, .setEventMask,
      .unknownCommand 0x77].all (fun c => c (List.replicate 16 0) |>.wellFormed) = true ∧
    [Instr.loadConfig, .start, .leave, .restart, .run, .halt, .setDuty, .cancelTimed, .forceTrip, .clearTrip, .postMail,
      .takeMail, .takeReceipt, .readStatus, .readRoster, .readEpoch, .readTrip, .readConfig, .readEvents, .setEventMask,
      .unknownCommand 0x77].any (fun c => c (List.replicate 17 0) |>.wellFormed) = false := by decide +kernel

theorem test_known_code_is_not_unknown : (Instr.unknownCommand 0x29 []).wellFormed = false := by decide +kernel

theorem test_frame_error_needs_a_bad_crc :
    (Instr.frameError [0x02, 0] (crc8 [0x02, 0])).wellFormed = false ∧ (Instr.frameError [0x02, 0] 0xFF).wellFormed = true ∧
      (Instr.frameError [0x02] 0xFF).wellFormed = false ∧
      (Instr.frameError (List.replicate 19 0) 0xFF).wellFormed = false := by decide +kernel

theorem test_overflow_needs_17 :
    (Instr.commandLengthOverflow 1 16).wellFormed = false ∧ (Instr.commandLengthOverflow 1 17).wellFormed = true := by
  decide +kernel

theorem test_closed_early_holds_no_command :
    (Instr.windowClosedEarly (commandFrame 0x02 [])).wellFormed = false ∧
      (Instr.windowClosedEarly [0x02, 0]).wellFormed = true := by decide +kernel

theorem test_status_fill_carrier_below_64 :
    (Instr.statusFill 64).wellFormed = false ∧ (Instr.statusFill 63).wellFormed = true := by decide +kernel

theorem test_mail_of_1_to_8_bytes :
    (Instr.mailReceived 1 0 []).wellFormed = false ∧ (Instr.mailReceived 1 0 (List.replicate 9 0)).wellFormed = false ∧
      (Instr.mailReceived 1 0 (List.replicate 8 0)).wellFormed = true := by decide +kernel

/-- No word spells a command: the table gives no bits. -/
theorem test_no_word_spells_a_command : decodeTableWord 16 0 = none ∧ State.reset.withFetchWord 16 0 = State.reset := by
  decide +kernel

/-! ### Tables and worked examples of the manual -/

/-- The codes of 10.1. -/
theorem test_shared_codes :
    [StationState.unconfigured, .configured, .listening, .joining, .member, .leaving, .isolated, .mismatch, .conflict].map
        (fun x => (stationCode x).toNat) = [0, 1, 2, 3, 4, 5, 6, 7, 8] ∧
      [Role.none, .follower, .candidate, .reference].map (fun x => (roleCode x).toNat) = [0, 1, 2, 3] ∧
      [LockState.free, .acquire, .locked, .holdover].map (fun x => (lockCode x).toNat) = [0, 1, 2, 3] ∧
      [TripState.armed, .trippedLocal, .trippedRemote, .rearm].map (fun x => (tripCode x).toNat) = [0, 1, 2, 3] ∧
      [OutputState.off, .standby, .active].map (fun x => (outputCode x).toNat) = [0, 1, 2] ∧
      [EntryState.absent, .joining, .member, .leaving, .lost].map (fun x => (entryCode x).toNat) = [0, 1, 2, 3, 4] ∧
      [EpochLength.e8, .e16, .e32, .e64].map (fun x => ((lengthCode x).toNat, carriersPerEpoch x)) =
        [(0, 8), (1, 16), (2, 32), (3, 64)] ∧
      [TripCause.pin, .command, .line].map (fun x => (causeCode x).toNat) = [1, 2, 3] ∧
      [MailOutcome.delivered, .refused, .undelivered].map (fun x => (outcomeCode x).toNat) = [1, 2, 3] ∧
      [FrameKind.trip, .beacon, .join, .leave, .status, .mail].map kindCode = [0, 1, 3, 4, 5, 6] := by decide +kernel

/-- The beacon of 10.5: its payload, and its 140 bit times with the start bit, the reply bits and 12 bits of idle. -/
theorem test_beacon_payload_of_10_5 :
    beaconBytes { epoch := 414, carrier := 0, position := 301, period := 2000, mode := .edge, length := .e16,
                  handover := false, mask := mask259 } =
      [0x01, 0x9E, 0x00, 0x01, 0x2D, 0x07, 0xD0, 0x20, 0x00, 0x00, 0x02, 0x24] ∧
    1 + (frameBits 2 (.beacon (beaconFrame cfgA mask259 false))).length + 2 + 12 = 140 := by decide +kernel

/-- The table of targets of R62, for L = 2,000. -/
theorem test_targets_of_r62 :
    [1#32, 0x3, 0x7, 0xF, 0x1F, 0x3F].map (fun m => (maskIds m).map fun id => (slotIn cfgA m id).target) =
      [[0], [0, 1000], [0, 666, 1333], [0, 500, 1000, 1500], [0, 400, 800, 1200, 1600],
        [0, 333, 666, 1000, 1333, 1666]] := by decide +kernel

/-- Marker samples of 1.8 and of the example of R7. -/
def sampleAt (epoch : EpochNumber) (carrier position : Nat) : MarkerSample :=
  { epoch := epoch, carrier := carrier, position := position, ahead := 0, stepsSince := 0, boundariesSince := 0 }

/-- A beacon of the configuration cfgA. -/
def beaconAt (epoch : EpochNumber) (carrier : Byte) (position : BitVec 16) (mask : MemberMask) : Beacon :=
  { beaconFrame cfgA mask false with epoch := epoch, carrier := carrier, position := position }

/-- The example of R7: E × L = 32,000, own sample epoch 101 at 5, the beacon epoch 100 at 31,990 with LINE_DELAY 0. -/
theorem test_wrap_example_of_r7 :
    measuredError { cfgA with lineDelay := 0 } (beaconAt 100 15 1990 mask259) (sampleAt 101 0 5) = -15 ∧
      adoptedEpoch { cfgA with lineDelay := 0 } (beaconAt 100 15 1990 mask259) (sampleAt 101 0 5) = 101 := by
  decide +kernel

/-- Step 1 of 1.8: station 9 LISTENING in FREE at epoch 7, 924 counts after its marker at (11, 1,742). -/
def listenerOf18 : State :=
  let s := at_ .listening
  { s with
    tb := { s.tb with epoch := 7, carrier := 12, position := 666, sample := some (sampleAt 7 11 1742) }
    mc := { s.mc with listenTimer := some 3 } }

theorem test_example_1_8_step_1 :
    let t := after (.beaconReceived 2 (beaconAt 412 0 310 0x24)) listenerOf18
    (t.tb.lock, t.tb.epoch, t.tb.carrier, t.tb.position, t.tb.outPos) = (.acquire, 412, 0, 1238, 1238) ∧
      (t.mc.station, t.mc.role, t.lc.slots.join.isSome, t.mc.listenTimer) = (.joining, .none, true, none) ∧
      t.mc.record = some { epoch := 412, mask := 0x24, reference := some 2, slot := none, handover := false } ∧
      t.lp.events = eventMask .membership ||| eventMask .referenceChanged := by decide +kernel

/-- Step 3 of 1.8: the beacon of epoch 414 admits station 9 and gives it LOCKED and the target 1,333. -/
def joinerOf18 : State :=
  let s := at_ .joining
  { s with
    tb := { s.tb with lock := .acquire, inWindow := 1, epoch := 414, position := 1231, sample := some (sampleAt 414 0 307) }
    mc := { s.mc with
      admission := { accepted := true, boundaries := 1 }
      record := some { epoch := 413, mask := 0x24, reference := some 2, slot := none, handover := false } } }

theorem test_example_1_8_step_3 :
    let t := after (.beaconReceived 2 (beaconAt 414 0 301 mask259)) joinerOf18
    (t.tb.lock, t.tb.residual, t.tb.current, t.tb.target, t.tb.outPos) = (.locked, -2, 1333, 1333, 1898) ∧
      (t.mc.station, t.mc.role, t.mc.record.bind (·.slot)) = (.member, .follower, some { rank := 2, target := 1333 }) ∧
      t.lp.events = eventMask .membership ||| eventMask .joined ||| eventMask .locked := by decide +kernel

/-- Steps 2 and 3 of 1.8: the carriers of 1,992 and of 2,002 counts. -/
theorem test_example_1_8_carriers :
    let s := after .outputCarrierStart { follower with tb := { follower.tb with residual := 8 } }
    let t := after .outputCarrierStart { follower with tb := { follower.tb with residual := -2 } }
    (s.tb.residual, s.tb.syncLeft, outCarrierLength cfgA s.tb) = (0, 8, 1992) ∧
      (t.tb.residual, t.tb.syncLeft, outCarrierLength cfgA t.tb) = (0, -2, 2002) := by decide +kernel

/-- The example of R68: from 1,200 toward 900 back, and toward 200 forward. -/
theorem test_migration_example_of_r68 :
    offsetStep 2000 1200 900 40 = -40 ∧ offsetStep 2000 1200 200 40 = 40 ∧ offsetStep 2000 1200 1500 40 = 40 := by
  decide +kernel

/-- A PWM channel of compare value 10 whose request has stood since the count before. -/
def channel10 (request : Side) (hold : Nat) : ChannelState :=
  { setting := { mode := .pwm, compare := 10 }, request := request, hold := hold, lastRequest := request, runHold := hold
    modeChanged := false }

/-- The table of R83 and R84: C = 10, D = 4. A request changed and changed back within a count restarts nothing. -/
theorem test_dead_time_table :
    let c := channel10
    (refreshChannel 0 (c .low 4) = { c .low 4 with request := .high, hold := 0 }) ∧
      (refreshChannel 9 (c .high 4) = c .high 4) ∧ (refreshChannel 10 (refreshChannel 0 (c .low 4)) = c .low 4) ∧
      ([c .low 4, c .high 0, c .high 3, c .high 4, c .low 3].map fun x => (sideOn 4 x .high, sideOn 4 x .low)) =
        [(false, true), (false, false), (false, false), (true, false), (false, false)] := by decide +kernel

/-- The list of 5.13 step 1, and its order across the wrap (5.4). -/
theorem test_timed_list_examples :
    ((insertTimed 7 ⟨20, duty 3⟩ (insertTimed 7 ⟨150, duty 2⟩ (insertTimed 7 ⟨9, duty 1⟩ []))).map (·.epoch)) = [9, 20, 150] ∧
      ((insertTimed 65530 ⟨3, duty 1⟩ (insertTimed 65530 ⟨65534, duty 2⟩ [])).map (·.epoch)) = [65534, 3] := by
  decide +kernel

/-- Steps 3 and 5 of 5.13: the change from epoch 7 to 412 makes F due and drops B and C; LATE and BAD_ARG. -/
theorem test_example_5_13 :
    let s := { at_ .joining with
      pcu := { ChannelUnit.reset with timed := [⟨9, duty 1⟩, ⟨20, duty 2⟩, ⟨150, duty 3⟩] }
      tb := { TimeBase.reset with epoch := 7 } }
    let t := setEpoch 412 s
    (t.pcu.due, t.pcu.timed, t.lp.events) = (some (duty 3), [], eventMask .dutyDropped) ∧
      ([1000, 411, 414].map fun e => answerOf (after (.setDuty (dutyBytes (duty 1) (some e))) { s with
        tb := { s.tb with epoch := 413 }, pcu := ChannelUnit.reset })) = [[0x11, 0], [0x15, 0], [0x00, 0]] := by
  decide +kernel

/-- Step 3 of the example of 6.7: FORCE_TRIP in TRIPPED_REMOTE. -/
theorem test_example_6_7_step_3 :
    let s := { follower with tc := { TripController.reset with trip := .trippedRemote, origins := [8] } }
    let t := after (.forceTrip []) { s with tb := { s.tb with epoch := 640 } }
    (t.tc.trip, t.tc.causes.command, t.tc.origins, t.tc.tripEpoch) = (.trippedLocal, true, [8, 9], some 640) ∧
      t.lc.slots.trip = some (.trip .command 640) ∧ answerOf t = [0x00, 0] ∧ t.lp.events = eventMask .trip := by
  decide +kernel

/-- Steps 2, 3 and 5 of the example of 8.6, at the addressee. -/
theorem test_example_8_6_addressee :
    let s := { follower with mu := { MailUnit.reset with
      bufA := some ⟨6, 20, [1]⟩, bufB := some ⟨6, 21, [2]⟩, aLater := false, filter := MailUnit.reset.filter.set 6 (some 21) } }
    let t2 := after (.mailReceived 4 57 [1, 2, 3, 4]) s
    let t3 := after (.takeMail []) t2
    let t4 := after (.mailReceived 4 57 [1, 2, 3, 4]) t3
    let t5 := after (.mailReceived 4 57 [1, 2, 3, 4]) t4
    (t2.mu.overflow, t2.lc.replyAck, t2.lc.replyRefuse, t2.lp.events) = (true, false, true, eventMask .mailOverflow) ∧
      answerOf t3 = [0x00, 5, 1, 6, 20, 1, 1] ∧ (t3.mu.bufA, t3.mu.overflow) = (none, false) ∧
      (t4.mu.bufA, t4.mu.aLater, t4.lc.replyAck) = (some ⟨4, 57, [1, 2, 3, 4]⟩, true, true) ∧
      (t5.mu.bufA = t4.mu.bufA ∧ t5.mu.bufB = t4.mu.bufB ∧ t5.lc.replyAck = true) := by decide +kernel

/-- Steps 5 and 2 of the example of 8.6, at the sender. -/
theorem test_example_8_6_sender :
    let s := sendingFrame (mailFrame (mailTo 5 2 false none)) (mailing true false
      [mailTo 5 2 false none, mailTo 2 0 false none] follower)
    let t := after (.frameSuccess true false) s
    let u := after (.frameSuccess false true) s
    (t.mu.queue.length, t.mu.receipts) = (1, [⟨57, 5, .delivered, 3⟩]) ∧ t.lc.slots.mail.isSome = true ∧
      t.lp.events = eventMask .receipt ∧ u.mu.receipts = [⟨57, 5, .refused, 3⟩] := by decide +kernel

/-- The example of 7.6: kind 3 of station 9 begins 0011 01001. -/
theorem test_arbitration_field_of_7_6 :
    (frameBits 9 (.join { period := 2000, mode := .edge, length := .e16 })).take 9 =
      [false, false, true, true, false, true, false, false, true] := by decide +kernel

/-! ### The laws of the device on the states tested -/

/-- A follower whose outputs are ACTIVE. -/
def activeFollower : State :=
  { follower with pcu := { ChannelUnit.reset with run := true, hasApplied := true, output := .active } }

/-- A state with no frame waiting and none on the line. -/
def quiet (s : State) : Prop := s.lc.slots = TxSlots.empty ∧ s.lc.onLine = none

/-- The mail law of a quiet state with no mail in flight and no retry due. -/
theorem mailLaw_of_quiet {s : State} (h : quiet s) (hq : s.mu.queue.length ≤ 4) (hr : s.mu.receipts.length ≤ 4)
    (ha : ∀ m ∈ s.mu.queue, m.attempts ≤ 3 ∧ (m.outcome = none → m.attempts ≤ 2)) (hf : s.mu.inFlight = false)
    (hd : s.mu.retryDue = false) : mailLaw s := by
  refine ⟨hq, hr, ha, ?_, ?_, ?_⟩
  · intro f hs; simp [h.1, TxSlots.empty] at hs
  · intro own ho; simp [h.2] at ho
  · simp [hf, hd]

theorem slotLaw_of_quiet {s : State} (h : quiet s) : slotLaw s := by
  intro kind f hs; cases kind <;> simp [h.1, slotOf, TxSlots.empty] at hs

theorem ownBeaconLaw_of_quiet {s : State} (h : quiet s) : ownBeaconLaw s := by
  refine ⟨fun _ => ⟨?_, ?_⟩, ?_⟩
  · intro b hb; simp [h.1, TxSlots.empty] at hb
  · intro own b ho; simp [h.2] at ho
  · intro own ho; simp [h.2] at ho

theorem recordLaw_of_slot {s : State} (cfg : ConfigRecord) (r : EpochRecord) (h : slotState s.mc.station = true)
    (hc : s.config = some cfg) (hr : s.mc.record = some r) (hm : inMask r.mask s.sid = true)
    (hs : r.slot = some (slotIn cfg r.mask s.sid)) : recordLaw s :=
  ⟨fun _ => ⟨cfg, r, hc, hr, hm, hs⟩, fun hn => absurd (h.symm.trans hn) (by decide)⟩

/-- The states of a member that the statements are tried on. -/
def members : List State := [follower, reference, candidate, leaver, leavingReference, activeFollower]

theorem members_are_quiet : ∀ s ∈ members, quiet s ∧ s.mu.queue = [] ∧ s.mu.receipts = [] ∧ s.mu.inFlight = false ∧
    s.mu.retryDue = false := by
  unfold quiet; decide +kernel

theorem laws_of_members : ∀ s ∈ members, configLaw s ∧ standingStillLaw s ∧ tripLaw s ∧ outputLaw s ∧ dutyListLaw s ∧
    roleLaw s ∧ countsLaw s := by
  unfold configLaw standingStillLaw tripLaw outputLaw dutyListLaw roleLaw countsLaw; decide +kernel

/-- The laws over frames and records hold of the members too. -/
theorem frame_laws_of_members : ∀ s ∈ members, mailLaw s ∧ slotLaw s ∧ ownBeaconLaw s := by
  intro s h
  obtain ⟨hq, h1, h2, h3, h4⟩ := members_are_quiet s h
  exact ⟨mailLaw_of_quiet hq (by simp [h1]) (by simp [h2]) (by simp [h1]) h3 h4, slotLaw_of_quiet hq,
    ownBeaconLaw_of_quiet hq⟩

theorem recordLaw_of_follower : recordLaw follower :=
  recordLaw_of_slot cfgA _ rfl rfl rfl (by decide +kernel) rfl

/-! ### Witnesses: states and operands that meet the hypotheses of each statement, clause by clause -/

/-- RESETN is high in the states that the witnesses below are built from, as the premise of the statements asks; no state built
from them sets it low but where it says so. -/
theorem witness_resetn_high :
    (∀ s ∈ [State.reset, follower, reference, candidate, leaver, leavingReference, activeFollower], s.pins.resetn = true) ∧
      (∀ station, (at_ station).pins.resetn = true) ∧
      (∀ s : State, s.pins.resetn = true →
        (∀ trip pin line, (tripped trip pin line s).pins.resetn = true) ∧ (∀ f, (sendingFrame f s).pins.resetn = true) ∧
          ∀ inFlight retryDue queue, (mailing inFlight retryDue queue s).pins.resetn = true) :=
  ⟨by decide +kernel, fun _ => rfl, fun _ h => ⟨fun _ _ _ => h, fun _ => h, fun _ _ _ => h⟩⟩

theorem witness_StepRunsFront : ({ follower with pending := [.peak] } : State).pending = .peak :: [] := rfl

/-- A station whose RESETN falls at the next count, and one whose RESETN is released, with FLTN low. -/
def pulled : State := { follower with stimulus := [{ InputPins.idle with resetn := false }] }

def released : State :=
  { State.reset with
    pins := { InputPins.idle with resetn := false }, stimulus := [{ InputPins.idle with straps := 7, fltn := false }] }

/-- A station in reset, and the same with commands waiting. -/
def held : State :=
  { State.reset with pins := { InputPins.idle with resetn := false }, lp := LocalPort.reset }

theorem witness_HardwareReset : (follower.pins.seln = true ∧ ({ InputPins.idle with seln := false } : InputPins).seln = false) ∧
    (held.pins.resetn = false ∧ ∀ sid fltn, Instr.forceTrip [] ≠ .hardwareReset sid fltn) ∧ heldLaw held ∧ (∃ t, exec (.hardwareReset 9 true) follower = .next t) ∧
    (pulled.pending = [] ∧ (pulled.stimulus.headD pulled.pins).resetn = false) ∧
    (released.pending = [] ∧ released.pins.resetn = false ∧ (released.stimulus.headD released.pins).resetn = true) :=
  ⟨by decide, ⟨rfl, fun _ _ => by simp⟩, by unfold heldLaw; decide +kernel, ⟨_, rfl⟩, by decide +kernel⟩

/-- With RESETN low no command but HARDWARE_RESET fills a cause or drives TRIPN (R95, log 22). -/
theorem test_commands_while_resetn_is_low :
    (after (.forceTrip []) held = held) ∧
      ((after .fltnFall held).tc, (after .fltnFall held).pins.fltn, drivesTripn (after .fltnFall held)) =
        (held.tc, false, false) := by decide +kernel

/-- SELN high at the release of RESETN and low at the next count opens a window; low at the release it opens none (R135). -/
theorem test_window_after_the_release :
    ([true, false].map fun seln =>
      match step { after (.hardwareReset 7 true) { held with pins := { held.pins with seln := seln } } with
        stimulus := [{ InputPins.idle with seln := false }] } with
      | .next t => t.lp.phase
      | _ => .done) = [.command, .waitHigh] := by decide +kernel

/-- With FLTN low at its release a station drives no TRIPN before it, and latches PIN at it (R95, R96). -/
theorem test_release_with_fltn_low :
    (match step released with
      | .next t => decide (t.pending = [.hardwareReset 7 false] ∧ drivesTripn t = false)
      | _ => false) = true ∧
    (let t := after (.hardwareReset 7 false) released; (drivesTripn t, t.tc.trip, t.sid)) = (true, .trippedLocal, 7) := by
  decide +kernel

/-- Both layouts at the ends of their ranges: P = 1,200 with D = 150, P = 65,535, and compare values 0 and P. -/
theorem witness_PayloadLayouts :
    ([cfgA, cfgC, { cfgA with period := 1200, deadTime := 150 }, { cfgA with period := 65535, deadTime := 255 }].all
        fun cfg => configOfBytes (configBytes cfg) == some cfg) = true ∧
      (configOfBytes (configBytes { cfgA with period := 1199 }) = none) ∧
      (configOfBytes (configBytes { cfgA with period := 1200, deadTime := 151 }) = none) ∧
      dutyOfBytes 2000 (dutyBytes (duty 2000) (some 7)) = some (duty 2000, some 7) ∧
      dutyOfBytes 2000 (dutyBytes (duty 0) none) = some (duty 0, none) ∧
      dutyOfBytes 2000 (dutyBytes (duty 2001) none) = none ∧ 65535 ≤ 65535 := by decide +kernel

theorem witness_LoadConfig :
    follower.mc.station ≠ .unconfigured ∧ (State.reset.mc.station = .unconfigured ∧ configOfBytes [] = none) ∧
      configOfBytes (configBytes cfgA) = some cfgA := by decide +kernel

theorem witness_ReadsChangeNothing :
    follower.config = some cfgA ∧ State.reset.config = none ∧ 31 < (32 : Byte).toNat ∧ ([] : List Byte).length ≠ 1 ∧
      ([0] : List Byte) ≠ [] := by decide +kernel

theorem witness_RecordBytes : (countsLaw follower ∧ mailLaw follower) ∧
    ((2 : StationId) ≠ follower.sid ∧ follower.mc.station = .member) ∧ (slotState (at_ .joining).mc.station = false) ∧
    ((at_ .joining).mc.record = none) ∧ (follower.mc.record ≠ none ∧ recordLaw follower) ∧ tripLaw follower :=
  ⟨⟨(laws_of_members _ (by simp [members])).2.2.2.2.2.2, (frame_laws_of_members _ (by simp [members])).1⟩,
    by decide +kernel, by decide +kernel, rfl, ⟨by decide +kernel, recordLaw_of_follower⟩,
    (laws_of_members _ (by simp [members])).2.2.1⟩

theorem witness_ReadEvents : ([0] : List Byte) ≠ [] ∧ (∃ t, exec (.readEvents []) (post .trip follower) = .next t) ∧
    (∃ t, exec (.readEvents []) follower = .next t) ∧ ∃ t, exec (.readStatus []) follower = .next t :=
  ⟨by decide, ⟨_, rfl⟩, ⟨_, rfl⟩, ⟨_, rfl⟩⟩

theorem test_status_shows_the_events :
    let t := after (.readStatus []) (post .trip (post .conflictSeen follower))
    (t.lp.response.drop 25).take 3 = [0x40, 0x08, 0x00] ∧ t.lp.response.length = 32 := by decide +kernel

theorem witness_SetEventMask : ([0, 0] : List Byte).length ≠ 3 ∧ 128 ≤ (128 : Byte).toNat ∧ (127 : Byte).toNat < 128 ∧
    (∃ t, exec (.hardwareReset 1 true) follower = .next t) ∧ ∃ t, exec (.restart []) follower = .next t :=
  ⟨by decide, by decide, by decide, ⟨_, rfl⟩, ⟨_, rfl⟩⟩

/-- A station at one count of a select window: its local port, and the levels of SELN, SCK and SDI that the count samples. -/
def atPort (lp : LocalPort) (seln sck sdi : Bool) : State :=
  { follower with lp := lp, stimulus := [{ InputPins.idle with seln := seln, sck := sck, sdi := sdi }] }

/-- The framer in a phase, with the level of SCK one count before. -/
def portIn (phase : PortPhase) (lastSck : Bool) : LocalPort := { LocalPort.reset with phase := phase, lastSck := lastSck }

/-- The bits of a START but for its last, and a response of one byte after a number of its bits. -/
def startBits : List Bool := ((commandFrame 0x02 []).flatMap bitsOfByte).dropLast

def responding (bits : Nat) : LocalPort :=
  { portIn .response true with response := [0xA5], bitCount := bits, sdo := some true }

theorem witness_CommandFraming :
    ((0x05 : Byte) ∉ ([0x01, 0x02, 0x03, 0x04, 0x08, 0x09, 0x0A, 0x0B, 0x10, 0x11, 0x18, 0x19, 0x1A, 0x20, 0x21, 0x22, 0x23,
        0x24, 0x28, 0x29] : List Byte)) ∧
      ((List.replicate 16 (0 : Byte)).length ≤ 16 ∧ 18 < (commandFrame 0x0A (List.replicate 16 0)).length ∧
        (1 : Byte) ≠ crc8 [0x02, 0] ∧ 16 < (17 : Byte).toNat) ∧
      (∀ phase ∈ [PortPhase.waitHigh, .waitWindow, .command, .turnaround, .response, .done], ∀ seln sck sdi last,
        oneCount (atPort (portIn phase last) seln sck sdi) ∧
          (nextPins (atPort (portIn phase last) seln sck sdi)).seln = seln) ∧
      ((startBits.length + 1) % 8 = 0 ∧ ∃ c, commandOfWindow (bytesOfBits (startBits ++ [true])) = some c) ∧
      ((portIn .turnaround false).bitCount + 1 ≠ 32 ∧ { portIn .turnaround false with bitCount := 31 }.bitCount + 1 = 32) ∧
      (((responding 7).response.flatMap bitsOfByte)[(responding 7).bitCount]? = some true ∧
        8 * (responding 8).response.length ≤ (responding 8).bitCount) := by
  refine ⟨by decide, by decide +kernel, ?_, ⟨by decide +kernel, Option.isSome_iff_exists.1 (by decide +kernel)⟩,
    by decide +kernel⟩
  unfold oneCount
  decide +kernel

/-- An SCK rise at the very count at which SELN is first sampled low is the first bit of the window (R135, log 31). -/
theorem test_rise_at_the_opening :
    (match step (atPort (portIn .waitWindow false) false true true) with
      | .next t => decide (t.lp.phase = .command ∧ t.lp.shift = [true] ∧ t.lp.sdo = some true)
      | _ => false) = true := by decide +kernel

/-- START with a JOIN in its arbitration field, and with frames of both kinds on the line. -/
theorem witness_StartListens :
    follower.mc.station ≠ .configured ∧ ((at_ .configured).mc.station = .configured ∧ ([0] : List Byte) ≠ []) ∧
      (at_ .configured).lc.attempt = none ∧
      (let lc := { (at_ .configured).lc with attempt := some FrameKind.join };
        lc.attempt ≠ none ∧ lc.attempt ≠ some .trip ∧ lc.attempt ≠ some .mail) ∧
      frameKind (.trip .pin 0) = .trip ∧ (frameKind .leave ≠ .trip ∧ frameKind .leave ≠ .mail) ∧
      (sendingFrame .leave (at_ .configured)).lc.onLine ≠ none := by decide +kernel

theorem witness_LeaveByState : (∀ s ∈ members, outputLaw s) ∧ outputLaw (at_ .joining) ∧ outputLaw (at_ .configured) ∧
    groupState (at_ .configured).mc.station = false ∧ (at_ .joining).mc.station = .joining ∧
    (follower.mc.station = .member ∧ follower.mc.role ≠ .reference) ∧
    (reference.mc.station = .member ∧ reference.mc.role = .reference) ∧ leaver.mc.station = .leaving :=
  ⟨fun s h => (laws_of_members s h).2.2.2.1, by unfold outputLaw; decide +kernel, by unfold outputLaw; decide +kernel,
    by decide +kernel⟩

theorem witness_RestartAll :
    State.reset.mc.station = .unconfigured ∧ (at_ .isolated).mc.station ≠ .unconfigured ∧ ([0] : List Byte) ≠ [] := by
  decide +kernel

theorem witness_RunAndHalt : State.reset.mc.station = .unconfigured ∧ follower.mc.station ≠ .unconfigured := by
  decide +kernel

/-- A follower with a timed duty list of the given distances ahead. -/
def timed (ahead : List Nat) : State :=
  { follower with
    pcu := { ChannelUnit.reset with timed := ahead.map fun n => ⟨412 + BitVec.ofNat 16 n, duty n⟩ } }

theorem witness_DutyCommands :
    configLaw State.reset ∧ configLaw (timed [1, 255]) ∧ (dutyListLaw (timed [1, 255]) ∧ dutyListLaw (timed [1, 2, 3, 255])) ∧
      State.reset.mc.station = .unconfigured ∧ dutyOfBytes 2000 [] = none ∧
      dutyOfBytes 2000 (dutyBytes (duty 1) none) = some (duty 1, none) ∧
      dutyOfBytes 2000 (dutyBytes (duty 1) (some 413)) = some (duty 1, some 413) ∧
      ([0, 1, 255, 256, 32768, 32769].map fun n => epochsAhead (412 + BitVec.ofNat 16 n) 412) =
        [0, 1, 255, 256, 32768, 32769] ∧
      (∃ r ∈ (timed [1, 255]).pcu.timed, r.epoch = 413) ∧
      ((∀ r ∈ (timed [1, 2, 3, 255]).pcu.timed, r.epoch ≠ 420) ∧ (timed [1, 2, 3, 255]).pcu.timed.length = 4) ∧
      ((∀ r ∈ (timed [1, 255]).pcu.timed, r.epoch ≠ 420) ∧ (timed [1, 255]).pcu.timed.length < 4) ∧
      ([0] : List Byte).length ≠ 2 ∧ (timed [1]).mc.station ≠ .unconfigured ∧ (413 : EpochNumber) = 0x01#8 ++ 0x9D#8 := by
  unfold configLaw dutyListLaw; decide +kernel

/-- A follower with a pending and a due record, in either mode. -/
def loaded (cfg : ConfigRecord) : State :=
  { follower with config := some cfg, pcu := { ChannelUnit.reset with pendingDuty := some (duty 1), due := some (duty 2) } }

/-- The same station in an output carrier. -/
def inCarrierOf (cfg : ConfigRecord) : State := { loaded cfg with tb := { (loaded cfg).tb with inCarrier := true } }

/-- A record that sets the three channels to the three forced modes. -/
def forced : DutySettings :=
  { u := { mode := .forceHigh, compare := 5 }, v := { mode := .forceLow, compare := 5 }
    w := { mode := .forceOff, compare := 5 } }

theorem witness_ApplyPoints :
    (follower.tb.inCarrier = false ∧ (inCarrierOf cfgC).tb.inCarrier = true ∧ (inCarrierOf cfgC).config = some cfgC ∧
        (inCarrierOf cfgC).pcu.pendingDuty = some (duty 1)) ∧
      State.reset.config = none ∧ follower.pcu.pendingDuty = none ∧ (follower.config = some cfgA ∧ cfgA.mode = .edge) ∧
      follower.pcu.due = none ∧
      ((loaded cfgC).config = some cfgC ∧ (loaded cfgC).pcu.pendingDuty = some (duty 1) ∧ cfgC.mode = .centre ∧
        cfgC.applyAtPeak = true ∧ (loaded cfgC).pcu.due = some (duty 2)) ∧
      (∀ r, (timed [2]).pcu.timed.head? = some r → r.epoch ≠ 413) ∧ (timed [1, 9]).pcu.timed ≠ [] := by decide +kernel

/-- The due record takes the place of the pending one. -/
theorem test_due_record_apply :
    let t := after .dueRecordApply (loaded cfgA)
    (t.pcu.u.setting.compare, t.pcu.pendingDuty, t.pcu.due) = (2, none, none) ∧
      t.lp.events = eventMask .dutyDue ||| eventMask .dutyDropped := by decide +kernel

/-- What the modes of 10.1 request, when a record is applied and at every carrier start after it (R72, R75, R83). -/
theorem test_forced_modes :
    let s := { follower with pcu := { ChannelUnit.reset with
      u := channel10 .low 3, v := channel10 .low 3, w := channel10 .low 3, pendingDuty := some forced } }
    let t := after .pendingRecordApply s
    let u := after .outputCarrierStart t
    ([t.pcu.u, t.pcu.v, t.pcu.w].map fun c => (c.request, c.hold)) = [(.high, 0), (.low, 0), (.none, 0)] ∧
      [u.pcu.u.request, u.pcu.v.request, u.pcu.w.request] = [.high, .low, .none] := by decide +kernel

/-- A peak whose count a jump has taken first stands in no output carrier, and applies nothing (R17, R75). -/
theorem test_peak :
    ((after .peak (inCarrierOf cfgC)).pcu.u.setting.compare, (after .peak (loaded cfgC)).pcu.pendingDuty) =
      (1, some (duty 1)) := by decide +kernel

theorem witness_EpochNumberChange :
    (dutyListLaw (timed [1, 2, 200]) ∧ dutyListLaw (timed [200])) ∧
      (1 ≤ epochsAhead 413 412 ∧ epochsAhead (412 + 32767) 412 ≤ 32767) ∧
      (∀ r ∈ (timed [200]).pcu.timed, epochsAhead 413 412 < epochsAhead r.epoch 412) ∧
      ((timed [1, 2, 200]).pcu.timed = [⟨413, duty 1⟩] ++ ⟨414, duty 2⟩ :: [⟨612, duty 200⟩] ∧
        epochsAhead 414 412 ≤ epochsAhead 414 412) ∧ 32768 ≤ epochsAhead (412 + 32768) 412 := by
  unfold dutyListLaw; decide +kernel

/-- A follower with channel U in PWM at a hold count of D - 1. -/
def switching : State :=
  { follower with pcu := { ChannelUnit.reset with u := channel10 .low 3 } }

theorem witness_ChannelStages :
    State.reset.config = none ∧ follower.pcu.u.setting.mode ≠ .pwm ∧ follower.pcu.u.hold + 1 ≠ cfgA.deadTime ∧
      (channelOf switching.pcu .u).setting.mode = .pwm ∧ (channelOf switching.pcu .u).hold + 1 = cfgA.deadTime ∧
      (acceptedValues cfgA ∧ acceptedValues cfgC) ∧ ((40 : Int).natAbs ≤ cfgA.slewMax ∧ (-40 : Int).natAbs ≤ cfgC.slewMax) ∧
      (((2039 : Nat) : Int) < carrierLength cfgA - -40) ∧ (((1239 : Nat) : Int) < carrierLength cfgC - -40) ∧
      (((600 : Nat) : Int) ≤ cfgC.period - -40 ∧ (cfgC.period : Int) - -40 < ((641 : Nat) : Int)) ∧
      (((1159 : Nat) : Int) < carrierLength cfgC - 40 ∧ cfgC.period < 1159) := by
  unfold acceptedValues; decide +kernel

/-- The counter at the ends of a lengthened and of a shortened carrier (R3). -/
theorem test_output_counter_ends :
    ([2039, 1999].map fun x => outputCounter cfgA x (-40)) = [1999, 1999] ∧
      ([600, 640, 641, 1239].map fun x => outputCounter cfgC x (-40)) = [600, 600, 599, 1] ∧
      ([600, 601, 1159].map fun x => outputCounter cfgC x 40) = [600, 559, 1] := by decide +kernel

theorem witness_ForceTrip :
    (tripLaw follower ∧ tripLaw (tripped .trippedLocal true false follower) ∧
      tripLaw { follower with tc := { TripController.reset with
        trip := .trippedLocal, causes := { pin := false, command := true, line := false } } }) ∧
      (tripped .trippedLocal true false follower).tc.causes.command = false ∧ follower.tc.trip ≠ .trippedLocal ∧
      (∃ u, exec (.halt []) follower = .next u) := by
  refine ⟨?_, by decide +kernel, by decide +kernel, ⟨_, rfl⟩⟩
  unfold tripLaw; decide +kernel

/-- TRIPPED_LOCAL by PIN with FLTN low, by PIN with FLTN high, and by LINE while it is active. -/
theorem witness_ClearTrip :
    (outputLaw follower ∧ outputLaw (tripped .trippedLocal true false follower) ∧
      outputLaw (tripped .trippedLocal true false (at_ .configured))) ∧ follower.tc.trip ≠ .trippedLocal ∧
      (let s := { tripped .trippedLocal true false follower with pins := { InputPins.idle with fltn := false } };
        s.tc.causes.pin = true ∧ s.pins.fltn = false) ∧
      (let s := tripped .trippedLocal true false follower;
        ¬(s.tc.causes.pin = true ∧ s.pins.fltn = false) ∧ ¬(s.tc.causes.line = true ∧ s.lc.lineActive = true) ∧
          s.pins.tripn = true ∧ lockHeld s.tb.lock = true) ∧
      lockHeld (at_ .configured).tb.lock = false ∧ ({ InputPins.idle with tripn := false } : InputPins).tripn = false := by
  unfold outputLaw; decide +kernel

theorem test_clear_trip_of_an_unlocked_station :
    let t := after (.clearTrip []) (tripped .trippedLocal true false (at_ .configured))
    (t.tc.trip, t.lp.events, answerOf t) = (.armed, eventMask .rearmed, [0x00, 0]) := by decide +kernel

/-- A follower in a trip state with FLTN at a level, and the levels of FLTN and TRIPN that its next count samples. -/
def sensing (trip : TripState) (fltn : Bool) : State :=
  { tripped trip false false follower with pins := { InputPins.idle with fltn := fltn } }

def sampling (fltn tripn : Bool) (s : State) : State :=
  { s with stimulus := [{ InputPins.idle with fltn := fltn, tripn := tripn }] }

theorem witness_LatchingInputs :
    (tripLaw follower ∧ tripLaw (tripped .trippedLocal true false follower) ∧
      tripLaw (tripped .trippedLocal false true follower)) ∧
      (tripped .trippedLocal true false follower).tc.causes.pin = true ∧
      (tripped .trippedLocal false true follower).tc.causes.pin = false ∧
      (tripped .trippedLocal false true follower).tc.causes.line = true ∧ follower.tc.trip ≠ .trippedLocal ∧
      (∀ trip high fltn tripn, oneCount (sampling fltn tripn (sensing trip high))) := by
  refine ⟨by unfold tripLaw; decide +kernel, by decide +kernel, by decide +kernel, by decide +kernel, by decide +kernel,
    fun _ _ _ _ => ⟨rfl, rfl, rfl⟩⟩

/-- A fall and a rise of FLTN at a count, and TRIPN where it moves the trip state and where it does not (R94, R95, R98). -/
theorem test_levels_of_a_count :
    let rows (s : State) := match step s with
      | .next t => (t.pending, t.pins.fltn, t.pins.tripn)
      | _ => ([], true, true)
    rows (sampling false true (sensing .armed true)) = ([.fltnFall], true, true) ∧
      rows (sampling true true (sensing .armed false)) = ([.fltnRise], false, true) ∧
      rows (sampling true false (sensing .rearm true)) = ([.tripnLow], true, true) ∧
      rows (sampling true true (sensing .trippedRemote true)) = ([.tripnHigh], true, true) ∧
      rows (sampling true false (sensing .trippedLocal true)) = ([], true, false) := by decide +kernel

theorem witness_TripnAndRearm :
    (∀ trip ∈ [TripState.armed, .trippedRemote, .rearm], tripLaw (tripped trip false false follower) ∧
      outputLaw (tripped trip false false follower)) ∧
      (tripLaw (tripped .trippedLocal true false follower) ∧ outputLaw (tripped .trippedLocal true false follower)) ∧
      (tripped .rearm false false follower).tc.trip = .rearm ∧
      (∀ tripn, oneCount (sampling true tripn (sensing .armed true)) ∧
        (sampling true tripn (sensing .armed true)).stimulus.headD InputPins.idle =
          { InputPins.idle with tripn := tripn }) := by
  refine ⟨by unfold tripLaw outputLaw; decide +kernel, by unfold tripLaw outputLaw; decide +kernel, rfl,
    fun _ => ⟨⟨rfl, rfl, rfl⟩, rfl⟩⟩

theorem witness_OutputPins :
    State.reset.config = none ∧ (follower.config = some cfgA ∧ follower.pcu.output ≠ .active) ∧
      (activeFollower.pcu.output = .active ∧ activeFollower.tc.trip = .armed ∧ activeFollower.pins.tripn = true ∧
        anyCause activeFollower.tc.causes = false ∧ activeFollower.pins.fltn = true) := by decide +kernel

/-- The pins of an ACTIVE follower whose high side U has waited out its dead time, and with FLTN low (R85, R89). -/
theorem test_gate_pins :
    let s := { activeFollower with pcu := { activeFollower.pcu with u := channel10 .high 4 } }
    gatePins s = [true, false, false, false, false, false] ∧
      gatePins { s with pins := { s.pins with fltn := false } } = List.replicate 6 false := by decide +kernel

theorem witness_SlotFillAndEmpty :
    State.reset.lc.txOn = false ∧ follower.lc.txOn = true ∧ follower.lc.onLine = none ∧
      (sendingFrame .leave follower).lc.onLine ≠ none ∧ follower.lc.attempt ≠ some .leave := by decide +kernel

theorem witness_PostMail :
    groupState (at_ .configured).mc.station = false ∧ groupState follower.mc.station = true ∧ 31 < (32 : Byte).toNat ∧
      (9 : Byte).toNat = follower.sid.val ∧ 8 < (List.replicate 9 (0 : Byte)).length ∧
      ((2 : Byte).toNat = (2 : StationId).val ∧ (2 : StationId) ≠ follower.sid ∧ 1 ≤ (List.replicate 8 (0 : Byte)).length) ∧
      follower.mc.roster[5].state ≠ .member ∧
      (follower.mc.roster[2].state = .member ∧ follower.mu.queue.length < 4 ∧
        4 ≤ (mailing false false (List.replicate 4 (mailTo 2 0 false none)) follower).mu.queue.length) := by decide +kernel

/-- A follower whose inbound buffers and receipt list are full. -/
def full : State :=
  { follower with mu := { MailUnit.reset with
      bufA := some ⟨6, 20, [1]⟩, bufB := some ⟨6, 21, [2]⟩, aLater := true
      receipts := List.replicate 4 ⟨1, 2, .delivered, 1⟩, queue := [mailTo 2 1 false (some .delivered)] } }

theorem witness_TakeMailAndReceipts :
    ([0] : List Byte) ≠ [] ∧ (follower.mu.bufA = none ∧ follower.mu.bufB = none) ∧
      (full.mu.bufB = some ⟨6, 21, [2]⟩ ∧ full.mu.aLater = true) ∧
      ({ full.mu with aLater := false }.bufA = some ⟨6, 20, [1]⟩) ∧ follower.mu.receipts = [] ∧
      full.mu.receipts = ⟨1, 2, .delivered, 1⟩ :: List.replicate 3 ⟨1, 2, .delivered, 1⟩ ∧
      full.mu.queue = [mailTo 2 1 false (some .delivered)] := by decide +kernel

theorem test_take_receipt_frees_a_blocked_head :
    let t := after (.takeReceipt []) full
    (t.mu.queue, t.mu.receipts.length, t.mu.receipts.getLast?) = ([], 4, some ⟨57, 2, .delivered, 1⟩) ∧
      answerOf t = [0x00, 4, 1, 2, 1, 1] := by decide +kernel

/-- The same with room for one receipt, and the marks of a count that stored a mail. -/
def roomy : State :=
  { full with mu := { full.mu with receipts := full.mu.receipts.tail, storedNow := some 6, storeDue := true } }

theorem witness_MailHead :
    follower.mu.receipts.length ≤ 4 ∧ follower.mu.retryDue = false ∧
      (let s := mailing false true [mailTo 2 1 false none] follower;
        s.mu.retryDue = true ∧ s.mu.queue = mailTo 2 1 false none :: []) ∧
      (oneCount full ∧ ¬full.mu.receipts.length < 4) ∧
      (oneCount roomy ∧ roomy.mu.queue = [mailTo 2 1 false (some .delivered)] ∧ roomy.mu.receipts.length < 4) := by
  unfold oneCount; decide +kernel

/-- A complete head has its MAIL_COMPLETION at a count once the list has room, and the marks of the count before go (R128,
R132). -/
theorem test_completion_at_a_count :
    let rows (s : State) := match step s with
      | .next t => (t.pending, t.mu.storedNow, t.mu.storeDue)
      | _ => ([], none, true)
    rows roomy = ([.mailCompletion], none, false) ∧ rows full = ([], none, false) := by decide +kernel

/-- The phase at the last position of carriers 0 and 15, with no step and with a forward and a holding step. -/
theorem witness_OneCountOfPhase :
    (oneCount follower ∧ follower.config = some cfgA) ∧
      ((1998 + 1 : Int) < carrierLength cfgA - 0 ∧ (carrierLength cfgA - 40 : Int) ≤ 1959 + 1) ∧
      ([-1, 0, 1].map fun n : Int => 1 + n.sign) = [0, 1, 2] ∧ (1998 + 1 < carrierLength cfgA) ∧
      (carrierLength cfgA ≤ 1999 + 1 ∧ 14 + 1 < epochCarriers cfgA) ∧ (carrierLength cfgA ≤ 1998 + 2 ∧
        epochCarriers cfgA ≤ 15 + 1) := by
  unfold oneCount; decide +kernel

/-- A count at the last position of an epoch, and the boundary that it brings (R2). -/
theorem test_boundary_at_the_end_of_an_epoch :
    let s := { follower with tb := { follower.tb with carrier := 15, position := 1999 } }
    (match step s with
      | .next t => t.pending.contains .epochBoundary &&
          decide ((after .epochBoundary { t with pending := [] }).tb.epoch = 413)
      | _ => false) = true := by decide +kernel

/-- A follower in STANDBY at the boundary that makes its first timed record due, with the start of the count taken or not. -/
def comingDue (mark : StartMark) : State :=
  { timed [1, 9] with
    pcu := { (timed [1, 9]).pcu with run := true, output := .standby, due := some (duty 5) }
    tb := { follower.tb with startMark := mark } }

/-- A LISTENING station whose timer has counted a number of carriers. -/
def listenerAfter (carriers : Nat) : State :=
  { at_ .listening with mc := { (at_ .listening).mc with listenTimer := some carriers } }

theorem witness_BoundaryTime :
    (State.reset.config = none ∧ follower.config = some cfgA ∧ follower.tb.boundary = .none ∧
      ({ follower.tb with boundary := .overtaken } : TimeBase).boundary = .overtaken ∧
      ({ follower.tb with boundary := .due 1 } : TimeBase).boundary = .due 1 ∧ follower.tb.sample = none ∧
      listenerOf18.tb.sample = some (sampleAt 7 11 1742)) ∧
      (outputLaw follower ∧ outputLaw (at_ .joining) ∧ outputLaw (comingDue .none) ∧ outputLaw (comingDue (.taken true)) ∧
        outputLaw (tripped .rearm false false follower)) ∧
      (follower.mc.station ≠ .leaving ∧ follower.mc.station ≠ .joining ∧ (at_ .joining).mc.joinAttempts < 3) ∧
      (recordComesDue (comingDue .none) ∧ ¬recordComesDue (timed [9])) ∧
      ((∀ a, (comingDue .none).tb.startMark ≠ .taken a) ∧ (comingDue (.taken true)).tb.startMark = .taken true ∧
        (comingDue (.taken true)).pcu.output = .standby ∧ gateOpen (comingDue (.taken true)) = true ∧
        (comingDue (.taken true)).tc.trip ≠ .rearm) ∧
      ((tripped .rearm false false follower).tc.trip = .rearm ∧ lockHeld follower.tb.lock = true ∧
        lockHeld (at_ .joining).tb.lock = false) ∧
      (groupState (at_ .listening).mc.station = false ∧ (at_ .listening).mu.retryDue = false) ∧
      (listenerAfter 49).mc.listenTimer.map (· + 1) = some (cfgA.listenEpochs * epochCarriers cfgA + 2 * (9 : StationId).val) ∧
      (listenerAfter 48).mc.listenTimer.map (· + 1) ≠ some (cfgA.listenEpochs * epochCarriers cfgA + 2 * (9 : StationId).val) := by
  refine ⟨by decide +kernel, ?_, by decide +kernel, ⟨⟨_, rfl, rfl⟩, ?_⟩, by decide +kernel⟩
  · unfold outputLaw; decide +kernel
  · rintro ⟨r, h, he⟩
    cases h
    revert he
    decide +kernel

/-- The start taken first, the boundary applies the due record at once; a boundary commanded by itself counts its carrier. -/
theorem test_boundary_after_the_start :
    let t := after .epochBoundary (comingDue (.taken true))
    (t.pcu.u.setting.compare, t.pcu.due, t.pcu.output) = (1, none, .active) ∧
      (after .epochBoundary { at_ .listening with mc := { (at_ .listening).mc with listenTimer := some 3 } }).mc.listenTimer =
        some 4 := by decide +kernel

/-- A boundary commanded by itself that brings the listen timer to its limit of 50 carriers founds, and the founder fills its
STATUS; one carrier before it founds nothing; and it takes the deadline of a beacon that waits (R22, R46, R50, log 2). -/
theorem test_boundary_founds :
    let t := after .epochBoundary (listenerAfter 49)
    (t.mc.role, t.mc.listenTimer, t.tb.epoch, t.lc.slots.status.isSome) = (.reference, none, 0, true) ∧
      (after .epochBoundary (listenerAfter 48)).mc.listenTimer = some 49 ∧
      (let s := after .candidateFillPoint candidate; let u := after .epochBoundary s;
        (s.lc.slots.beacon.isSome, s.mc.beaconDeadline, u.lc.slots.beacon, u.mc.beaconDeadline) =
          (true, true, none, false)) := by decide +kernel

/-- A residual of 8 under SLEW_MAX = 40, and a target L/2 = 1,000 ahead: the tie goes forward by the 32 left (R14, R15). -/
def migrating : State :=
  { activeFollower with
    tb := { activeFollower.tb with residual := 8, current := 1200, target := 200 }
    pcu := { activeFollower.pcu with pendingDuty := some (duty 7) } }

theorem witness_OutputCarrierStart :
    State.reset.config = none ∧ (comingDue .overtaken).tb.startMark = .overtaken ∧ (comingDue .due).tb.startMark = .due ∧
      (comingDue .due).config = some cfgA ∧ migrating.config = some cfgA ∧ acceptedValues cfgA ∧ migrating.tb.startMark ≠ .overtaken ∧
      (8 : Int).natAbs = min migrating.tb.residual.natAbs cfgA.slewMax ∧ 0 ≤ (8 : Int) * migrating.tb.residual ∧
      1000 < carrierLength cfgA ∧ (carrierLength cfgA : Int) ∣ (migrating.tb.target - migrating.tb.current - (1000 : Nat) : Int) ∧
      (32 : Int) = (if 2 * 1000 ≤ carrierLength cfgA then ((min 1000 (cfgA.slewMax - (8 : Int).natAbs) : Nat) : Int)
        else -((min (carrierLength cfgA - 1000) (cfgA.slewMax - (8 : Int).natAbs) : Nat) : Int)) := by
  unfold acceptedValues; decide +kernel

theorem test_output_carrier_start :
    let t := after .outputCarrierStart migrating
    (t.tb.residual, t.tb.current, t.tb.netStep, t.pcu.u.setting.compare, t.pcu.u.request, t.pcu.output) =
      (0, 1232, -24, 7, .high, .active) := by decide +kernel

/-- A LISTENING station whose timer runs. -/
def listener : State := listenerAfter 50

theorem witness_ListenExpiryFounds :
    outputLaw listener ∧ (State.reset.config = none ∧ follower.mc.station ≠ .listening ∧
      (at_ .listening).mc.listenTimer = none) ∧
      (listener.config = some cfgA ∧ listener.mc.station = .listening ∧ listener.mc.listenTimer ≠ none) ∧
      ∀ id : StationId, id ≠ listener.sid → listener.mc.roster[id.val].state = .absent := by
  unfold outputLaw; decide +kernel

theorem test_founding :
    let t := after .listenTimerExpiry listener
    (t.mc.station, t.mc.role, t.tb.lock, t.tb.epoch, t.mc.record.bind (·.slot)) =
      (.member, .reference, .locked, 0, some { rank := 0, target := 0 }) ∧
      t.lp.events = eventMask .joined ||| eventMask .membership ||| eventMask .locked := by decide +kernel

/-- A JOINING station after a number of tries, with its admission wait. -/
def joiner (tries boundaries : Nat) (refill : Bool) : State :=
  let s := at_ .joining
  { s with mc := { s.mc with
      joinAttempts := tries, joinRefillDue := refill
      admission := { accepted := decide (boundaries ≠ 0), boundaries := boundaries } } }

/-- A LEAVING station after a number of boundaries. -/
def leavingAfter (n : Nat) (acked : Bool) (s : State) : State :=
  { s with mc := { s.mc with leaveAttempts := n, leaveAcked := acked } }

theorem witness_JoinAndLeaveTimers :
    (follower.mc.station ≠ .joining ∧ (joiner 0 0 false).mc.joinRefillDue = false) ∧
      ((joiner 0 0 true).mc.station = .joining ∧ (joiner 0 0 true).mc.joinRefillDue = true ∧
        (joiner 0 0 true).config = some cfgA) ∧
      (leaver.mc.station = .leaving ∧ leaver.mc.role ≠ .reference ∧ leaver.mc.leaveAcked = false ∧
        (leavingAfter 2 true leaver).mc.leaveAcked = true ∧ (leavingAfter 2 true leaver).mc.leaveAttempts < 3 ∧
        3 ≤ (leavingAfter 3 true leaver).mc.leaveAttempts) ∧
      (leavingReference.mc.role = .reference ∧ 3 ≤ (leavingAfter 3 false leavingReference).mc.leaveAttempts) ∧
      ((joiner 3 1 false).mc.station = .joining ∧ 3 ≤ (joiner 3 1 false).mc.joinAttempts ∧
        (joiner 3 1 false).mc.admission = { accepted := true, boundaries := 1 }) ∧
      ((joiner 2 1 false).mc.joinAttempts < 3 ∧ (joiner 2 1 false).mc.admission = { accepted := true, boundaries := 1 }) ∧
      (joiner 2 0 false).mc.admission.accepted = false := by decide +kernel

theorem test_ends_of_join_and_leave :
    let t := after .joinFailure (joiner 3 1 false)
    let u := after .leaveTimeout (leavingAfter 3 true leaver)
    (t.mc.station, t.mc.listenTimer, t.lp.events) = (.listening, some 0, eventMask .joinFailed) ∧
      (u.mc.station, u.mc.record, u.tb.lock, u.lp.events) = (.configured, none, .free, eventMask .left) := by
  decide +kernel

theorem witness_CarrierFills :
    (slotState (at_ .joining).mc.station = false ∧ follower.mc.statusFilled = false ∧ slotState follower.mc.station = true) ∧
      (slotIn cfgA mask259 9 = { rank := 2, target := 1333 } ∧ 1 < 2 % epochCarriers cfgA ∧ 2 % epochCarriers cfgA ≤ 2) ∧
      (follower.config = some cfgA ∧ follower.mc.record ≠ none ∧ follower.mc.role ≠ .reference) ∧
      ({ follower.tb with phaseError := some 500 }.phaseError = some 500) ∧
      (candidate.mc.role = .candidate ∧ candidate.mc.station = .member ∧ candidate.config = some cfgA) ∧
      follower.mc.beaconDeadline = false ∧ (after .candidateFillPoint candidate).mc.beaconDeadline = true := by decide +kernel

theorem test_status_fill_saturates :
    let t := after (.statusFill 2) { follower with tb := { follower.tb with phaseError := some (-500) } }
    t.lc.slots.status = some (.status { epoch := 412, phaseError := 0x80, report :=
      { lock := .locked, active := false, tripped := false, role := .follower } }) := by decide +kernel

/-- A follower whose entry for station 2 is one boundary from its loss, with mail for it. -/
def losing : State :=
  let s := { follower with mc := { follower.mc with
    roster := follower.mc.roster.set 2 { RosterEntry.blank with state := .member, silence := 2 } } }
  mailing false true [mailTo 2 1 false none, mailTo 5 0 false none, mailTo 2 0 false none] s

theorem witness_PeerLost :
    (State.reset.config = none ∧ groupState (at_ .configured).mc.station = false) ∧
      (follower.mc.roster[2].silence + 1 < cfgA.lossEpochs) ∧ (follower.mc.roster[5].state = .joining) ∧
      (losing.config = some cfgA ∧ groupState losing.mc.station = true ∧ (2 : StationId) ≠ losing.sid ∧
        losing.mc.roster[2].state = .member ∧ cfgA.lossEpochs ≤ losing.mc.roster[2].silence + 1) ∧
      (losing.mu.queue.head?.map (·.destination) = some 2 ∧ losing.mu.inFlight = false) ∧
      (mailing true false losing.mu.queue losing).mu.inFlight = true ∧
      (∀ head, follower.mu.queue.head? = some head → head.destination ≠ 2 ∨ head.outcome ≠ none) := by decide +kernel

theorem test_peer_lost_by_silence :
    let t := after (.peerLostBySilence 2) losing
    (t.mc.roster[2].state, t.mu.queue.map (·.outcome), t.mu.retryDue) = (.lost, [none, some .undelivered], false) ∧
      t.mu.receipts = [⟨57, 2, .undelivered, 1⟩] ∧ t.lp.events = eventMask .peerLost ||| eventMask .receipt ∧
      t.lc.slots.mail.isSome = true := by decide +kernel

/-- The candidate after a number of carriers of its election. -/
def candidateAfter (carriers : Nat) : State :=
  { candidate with mc := { candidate.mc with
      election := some { carriers := carriers, standing := some { rank := 1, count := 2 } } } }

/-- The follower with a retry due, its destination a MEMBER that is not lost at the next count. -/
def retrying : State := mailing false true [mailTo 2 1 false none] follower

theorem retrying_mailLaw : mailLaw retrying := by
  refine ⟨by decide, by decide, by decide, ?_, ?_, fun _ => ⟨_, _, rfl, rfl⟩⟩
  · intro f hs; simp [retrying, show (mailing false true [mailTo 2 1 false none] follower).lc.slots.mail = none from rfl] at hs
  · intro own ho; simp [retrying, show (mailing false true [mailTo 2 1 false none] follower).lc.onLine = none from rfl] at ho

/-- The stations that take a retry at a boundary: a follower, a reference, a LEAVING follower and a JOINING station. -/
def retriers : List State :=
  [follower, reference, leavingAfter 2 false leaver,
    { joiner 0 0 false with mc := { (joiner 0 0 false).mc with roster := follower.mc.roster } }].map
    (mailing false true [mailTo 2 1 false none])

/-- The premises of the retry clauses (R127): a destination that stays MEMBER, with a retry due and with none; no mail; and
a head that is complete. -/
theorem witness_retryTaken :
    (∀ s ∈ retriers, s.mu.queue = mailTo 2 1 false none :: [] ∧ s.mu.retryDue = true ∧
        s.mc.roster[2].state = .member ∧ (after .epochBoundary s).mc.roster[2].state = .member) ∧
      (∀ s ∈ retriers.map (mailing false false [mailTo 2 1 false none]),
        s.mu.retryDue = false ∧ (after .epochBoundary s).mc.roster[2].state = .member) ∧
      (follower.mu.queue = [] ∧ follower.mu.retryDue = false) ∧
      (mailing false false [mailTo 7 1 false (some .undelivered)] follower).mu.queue.head?.map (·.outcome) =
        some (some .undelivered) := by decide +kernel

/-- A retry that is due fills the MAIL slot at the boundary, and one that is not leaves it as it stands (R127). -/
theorem test_boundary_fills_a_retry :
    (∀ s ∈ retriers, let t := after .epochBoundary s
      (t.lc.slots.mail, t.mu.retryDue, t.mu.queue) = (some (mailFrame (mailTo 2 1 false none)), false, s.mu.queue)) ∧
      ∀ s ∈ retriers.map (mailing false false [mailTo 2 1 false none]),
        (after .epochBoundary s).lc.slots.mail = none := by decide +kernel

theorem witness_MemberBoundary :
    (follower.config = some cfgA ∧ follower.tb.boundary ≠ .overtaken ∧ follower.mc.station = .member ∧
      follower.mc.role ≠ .reference ∧ (∀ a, follower.tb.startMark ≠ .taken a) ∧ follower.mc.role ≠ .candidate) ∧
      mailLaw follower ∧
      (mailLaw (candidateAfter 3) ∧ (candidateAfter 3).mc.role = .candidate ∧ (candidateAfter 3).tb.boundary = .none ∧
        (∃ j : Nat, 3 + 1 = 2 + 2 * 1 + 2 * 2 * j) ∧ ∀ j : Nat, 0 + 1 ≠ 2 + 2 * 1 + 2 * 2 * j) ∧
      ((timed [1, 9]).pcu.timed = ⟨413, duty 1⟩ :: [⟨421, duty 9⟩] ∧ (413 : EpochNumber) = (timed [1, 9]).tb.epoch + 1) ∧
      (mailLaw (timed [1, 9]) ∧ mailLaw (tripped .rearm false false follower)) ∧
      (∀ r, (timed [9]).pcu.timed.head? = some r → r.epoch ≠ 413) ∧
      ((tripped .rearm false false follower).tc.trip = .rearm ∧ lockHeld follower.tb.lock = true) ∧
      follower.mc.record.bind (·.slot) = some { rank := 2, target := 1333 } ∧ mailLaw retrying := by
  refine ⟨by decide +kernel, (frame_laws_of_members _ (by simp [members])).1,
    ⟨?_, rfl, rfl, ⟨0, rfl⟩, fun j => by omega⟩, by decide +kernel, ⟨?_, ?_⟩,
    by decide +kernel, by decide +kernel, by decide +kernel, retrying_mailLaw⟩ <;>
    exact mailLaw_of_quiet ⟨rfl, rfl⟩ (by decide +kernel) (by decide +kernel) (by decide +kernel) rfl rfl

/-- A candidate's fill point at the boundary: its beacon is filled, with the peers of its roster and itself (R48, R52). -/
theorem test_boundary_at_a_candidate :
    ((after .epochBoundary (candidateAfter 3)).lc.slots.beacon, (after .epochBoundary (candidateAfter 0)).lc.slots.beacon) =
      (some (.beacon (beaconFrame cfgA mask259 false)), none) := by decide +kernel

/-- A boundary at a follower: silence is counted, the first timed record is due, and REARM is left for ARMED. -/
theorem test_boundary_at_a_follower :
    let s := tripped .rearm false false (timed [1, 9])
    let t := after .epochBoundary { s with mc := { s.mc with
      roster := s.mc.roster.set 2 { RosterEntry.blank with state := .member, silence := 2 } } }
    (t.mc.roster[2].state, t.mc.roster[2].silence, t.mc.roster[5].silence) = (.lost, 3, 0) ∧
      (t.pcu.due, t.pcu.timed.length, t.tc.trip, t.tb.epoch, t.tb.epo) = (some (duty 1), 1, .armed, 413, true) := by
  decide +kernel

theorem witness_ReferenceBoundary :
    reference.config = some cfgA ∧ reference.tb.boundary ≠ .overtaken ∧ reference.mc.station = .member ∧
      reference.mc.role = .reference := by decide +kernel

/-- Station 5, JOINING at the reference, is taken into the next mask (2.10, step 3). -/
theorem test_boundary_at_the_reference :
    let t := after .epochBoundary reference
    (t.mc.record.map (·.mask), t.mc.roster[5].state, t.mc.record.bind (·.slot)) =
      (some mask259, .member, some { rank := 2, target := 1333 }) ∧ t.tb.target = 1333 ∧ t.tb.current = 0 ∧
      t.lc.slots.beacon.isSome = true := by decide +kernel

theorem witness_LeavingBoundary :
    (∀ s ∈ [leavingAfter 3 false leaver, leavingAfter 2 false leaver, leavingAfter 2 false leavingReference],
      s.config = some cfgA ∧ s.tb.boundary ≠ .overtaken ∧ s.mc.station = .leaving) ∧
      3 ≤ (leavingAfter 3 false leaver).mc.leaveAttempts ∧ (leavingAfter 2 false leaver).mc.leaveAttempts < 3 ∧
      (∀ s ∈ [joiner 3 1 false, joiner 2 1 true, joiner 0 2 true, joiner 0 0 false],
        s.config = some cfgA ∧ s.tb.boundary ≠ .overtaken ∧ s.mc.station = .joining) ∧
      (joiner 3 1 false).mc.admission = { accepted := true, boundaries := 1 } ∧
      (joiner 0 2 true).mc.admission = { accepted := true, boundaries := 2 } ∧
      (joiner 0 0 false).mc.admission.accepted = false := by
  decide +kernel

/-- The second boundary of an admission wait: the fourth try that fails, and one before it (R25, R26). -/
theorem test_boundary_in_joining :
    let t := after .epochBoundary (joiner 3 1 false)
    let u := after .epochBoundary (joiner 2 1 false)
    (t.mc.station, t.mc.listenTimer, u.mc.station, u.mc.joinAttempts, u.lc.slots.join.isSome) =
      (.listening, some 0, .joining, 3, true) := by decide +kernel

theorem test_handover_beacon :
    (after .epochBoundary leavingReference).lc.slots.beacon = some (.beacon (beaconFrame cfgA 0x24 true)) := by
  decide +kernel

theorem witness_ElectionStart : (∀ s ∈ members, roleLaw s) ∧ roleLaw (at_ .joining) ∧
    (reference.mc.role = .reference ∧ onLineState (at_ .configured).mc.station = false ∧ candidate.mc.election ≠ none) ∧
    (follower.mc.role ≠ .reference ∧ onLineState follower.mc.station = true ∧ follower.mc.election = none) ∧
    (follower.mc.record.bind (·.reference) = some 2 ∧ follower.mc.roster[2].state ≠ .lost) ∧
    ((at_ .joining).mc.record.bind (·.reference) = none ∧ (at_ .joining).mc.station ≠ .member) ∧
    (follower.mc.station = .member ∧ follower.mc.role = .follower) :=
  ⟨fun s h => (laws_of_members s h).2.2.2.2.2.1, by unfold roleLaw; decide +kernel, by decide +kernel⟩

/-- 3.6, step 2: the last mask without 2 is {5, 9}, and station 9 has rank 1. -/
theorem test_election_start :
    let t := after .electionStart follower
    (t.mc.role, t.mc.election, t.mc.roster[2].state, t.lp.events) =
      (.candidate, some { carriers := 0, standing := some { rank := 1, count := 2 } }, .lost, eventMask .peerLost) := by
  decide +kernel

/-- A follower in a lock state with a count of missed beacons. -/
def missing (lock : LockState) (missed : Nat) (seen : Bool) : State :=
  { follower with tb := { follower.tb with
      lock := lock, missed := missed, windowOpen := true, windowSeen := seen
      inWindow := if lock = .acquire then 0 else 2 } }

theorem witness_MissedBeacons :
    acceptedValues cfgA ∧ follower.config = some cfgA ∧ (missing .locked 0 true).tb.windowSeen = true ∧
      ((missing .locked 0 false).mc.role ≠ .reference ∧ (missing .locked 0 false).tb.lock = .locked ∧
        (missing .locked 0 false).tb.windowSeen = false ∧ min 8 (0 + 1) = 1) ∧
      ((missing .holdover 2 false).tb.lock = .holdover ∧ cfgA.holdoverEpochs ≤ min 8 (2 + 1) ∧
        lockHeld (missing .holdover 2 false).tb.lock = true) ∧ min 8 (1 + 1) = 2 ∧ reference.mc.role = .reference := by
  unfold acceptedValues; decide +kernel

theorem test_three_misses :
    let t1 := after .missedBeacon (missing .locked 0 false)
    let t2 := after .missedBeacon (missing .holdover 1 false)
    let t3 := after .holdoverExpiry (missing .holdover 2 false)
    (t1.tb.lock, t1.tb.missed, t1.lp.events) = (.holdover, 1, eventMask .holdover) ∧
      (t2.tb.lock, t2.mc.role) = (.holdover, .candidate) ∧
      (t3.tb.lock, t3.tb.missed, t3.lp.events) = (.acquire, 3, eventMask .lockLost) := by decide +kernel

/-- A settled phase just behind an epoch boundary: epoch 412 at carrier 15, position 1,990, with 20 counts of a step left. -/
def settling : State := { follower with tb := { follower.tb with carrier := 15, position := 1990, syncLeft := 20 } }

theorem witness_BeaconMarker :
    State.reset.config = none ∧ (settling.config = some cfgA ∧ 10 < epochCounts cfgA) ∧ acceptedValues cfgA ∧
      ((settling.tb.carrier * carrierLength cfgA + settling.tb.position + countsPast settling.tb : Nat) : Int) +
          settling.tb.syncLeft = 1 * epochCounts cfgA + 10 ∧
      settling.lc.onLine = none ∧ settling.lc.beganStill = false ∧
      (sendingFrame (.beacon (beaconFrame cfgA 1 false)) settling).lc.onLine ≠ none := by
  unfold acceptedValues; decide +kernel

theorem test_marker_sample :
    (after .beaconMarker settling).tb.sample =
      some { epoch := 413, carrier := 0, position := 10, ahead := 1, stepsSince := 0, boundariesSince := 0 } := by
  decide +kernel

theorem witness_BeaconNotAccepted :
    State.reset.config = none ∧
      (reference.mc.station ≠ .listening ∧ ¬(acceptedBy43 9 reference ∧ ∃ cfg, reference.config = some cfg ∧
        sameGeometry cfg 2000 .edge .e16 = true)) ∧
      (listener.config = some cfgA ∧ listener.mc.station = .listening ∧ sameGeometry cfgA 2001 .edge .e16 = false) := by
  refine ⟨rfl, ⟨by decide, ?_⟩, by decide +kernel⟩
  rintro ⟨h, -⟩
  revert h
  unfold acceptedBy43
  simp [reference, inGroup, at_]

theorem test_own_id_heard_by_the_reference :
    let t := after (.beaconReceived 9 (beaconAt 412 0 0 mask259)) reference
    (t.mc.role, t.lp.events, t.lc.replyAck) = (.reference, eventMask .conflictSeen, true) := by decide +kernel

/-- The beacons that the clauses name: of the reference, leaving station 9 out, a handover to 9, and a handover with no mask. -/
theorem witness_BeaconAccepted :
    (∀ s ∈ members, roleLaw s) ∧ (roleLaw joinerOf18 ∧ roleLaw listenerOf18) ∧
      (∀ s ∈ joinerOf18 :: listenerOf18 :: members, electionLaw s) ∧
      sameGeometry cfgA (beaconAt 414 0 301 mask259).period .edge .e16 = true ∧
      (acceptedBy43 2 follower ∧ acceptedBy43 2 leaver ∧ acceptedBy43 2 reference ∧ acceptedBy43 2 candidate ∧
        acceptedBy43 2 joinerOf18 ∧ acceptedBy43 2 listenerOf18 ∧ acceptedBy43 2 leavingReference) ∧
      (inMask 0x24 leaver.sid = false ∧ inMask mask259 leaver.sid = true) ∧ slotAfter (beaconAt 414 0 301 mask259) joinerOf18 ∧
      ¬slotAfter (beaconAt 414 0 301 0x24) follower ∧
      (let b := { beaconAt 414 0 301 0x200 with handover := true };
        b.handover = true ∧ lowestId b.mask = some follower.sid ∧ slotAfter b follower) := by
  refine ⟨fun s h => (laws_of_members s h).2.2.2.2.2.1, ⟨?_, ?_⟩, ?_, by decide +kernel, ?_, by decide +kernel, ?_, ?_, ?_⟩
  · unfold roleLaw; decide +kernel
  · unfold roleLaw; decide +kernel
  · unfold electionLaw; decide +kernel
  · simp [acceptedBy43, follower, leaver, reference, candidate, leavingReference, inGroup, at_, joinerOf18, listenerOf18]; decide
  · unfold slotAfter; decide +kernel
  · unfold slotAfter; decide +kernel
  · unfold slotAfter; decide +kernel

theorem test_displaced_and_handed_over :
    let t := after (.beaconReceived 2 (beaconAt 413 0 0 0x24)) follower
    let u := after (.beaconReceived 2 { beaconAt 413 0 0 0x220 with handover := true })
      { follower with sid := 5, mc := { follower.mc with record := none } }
    let v := after (.beaconReceived 2 { beaconAt 413 0 0 0 with handover := true }) follower
    (t.mc.station, t.mc.role, t.lc.slots.join.isSome, t.mc.roster[5].state) = (.joining, .none, true, .member) ∧
      (u.mc.role, u.tb.lock, u.mc.roster[2].state) = (.reference, .locked, .absent) ∧
      (v.mc.station, v.mc.record, v.mc.roster[2].state) = (.joining, none, .absent) := by decide +kernel

/-- A reference that yields posts REFERENCE_CHANGED, though the handover beacon gives it the role again (R57, R61). -/
theorem test_reference_yields :
    let t := after (.beaconReceived 2 { beaconAt 413 0 0 0x200 with handover := true }) reference
    (t.mc.role, hasEvent t.lp.events .referenceChanged, t.tb.sample) = (.reference, true, none) := by decide +kernel

/-- The measurement of 1.8, step 1: e0 = e = 8,572, k = -1 and a jump across the boundary of the epoch. -/
theorem witness_Measurement :
    (State.reset.config = none) ∧ (follower.config ≠ none ∧ follower.tb.sample = none) ∧
      listenerOf18.config = some cfgA ∧ acceptedValues cfgA ∧
      listenerOf18.tb.sample = some (sampleAt 7 11 1742) ∧
      ((32000 : Int) ∣ 314 - (11 * carrierLength cfgA + 1742 : Nat) - 8572 ∧ -(32000 : Int) < 2 * 8572 ∧
        2 * 8572 ≤ (32000 : Int)) ∧ ((32000 : Int) ∣ 8572 - (sampleAt 7 11 1742).stepsSince - 8572) ∧
      ((-1) * (32000 : Int) ≤ 314 - 8572 ∧ 314 - 8572 < (-1 + 1) * (32000 : Int)) ∧ epochCounts cfgA = 32000 ∧
      ((listenerOf18.tb.carrier * carrierLength cfgA + listenerOf18.tb.position + countsPast listenerOf18.tb : Nat) : Int) +
          listenerOf18.tb.syncLeft + 8572 = 1 * 32000 + 1238 ∧
      (cfgA.window < (21 : Int).natAbs ∧ ¬4 * cfgA.window < (80 : Int).natAbs ∧ 4 * cfgA.window < (81 : Int).natAbs) := by
  unfold acceptedValues; decide +kernel

theorem witness_JoinAndLeaveFrames :
    (State.reset.config = none ∧ follower.config = some cfgA) ∧ (follower.mc.station = .member ∧ (9 : StationId) = follower.sid) ∧
      (reference.mc.role = .reference ∧ (5 : StationId) ≠ reference.sid ∧ (2000 : BitVec 16).toNat = cfgA.period ∧
        (2001 : BitVec 16).toNat ≠ cfgA.period) ∧
      groupState (at_ .configured).mc.station = false ∧
      (groupState follower.mc.station = true ∧ (5 : StationId) ≠ follower.sid ∧ follower.mc.roster[2].state = .member ∧
        follower.mc.roster[5].state = .joining ∧ follower.mc.roster[6].state ≠ .member ∧
        follower.mc.roster[6].state ≠ .joining) := by decide +kernel

theorem test_join_replies :
    let ask (p : BitVec 16) (src : StationId) (s : State) : Bool × Bool :=
      let t := after (.joinReceived src { period := p, mode := .edge, length := .e16 }) s
      (t.lc.replyAck, t.lc.replyRefuse)
    (ask 2000 6 reference, ask 2001 6 reference, ask 2000 9 follower, ask 2000 6 follower) =
      ((true, false), (false, true), (false, true), (false, false)) ∧
    (after (.joinLeaveReplyComplete 6 .join true false) follower).mc.roster[6].state = .joining ∧
    (after (.joinLeaveReplyComplete 2 .leave true false) follower).mc.roster[2].state = .leaving ∧
    (after (.joinLeaveReplyComplete 5 .leave true false) follower).mc.roster[5].state = .absent := by decide +kernel

theorem witness_StatusReceived :
    ((2 : StationId) ≠ follower.sid ∧ follower.mc.station = .member) ∧ (at_ .listening).mc.station = .listening ∧
      onLineState (at_ .configured).mc.station = false := by decide +kernel

theorem test_status_of_a_lost_entry :
    let s := { follower with mc := { follower.mc with
      roster := follower.mc.roster.set 6 { RosterEntry.blank with state := .lost, silence := 3 } } }
    let r : Report := { lock := .acquire, active := false, tripped := true, role := .follower }
    let t := after (.statusReceived 6 { epoch := 9, report := r, phaseError := 0x81 }) s
    t.mc.roster[6] = { state := .lost, silence := 0, lastHeard := 412, report := some r, phaseError := some 0x81 } := by
  decide +kernel

theorem witness_MailReceived :
    groupState (at_ .listening).mc.station = false ∧ groupState full.mc.station = true ∧ full.mu.filter[6] ≠ some 7 ∧
      (full.mu.bufA ≠ none ∧ full.mu.bufB ≠ none) ∧ (follower.mu.bufA = none ∧ follower.mu.filter[6] ≠ some 7) ∧
      ((MailUnit.reset.filter.set 6 (some 7))[6] = some 7) := by decide +kernel

theorem test_trip_frame_appends_its_source :
    let s := tripped .trippedRemote false false follower
    ([after (.tripFrameReceived 8 1 640) s, after (.tripFrameReceived 8 1 640) follower,
      after (.tripFrameReceived 3 1 640) { s with tc := { s.tc with origins := [3, 8] } }].map (·.tc.origins)) =
        [[8], [], [3, 8]] := by decide +kernel

/-- A follower in IDLE with a STATUS and a MAIL waiting. -/
def waiting : State :=
  { follower with lc := { follower.lc with
      framer := .idle
      slots := { TxSlots.empty with status := some (.status (ownStatus follower)), mail := some (mailFrame (mailTo 2 0 false none)) } } }

/-- The same station in the arbitration field of its MAIL. -/
def arbitrating : State := { waiting with lc := { waiting.lc with framer := .frame, attempt := some .mail, ltx := false } }

/-- A station at a count of a bit time of a frame: after the fourth count of a bit index, or after the eighth. -/
def inFrame (index phase : Nat) (bits : List Bool) (s : State) : State :=
  { s with lc := { s.lc with framer := .frame, bitIndex := index, bitPhase := phase, rxBits := bits } }

/-- The sender of a beacon whose kind bits were all sampled dominant, at its first length bit. -/
def markedSender : State := inFrame 9 7 (List.replicate 9 false) (sendingFrame (.beacon (beaconFrame cfgA mask259 false)) reference)

theorem witness_FramerCommands :
    (follower.lc.framer ≠ .idle ∧ { follower.lc with framer := .idle }.framer = .idle ∧ FrameFault.badCrc ≠ .format ∧
      (follower.lc.onLine = none ∧ follower.lc.attempt = none) ∧ (sendingFrame .leave follower).lc.onLine ≠ none) ∧
      ((∀ index phase bits, oneCount (inFrame index phase bits follower) ∧ oneCount (inFrame index phase bits arbitrating) ∧
          oneCount (inFrame index phase bits (sendingFrame .leave follower))) ∧ oneCount follower ∧ oneCount waiting) ∧
      ((7 + 1) % 8 = 0 ∧ (3 + 1) % 8 = 4 ∧ (4 + 1) % 8 ≠ 4) ∧
      (let s := inFrame 9 7 (frameBits 2 .leave) follower;
        s.lc.replyDue = false ∧ s.lc.framer = .frame ∧ s.lc.bitIndex = 9 ∧ s.lc.txOn = true ∧ s.lc.onLine = none ∧
          s.lc.attempt = none) ∧
      (let s := { inFrame 40 7 [] (sendingFrame .leave follower) with lc :=
          { (inFrame 40 7 [] (sendingFrame .leave follower)).lc with replyDue := true } };
        s.lc.replyDue = true ∧ s.lc.onLine ≠ none) ∧
      (arbitrating.lc.onLine = none ∧ arbitrating.lc.attempt = some .mail ∧ slotOf arbitrating.lc.slots .mail ≠ none) ∧
      (follower.lc.framer = .waitIdle ∧ waiting.lc.framer = .idle ∧ (10 : Nat) ≤ (frameBits 9 .leave).length) ∧
      rxStatus ((frameBits 2 .leave).dropLast ++ (frameBits 2 .leave).drop ((frameBits 2 .leave).length - 1)) =
        .complete 4 2 [] true [] ∧
      (rxStatus (List.replicate 13 true) = .formatError ∧
        (∀ r, rxStatus (frameBits 2 .leave ++ [r, true]) = .complete 4 2 [] true [r, true]) ∧
        (∀ r, rxStatus (frameBits 2 (.trip .pin 0) ++ [r, true]) = .complete 0 2 [1, 0, 0] true [r, true]) ∧
        (inFrame ((frameBits 9 .leave).length + 2) 3 [] (sendingFrame .leave follower)).lc.bitIndex =
          (frameBits follower.sid .leave).length + 2) := by
  refine ⟨by decide +kernel, ⟨fun _ _ _ => ⟨⟨rfl, rfl, rfl⟩, ⟨rfl, rfl, rfl⟩, ⟨rfl, rfl, rfl⟩⟩, ⟨rfl, rfl, rfl⟩,
    ⟨rfl, rfl, rfl⟩⟩, by decide +kernel⟩

/-- A format error; the refusal bit of a LEAVE and of a TRIP at a receiver; the same at a sender (R108, R113, R114, R118). -/
theorem test_ends_of_a_frame :
    let rows (s : State) := match step s with
      | .next t => (t.pending, t.lc.replyDue)
      | _ => ([], false)
    rows (inFrame 13 3 (List.replicate 12 true) follower) = ([.frameDiscarded .format], false) ∧
      rows (inFrame 31 3 (frameBits 2 .leave ++ [false]) follower) = ([], true) ∧
      rows (inFrame 58 3 (frameBits 2 (.trip .pin 0) ++ [false]) follower) = ([.refusalBitSampled], false) ∧
      rows (inFrame ((frameBits 9 .leave).length + 2) 3 (frameBits 9 .leave ++ [false]) (sendingFrame .leave follower)) =
        ([], true) := by decide +kernel

/-- The sender of a beacon has its marker though a kind bit of it was sampled otherwise (R6, R111, R112). -/
theorem test_marker_of_a_sender :
    (match step markedSender with
      | .next t => t.pending.contains .beaconMarker
      | _ => false) = true := by decide +kernel

theorem witness_StartAndArbitration :
    follower.lc.framer ≠ .idle ∧ State.reset.lc.txOn = false ∧
      (waiting.lc.framer = .idle ∧ waiting.lc.txOn = true ∧ slotOf waiting.lc.slots .status ≠ none ∧
        waiting.pins.lrx ≠ .forced true) ∧
      (∀ k ∈ [FrameKind.trip, .beacon, .join, .leave], kindCode k < kindCode .status ∧ slotOf waiting.lc.slots k = none) ∧
      follower.lc.attempt = none ∧
      (arbitrating.lc.attempt = some .mail ∧
        slotOf arbitrating.lc.slots .mail = some (mailFrame (mailTo 2 0 false none)) ∧
        frameKind (mailFrame (mailTo 2 0 false none)) = .mail ∧
        (payloadBytes (mailFrame (mailTo 2 0 false none))).length ≤ 12) := by decide +kernel

theorem test_start_and_passing :
    let s := after .startOpportunity waiting
    let t := after .arbitrationPassed arbitrating
    (s.lc.attempt, s.lc.framer, s.lc.ltx) = (some .status, .frame, false) ∧
      (t.lc.attempt, t.lc.slots.mail, t.lc.onLine.map (·.returnable), t.mu.inFlight, t.lc.ltx) =
        (none, none, some true, true, false) := by decide +kernel

/-- A JOINING station whose JOIN is on the line, after a number of tries. -/
def joinOnLine (tries : Nat) : State :=
  sendingFrame (.join { period := 2000, mode := .edge, length := .e16 }) (joiner tries 0 false)

theorem witness_FrameSuccess :
    follower.lc.onLine = none ∧ (sendingFrame (.trip .pin 0) follower).lc.onLine ≠ none ∧
      (let s := mailing true false [mailTo 5 1 false none] follower;
        s.mu.inFlight = true ∧ s.mu.queue = [mailTo 5 1 false none] ∧ (mailTo 5 1 false none).destLost = false ∧
          (mailTo 5 1 false none).attempts + 1 < 3) ∧
      3 ≤ (mailTo 5 2 false none).attempts + 1 ∧ (mailTo 5 0 true none).destLost = true ∧
      (follower.mc.station ≠ .joining ∧ (joinOnLine 3).mc.station = .joining ∧ 3 ≤ (joinOnLine 3).mc.joinAttempts ∧
        (joinOnLine 2).mc.joinAttempts < 3 ∧ (joinOnLine 2).lc.onLine ≠ none) ∧
      frameKind .leave = .leave := by decide +kernel

theorem test_join_outcomes :
    let t (n : Nat) (ack refuse : Bool) := after (.frameSuccess ack refuse) (joinOnLine n)
    ((t 0 true true).mc.station, (t 0 true true).lp.events) = (.conflict, eventMask .conflict) ∧
      (t 0 true false).mc.admission = { accepted := true, boundaries := 0 } ∧
      ((t 2 false false).mc.joinAttempts, (t 2 false false).mc.joinRefillDue) = (3, true) ∧
      ((t 3 false false).mc.station, (t 3 false false).lp.events) = (.listening, eventMask .joinFailed) := by decide +kernel

theorem witness_BeaconSent :
    (follower.config = some cfgA ∧ follower.mc.role ≠ .candidate) ∧
      (leavingReference.mc.role = .reference ∧ leavingReference.mc.station = .leaving ∧
        (beaconFrame cfgA 0x24 true).handover = true) ∧
      (candidate.config = some cfgA ∧ candidate.mc.role = .candidate ∧
        (sendingFrame (.beacon (beaconFrame cfgA 0x220 false)) candidate).lc.onLine ≠ none) ∧
      (inMask 0x220 candidate.sid = true ∧ inMask 0x20 candidate.sid = false) ∧ outputLaw candidate := by
  refine ⟨by decide +kernel, by decide +kernel, by decide +kernel, by decide +kernel,
    (laws_of_members _ (by simp [members])).2.2.2.1⟩

/-- 3.6, step 4: the candidate's beacon has been sent. -/
theorem test_candidate_becomes_reference :
    let s := { candidate with tb := { candidate.tb with lock := .holdover, missed := 2 } }
    let t := after (.frameSuccess true false) (sendingFrame (.beacon { beaconFrame cfgA 0x220 false with epoch := 502 }) s)
    (t.mc.role, t.mc.election, t.tb.lock, t.tb.missed, t.tb.target) = (.reference, none, .locked, 0, 1000) ∧
      t.mc.record = some { epoch := 502, mask := 0x220, reference := some 9, slot := some ⟨1, 1000⟩, handover := false } ∧
      t.lp.events = eventMask .referenceChanged ||| eventMask .membership ||| eventMask .locked |||
        eventMask .peerLost := by decide +kernel

/-- A station with a frame on the line after a number of failures. -/
def failingAfter (n : Nat) (s : State) : State := { s with lc := { s.lc with failures := n } }

theorem witness_TransmitFailures :
    follower.lc.onLine = none ∧ State.reset.lc.txOn = false ∧ (failingAfter 14 follower).lc.failures < 15 ∧
      (follower.lc.txOn = true ∧ 15 ≤ (failingAfter 15 follower).lc.failures) ∧
      (failingAfter 15 (sendingFrame .leave follower)).lc.onLine ≠ none ∧
      (let s := mailing true false [mailTo 2 0 true none] follower;
        s.mu.inFlight = true ∧ s.mu.queue = [mailTo 2 0 true none] ∧ (mailTo 2 0 true none).destLost = true) ∧
      (mailTo 2 0 false none).destLost = false := by decide +kernel

theorem test_failures_and_isolation :
    let t := after .transmitFailure (failingAfter 14 (sendingFrame .leave leaver))
    let u := after .transmitFailure (failingAfter 15 (sendingFrame .leave leaver))
    (t.lc.failures, t.lc.slots.leave, t.lc.onLine.isSome) = (15, some .leave, false) ∧
      (u.mc.station, u.lc.txOn, u.lc.slots, u.lp.events) = (.isolated, false, .empty, eventMask .isolated) := by
  decide +kernel

theorem witness_SlotsOfMask :
    (acceptedValues cfgA ∧ acceptedValues { cfgA with period := 1200, deadTime := 0 }) ∧ inMask mask259 9 = true ∧
      (inMask mask259 5 = true ∧ inMask mask259 2 = true ∧ (2 : StationId) < 5) ∧ lowestId mask259 = some 2 ∧
      (slotIn cfgA mask259 5).rank = (slotIn cfgA mask259 2).rank + 1 := by
  unfold acceptedValues; decide +kernel

theorem witness_FrameRoundTrip :
    (1 ≤ (List.replicate 8 (0 : Byte)).length ∧ (List.replicate 8 (0 : Byte)).length ≤ 8) ∧
      39 < (frameBits 2 (.trip .pin 0)).length + 1 ∧ (List.replicate 16 true) ≠ List.replicate 16 false := by decide +kernel

/-- A mail whose data are zeros takes a fill bit for each, and comes through them (R109, R114). -/
theorem test_mail_of_zeros :
    (frameBits 2 (.mail { destination := 9, ticket := 0, data := [0, 0] })).length = 9 + 4 + 32 + 3 + 16 ∧
      rxStatus (frameBits 2 (.mail { destination := 9, ticket := 0, data := [0, 0] }) ++ [false, true]) =
        .complete 6 2 [9, 0, 0, 0] true [false, true] := by decide +kernel

theorem witness_LawsHoldAtReset : State.reset = State.reset ∧ ∃ t, exec (.hardwareReset 9 false) follower = .next t :=
  ⟨rfl, ⟨_, rfl⟩⟩

/-- A step of a member for each statement that a law is kept. -/
theorem witness_laws_kept : ∀ s ∈ members, (electionLaw s ∧ (∀ ch, stageLaw (channelOf s.pcu ch))) ∧ (tripLaw s ∧ outputLaw s ∧ dutyListLaw s ∧ roleLaw s ∧ configLaw s ∧
    standingStillLaw s ∧ countsLaw s ∧ mailLaw s ∧ slotLaw s ∧ ownBeaconLaw s) ∧
    ∃ t, step { s with pending := [.epochBoundary] } = .next t := by
  intro s h
  obtain ⟨h1, h2, h3, h4, h5, h6, h7⟩ := laws_of_members s h
  obtain ⟨h8, h9, h10⟩ := frame_laws_of_members s h
  refine ⟨?_, ⟨h3, h4, h5, h6, h1, h2, h7, h8, h9, h10⟩, ⟨_, rfl⟩⟩
  have hs : ∀ s ∈ members, electionLaw s ∧ stageLaw s.pcu.u ∧ stageLaw s.pcu.v ∧ stageLaw s.pcu.w := by
    unfold electionLaw stageLaw
    decide +kernel
  have hs := hs s h
  exact ⟨hs.1, fun ch => by cases ch <;> [exact hs.2.1; exact hs.2.2.1; exact hs.2.2.2]⟩

theorem witness_TripAndOutputLawsKept : outputLaw activeFollower ∧ activeFollower.pcu.output = .active :=
  ⟨(laws_of_members _ (by simp [members])).2.2.2.1, rfl⟩

theorem witness_DutyListLawKept : dutyListLaw (timed [1, 2, 200]) ∧
    ∃ t, step { timed [1, 2, 200] with pending := [.epochBoundary] } = .next t :=
  ⟨by unfold dutyListLaw; decide +kernel, ⟨_, rfl⟩⟩

theorem witness_MailLawKept : slotLaw follower ∧ mailLaw follower ∧
    ∃ t, step { follower with pending := [.postMail [5, 1, 2]] } = .next t :=
  ⟨(frame_laws_of_members _ (by simp [members])).2.1, (frame_laws_of_members _ (by simp [members])).1, ⟨_, rfl⟩⟩

/-- The origins list by its three cases: a station that is ARMED, an ID that is on the list, a list that is full. -/
theorem witness_TripAndLeaveReceived :
    let listed (ids : List StationId) := { follower with tc := { follower.tc with trip := .trippedLocal, origins := ids } }
    let heard (s : State) := (after (.tripFrameReceived 9 1 412) s).tc.origins
    (heard follower, heard (listed []), heard (listed [9]), heard (listed [0, 1, 2, 3, 4, 5, 6, 7])) =
      ([], [9], [9], [0, 1, 2, 3, 4, 5, 6, 7]) := by decide +kernel

theorem witness_RoleAndRecordLawsKept : roleLaw follower ∧ recordLaw follower ∧ ownBeaconLaw follower ∧ slotLaw follower ∧
    (electionLaw candidate ∧ candidate.mc.role = .candidate) ∧
    ∃ t, step { follower with pending := [.electionStart] } = .next t :=
  ⟨(laws_of_members _ (by simp [members])).2.2.2.2.2.1, recordLaw_of_follower,
    (frame_laws_of_members _ (by simp [members])).2.2, (frame_laws_of_members _ (by simp [members])).2.1,
    ⟨fun _ => by decide +kernel, rfl⟩, ⟨_, rfl⟩⟩

theorem witness_CountsAndEventsKept :
    (∀ sid fltn, ({ follower with pending := [.halt []] } : State).pending.head? ≠ some (.hardwareReset sid fltn)) ∧
      (∀ payload, ({ follower with pending := [.halt []] } : State).pending.head? ≠ some (.readEvents payload)) ∧
      ({ follower with pending := [.halt []] } : State).pending ≠ [] ∧ (follower.pending = [] ∧ oneCount follower) ∧
      follower.config = some cfgA ∧ hasEvent (post .trip follower).lp.events .trip = true := by
  refine ⟨fun _ _ => by simp, fun _ => by simp, by simp, ⟨rfl, rfl, rfl, rfl⟩, rfl, by decide +kernel⟩

/-- An ACTIVE follower stays ACTIVE over an output carrier start, over a boundary, and over a command that moves neither. -/
theorem witness_SlewAndDeadTime :
    (migrating.config = some cfgA ∧ migrating.pcu.output = .active) ∧
      ([Instr.outputCarrierStart, .epochBoundary, .readStatus []].all fun c =>
        decide ((after c migrating).pcu.output = .active)) = true ∧ outputLaw migrating ∧
      (oneCount migrating ∧ ∀ ch, stageLaw (channelOf migrating.pcu ch)) ∧
      ({ channel10 .high 0 with modeChanged := true } : ChannelState).modeChanged = true := by
  refine ⟨by decide +kernel, by decide +kernel, ?_, ⟨⟨rfl, rfl, rfl⟩, ?_⟩, rfl⟩
  · unfold outputLaw; decide +kernel
  · unfold stageLaw; intro ch; cases ch <;> decide +kernel

end Sys2Proof.Tests
end

section
namespace Sys2Proof.Machine

/-! ### What every shared operation keeps to

`Keeps`, `Follows` and `Quiet` are three relations between a state and a later one of the same command, each stronger than the
one before, reflexive and transitive. That every command is of them is put together operation by operation; the laws of the
counts, of the posted events and of the hold counts, and the slew of an ACTIVE station, are read off them. -/

/-- What a command leaves of a channel: the channel as it stands, or its request formed again at this count (R83). -/
def ChannelMoved (c d : ChannelState) : Prop :=
  d = c ∨ (d.lastRequest = c.lastRequest ∧ d.runHold = c.runHold ∧ (c.modeChanged = true → d.modeChanged = true) ∧ stageLaw d)

theorem ChannelMoved.refl (c : ChannelState) : ChannelMoved c c := .inl rfl

theorem ChannelMoved.trans {c d e : ChannelState} (h : ChannelMoved c d) (k : ChannelMoved d e) : ChannelMoved c e := by
  obtain rfl | ⟨hl, hr, hm, _⟩ := h
  · exact k
  · obtain rfl | ⟨kl, kr, km, ks⟩ := k
    · exact .inr ⟨hl, hr, hm, by assumption⟩
    · exact .inr ⟨kl.trans hl, kr.trans hr, km ∘ hm, ks⟩

theorem channelMoved_refreshChannel (n : Nat) (c : ChannelState) : ChannelMoved c (refreshChannel n c) :=
  .inr ⟨rfl, rfl, id, refreshChannel_law n c⟩

theorem channelMoved_applyChannel (n : Nat) (d : ChannelSetting) (c : ChannelState) : ChannelMoved c (applyChannel n d c) :=
  .inr ⟨rfl, rfl, fun h => by simp [applyChannel, settleHold, h], applyChannel_law n d c⟩

theorem forall_channelOf {P : ChannelState → ChannelState → Prop} (p q : ChannelUnit) :
    (∀ ch, P (channelOf p ch) (channelOf q ch)) ↔ P p.u q.u ∧ P p.v q.v ∧ P p.w q.w :=
  ⟨fun h => ⟨h .u, h .v, h .w⟩, fun ⟨hu, hv, hw⟩ ch => by cases ch <;> assumption⟩

/-- The output state is ACTIVE only with a slot and in LOCKED or HOLDOVER (R87): all that the slew needs of the output law. -/
def activeLaw (s : State) : Prop :=
  s.pcu.output = .active → slotState s.mc.station = true ∧ lockHeld s.tb.lock = true

theorem activeLaw_of_outputLaw {s : State} (h : outputLaw s) : activeLaw s := by
  intro ha
  have hg : gateOpen s = true := by
    cases hg : gateOpen s with
    | true => rfl
    | false => have := h.1.2 hg; simp [ha] at this
  simp only [gateOpen, Bool.and_eq_true] at hg
  exact ⟨hg.1.1.1, hg.1.1.2⟩

/-- The phase, the output position, the net step and the current offset stand. -/
def placesKept (a b : TimeBase) : Prop :=
  b.carrier = a.carrier ∧ b.position = a.position ∧ b.current = a.current ∧ b.netStep = a.netStep ∧ b.outPos = a.outPos

/-- What every command but a reset, an accepted configuration and a READ_EVENTS keeps (R21, R119, R139, R142). -/
structure Keeps (s t : State) : Prop where
  sid : t.sid = s.sid
  config : t.config = s.config
  configured : s.mc.station ≠ .unconfigured → t.mc.station ≠ .unconfigured
  counts : countsLaw s → countsLaw t
  events : ∀ e, hasEvent s.lp.events e = true → hasEvent t.lp.events e = true

/-- What every command keeps but those, a RESTART and a count of a channel by itself (R83, R91). -/
structure Follows (s t : State) : Prop extends Keeps s t where
  channels : ∀ ch, ChannelMoved (channelOf s.pcu ch) (channelOf t.pcu ch)

/-- What every command keeps but those, an output carrier start, an epoch boundary and an entry to ACTIVE (R14 to R17). -/
structure Quiet (s t : State) : Prop extends Follows s t where
  active : activeLaw s → activeLaw t ∧ (t.pcu.output = .active → s.pcu.output = .active ∧ placesKept s.tb t.tb)

theorem Keeps.refl (s : State) : Keeps s s := ⟨rfl, rfl, id, id, fun _ => id⟩

theorem Keeps.trans {s t u : State} (h : Keeps s t) (k : Keeps t u) : Keeps s u :=
  ⟨k.sid.trans h.sid, k.config.trans h.config, k.configured ∘ h.configured, k.counts ∘ h.counts,
    fun e => k.events e ∘ h.events e⟩

theorem Follows.refl (s : State) : Follows s s := ⟨.refl s, fun _ => .refl _⟩

theorem Follows.trans {s t u : State} (h : Follows s t) (k : Follows t u) : Follows s u :=
  ⟨h.toKeeps.trans k.toKeeps, fun ch => (h.channels ch).trans (k.channels ch)⟩

theorem Quiet.refl (s : State) : Quiet s s :=
  { Follows.refl s with active := fun h => ⟨h, fun ha => ⟨ha, rfl, rfl, rfl, rfl, rfl⟩⟩ }

theorem Quiet.trans {s t u : State} (h : Quiet s t) (k : Quiet t u) : Quiet s u where
  toFollows := h.toFollows.trans k.toFollows
  active hs := by
    obtain ⟨ht, hact⟩ := h.active hs
    obtain ⟨hu, kact⟩ := k.active ht
    refine ⟨hu, fun ha => ?_⟩
    obtain ⟨hta, k1, k2, k3, k4, k5⟩ := kact ha
    obtain ⟨hsa, h1, h2, h3, h4, h5⟩ := hact hta
    exact ⟨hsa, k1.trans h1, k2.trans h2, k3.trans h3, k4.trans h4, k5.trans h5⟩

/-! #### One block at a time -/

variable {s x : State}

theorem follows_mapTb {f : TimeBase → TimeBase} (h : Follows s x) (hw : x.tb.inWindow ≤ 2 → (f x.tb).inWindow ≤ 2)
    (hm : x.tb.missed ≤ 8 → (f x.tb).missed ≤ 8) : Follows s (mapTb f x) :=
  h.trans ⟨⟨rfl, rfl, id, fun ⟨h1, h2, h3⟩ => ⟨hw h1, hm h2, h3⟩, fun _ => id⟩, fun _ => .refl _⟩

theorem follows_mapPcu {f : ChannelUnit → ChannelUnit} (h : Follows s x)
    (hc : ChannelMoved x.pcu.u (f x.pcu).u ∧ ChannelMoved x.pcu.v (f x.pcu).v ∧ ChannelMoved x.pcu.w (f x.pcu).w) :
    Follows s (mapPcu f x) :=
  h.trans ⟨⟨rfl, rfl, id, id, fun _ => id⟩, (forall_channelOf _ _).2 hc⟩

theorem quiet_mapTb {f : TimeBase → TimeBase} (h : Quiet s x) (hw : x.tb.inWindow ≤ 2 → (f x.tb).inWindow ≤ 2)
    (hm : x.tb.missed ≤ 8 → (f x.tb).missed ≤ 8) (hl : (f x.tb).lock = x.tb.lock) (hp : placesKept x.tb (f x.tb)) :
    Quiet s (mapTb f x) :=
  h.trans { follows_mapTb (.refl x) hw hm with active := fun hx => ⟨fun ha => by simpa [hl] using hx ha, fun ha => ⟨ha, hp⟩⟩ }

theorem quiet_mapMc {f : Membership → Membership} (h : Quiet s x) (hf : (f x.mc).station = x.mc.station) :
    Quiet s (mapMc f x) :=
  h.trans
    { sid := rfl, config := rfl, configured := fun hx => by simpa [hf] using hx, counts := id, events := fun _ => id,
      channels := fun _ => .refl _
      active := fun hx => ⟨fun ha => by simpa [hf] using hx ha, fun ha => ⟨ha, rfl, rfl, rfl, rfl, rfl⟩⟩ }

theorem quiet_mapPcu {f : ChannelUnit → ChannelUnit} (h : Quiet s x)
    (hc : ChannelMoved x.pcu.u (f x.pcu).u ∧ ChannelMoved x.pcu.v (f x.pcu).v ∧ ChannelMoved x.pcu.w (f x.pcu).w)
    (ho : (f x.pcu).output = .active → x.pcu.output = .active) : Quiet s (mapPcu f x) :=
  h.trans { follows_mapPcu (.refl x) hc with
    active := fun hx => ⟨fun ha => hx (ho ha), fun ha => ⟨ho ha, rfl, rfl, rfl, rfl, rfl⟩⟩ }

/-- An operation that leaves TB, MC and PCU alone. -/
theorem quiet_of_blocks {t : State} (h : Quiet s x) (hid : t.sid = x.sid) (hcfg : t.config = x.config) (htb : t.tb = x.tb)
    (hmc : t.mc = x.mc) (hpcu : t.pcu = x.pcu) (hf : x.lc.failures ≤ 16 → t.lc.failures ≤ 16)
    (he : ∀ e, hasEvent x.lp.events e = true → hasEvent t.lp.events e = true) : Quiet s t :=
  h.trans
    { sid := hid, config := hcfg, configured := by simp [hmc], counts := fun ⟨h1, h2, h3⟩ => by simp [countsLaw, htb, h1, h2, hf h3]
      events := he, channels := fun _ => by rw [hpcu]; exact .refl _
      active := fun hx => by simpa [activeLaw, htb, hmc, hpcu, placesKept] using hx }

theorem quiet_mapTc {f : TripController → TripController} (h : Quiet s x) : Quiet s (mapTc f x) :=
  quiet_of_blocks h rfl rfl rfl rfl rfl id fun _ => id

theorem quiet_mapMu {f : MailUnit → MailUnit} (h : Quiet s x) : Quiet s (mapMu f x) :=
  quiet_of_blocks h rfl rfl rfl rfl rfl id fun _ => id

theorem quiet_mapPins {f : InputPins → InputPins} (h : Quiet s x) : Quiet s (mapPins f x) :=
  quiet_of_blocks h rfl rfl rfl rfl rfl id fun _ => id

theorem quiet_mapLc {f : LineController → LineController} (h : Quiet s x)
    (hf : x.lc.failures ≤ 16 → (f x.lc).failures ≤ 16) : Quiet s (mapLc f x) :=
  quiet_of_blocks h rfl rfl rfl rfl rfl hf fun _ => id

theorem quiet_mapLp {f : LocalPort → LocalPort} (h : Quiet s x)
    (he : ∀ e, hasEvent x.lp.events e = true → hasEvent (f x.lp).events e = true) : Quiet s (mapLp f x) :=
  quiet_of_blocks h rfl rfl rfl rfl rfl id he

theorem quiet_ite {c : Prop} [Decidable c] {a b : State} (ha : c → Quiet s a) (hb : ¬c → Quiet s b) :
    Quiet s (if c then a else b) := by
  split
  · exact ha ‹_›
  · exact hb ‹_›

/-! #### Events, slots, responses -/

theorem quiet_post (e : Event) (h : Quiet s x) : Quiet s (post e x) :=
  quiet_of_blocks h rfl rfl rfl rfl rfl id fun f hf => by simp [hf]

theorem quiet_postIf (c : Bool) (e : Event) (h : Quiet s x) : Quiet s (postIf c e x) := by
  cases c
  · exact h
  · exact quiet_post e h

theorem quiet_fillSlot (f : TxFrame) (h : Quiet s x) : Quiet s (fillSlot f x) :=
  quiet_mapLc h fun hf => by split <;> exact hf

theorem quiet_emptySlot (k : FrameKind) (h : Quiet s x) : Quiet s (emptySlot k x) := quiet_mapLc h id

theorem quiet_emptyAllSlots (h : Quiet s x) : Quiet s (emptyAllSlots x) := quiet_mapLc h id

theorem quiet_transmitterOff (h : Quiet s x) : Quiet s (transmitterOff x) := quiet_mapLc h id

theorem quiet_toWaitIdle (h : Quiet s x) : Quiet s (toWaitIdle x) := quiet_mapLc h id

theorem quiet_planReply (a r : Bool) (h : Quiet s x) : Quiet s (planReply a r x) := quiet_mapLc h id

theorem quiet_respond (status : Status) (payload : List Byte) (h : Quiet s x) : Quiet s (respond status payload x) :=
  quiet_mapLp h fun _ => id

theorem quiet_answer (status : Status) (h : Quiet s x) : Quiet s (answer status x) := quiet_respond status [] h

/-! #### The output gate and trips -/

/-- Whatever the state before it, after the gate is taken afresh an ACTIVE output state has its gate open (R87). -/
theorem activeLaw_regate (x : State) : activeLaw (regate x) := by
  intro ha
  have hg : gateOpen x = true := by
    cases hg : gateOpen x with
    | true => rfl
    | false => simp [regate_closed x hg] at ha
  simp only [gateOpen, Bool.and_eq_true] at hg
  simpa using ⟨hg.1.1.1, hg.1.1.2⟩

/-- The gate makes no output state ACTIVE (R88). -/
theorem active_of_regate {x : State} (h : (regate x).pcu.output = .active) : x.pcu.output = .active := by
  rw [regate_output] at h
  cases hg : gateOpen x <;> cases ho : x.pcu.output <;> simp_all

theorem quiet_regate (h : Quiet s x) : Quiet s (regate x) :=
  quiet_mapPcu h ⟨.refl _, .refl _, .refl _⟩ active_of_regate

/-- The gate is taken afresh after MC or TB has changed the station state or the lock state. -/
theorem quiet_regate_of {t : State} (h : Quiet s x) (hf : Follows x t) (ho : t.pcu.output = x.pcu.output)
    (hp : placesKept x.tb t.tb) : Quiet s (regate t) :=
  h.trans
    { hf.trans (quiet_regate (.refl t)).toFollows with
      active := fun _ => ⟨activeLaw_regate t, fun ha => ⟨ho ▸ active_of_regate ha, by simpa using hp⟩⟩ }

theorem quiet_enterArmed (h : Quiet s x) : Quiet s (enterArmed x) :=
  quiet_regate (quiet_post _ (quiet_mapTc h))

theorem quiet_rearmIfUnlocked (h : Quiet s x) : Quiet s (rearmIfUnlocked x) := by
  unfold rearmIfUnlocked
  exact quiet_ite (fun _ => quiet_enterArmed h) fun _ => h

theorem quiet_enterRearm (h : Quiet s x) : Quiet s (enterRearm x) :=
  quiet_rearmIfUnlocked (quiet_regate (quiet_mapTc h))

theorem quiet_enterRemote (h : Quiet s x) : Quiet s (enterRemote x) :=
  quiet_regate (quiet_post _ (quiet_mapTc h))

theorem quiet_boundaryTc (h : Quiet s x) : Quiet s (boundaryTc x) := by
  unfold boundaryTc
  exact quiet_ite (fun _ => quiet_enterArmed h) fun _ => h

theorem quiet_fillTrip (cause : TripCause) (h : Quiet s x) : Quiet s (fillTrip cause x) := by
  unfold fillTrip
  exact quiet_ite (fun _ => quiet_fillSlot _ h) fun _ => h

theorem quiet_latchCause (cause : TripCause) (h : Quiet s x) : Quiet s (latchCause cause x) := by
  unfold latchCause
  exact quiet_ite (fun _ => h) fun _ => quiet_ite (fun _ => quiet_fillTrip _ (quiet_mapTc h)) fun _ =>
    quiet_regate (quiet_post _ (quiet_fillTrip _ (quiet_mapTc h)))

theorem quiet_senseTripn (h : Quiet s x) : Quiet s (senseTripn x) := by
  unfold senseTripn
  split
  · exact quiet_ite (fun _ => h) fun _ => quiet_enterRemote h
  · exact quiet_ite (fun _ => h) fun _ => quiet_enterRemote h
  · exact quiet_ite (fun _ => quiet_enterRearm h) fun _ => h
  · exact h

theorem quiet_clearCauses (h : Quiet s x) : Quiet s (clearCauses x) := by
  exact quiet_ite (fun _ => quiet_enterRearm (quiet_emptySlot _ (quiet_mapTc h))) fun _ =>
    quiet_regate (quiet_mapTc (quiet_emptySlot _ (quiet_mapTc h)))

/-! #### Channels and duty records -/

theorem quiet_refreshChannels (h : Quiet s x) : Quiet s (refreshChannels x) := by
  unfold refreshChannels
  split
  · exact h
  · exact quiet_mapPcu h ⟨channelMoved_refreshChannel _ _, channelMoved_refreshChannel _ _, channelMoved_refreshChannel _ _⟩ id

theorem quiet_applySettings (d : DutySettings) (h : Quiet s x) : Quiet s (applySettings d x) := by
  unfold applySettings
  split
  · exact h
  · exact quiet_mapPcu h ⟨channelMoved_applyChannel _ _ _, channelMoved_applyChannel _ _ _, channelMoved_applyChannel _ _ _⟩ id

/-- A change of PCU that touches no channel and not the output state. -/
theorem quiet_mapPcu_rest {f : ChannelUnit → ChannelUnit} (h : Quiet s x)
    (hc : (f x.pcu).u = x.pcu.u ∧ (f x.pcu).v = x.pcu.v ∧ (f x.pcu).w = x.pcu.w) (ho : (f x.pcu).output = x.pcu.output) :
    Quiet s (mapPcu f x) := by
  obtain ⟨hu, hv, hw⟩ := hc
  exact quiet_mapPcu h ⟨.inl hu, .inl hv, .inl hw⟩ (by simp [ho])

theorem quiet_applyPending (h : Quiet s x) : Quiet s (applyPending x) := by
  unfold applyPending
  split
  · exact h
  · exact quiet_mapPcu_rest (quiet_applySettings _ h) ⟨rfl, rfl, rfl⟩ rfl

theorem quiet_applyDue (h : Quiet s x) : Quiet s (applyDue x) := by
  unfold applyDue
  split
  · exact h
  · exact quiet_post _ (quiet_postIf _ _ (quiet_mapPcu_rest (quiet_applySettings _ h) ⟨rfl, rfl, rfl⟩ rfl))

theorem quiet_takeDue (n : EpochNumber) (h : Quiet s x) : Quiet s (takeDue n x) := by
  unfold takeDue
  split
  · exact h
  · split
    · exact quiet_postIf _ _ (quiet_mapPcu_rest h ⟨rfl, rfl, rfl⟩ rfl)
    · exact h

theorem quiet_epochForward (old new : EpochNumber) (h : Quiet s x) : Quiet s (epochForward old new x) := by
  unfold epochForward
  dsimp only
  split
  · exact h
  · exact quiet_postIf _ _ (quiet_mapPcu_rest h ⟨rfl, rfl, rfl⟩ rfl)

theorem quiet_epochBackward (new : EpochNumber) (h : Quiet s x) : Quiet s (epochBackward new x) := by
  unfold epochBackward
  exact quiet_postIf _ _ (quiet_mapPcu_rest h ⟨rfl, rfl, rfl⟩ rfl)

theorem quiet_epochChanged (old new : EpochNumber) (h : Quiet s x) : Quiet s (epochChanged old new x) := by
  unfold epochChanged
  exact quiet_ite (fun _ => h) fun _ => quiet_ite (fun _ => quiet_epochForward _ _ h) fun _ => quiet_epochBackward _ h

theorem quiet_setEpoch (n : EpochNumber) (h : Quiet s x) : Quiet s (setEpoch n x) :=
  quiet_epochChanged _ _ (quiet_mapTb h id id rfl ⟨rfl, rfl, rfl, rfl, rfl⟩)

theorem quiet_leavePcu (h : Quiet s x) : Quiet s (leavePcu x) :=
  quiet_mapPcu h ⟨.refl _, .refl _, .refl _⟩ (by simp)

/-! #### The Time Base -/

/-- Re-basing moves the output position, so that it is quiet where the output state is not ACTIVE. -/
theorem follows_rebase (h : Follows s x) : Follows s (rebase x) := by
  unfold rebase
  split
  · exact h
  · exact (follows_mapTb h id id).trans (quiet_refreshChannels (.refl _)).toFollows

/-- An operation that does not leave the output state ACTIVE is quiet. -/
theorem quiet_of_follows {t : State} (h : Quiet s x) (hf : Follows x t)
    (ho : activeLaw s → t.pcu.output ≠ .active) : Quiet s t :=
  { h.toFollows.trans hf with active := fun hs => ⟨fun ha => absurd ha (ho hs), fun ha => absurd ha (ho hs)⟩ }

theorem quiet_migrateTarget (n : Nat) (h : Quiet s x) : Quiet s (migrateTarget n x) :=
  quiet_postIf _ _ (quiet_mapTb h id id rfl ⟨rfl, rfl, rfl, rfl, rfl⟩)

theorem follows_placeTarget (n : Nat) (h : Follows s x) : Follows s (placeTarget n x) :=
  follows_rebase (follows_mapTb h id id)

theorem quiet_setLock (lock : LockState) (h : Quiet s x) : Quiet s (setLock lock x) := by
  unfold setLock
  refine quiet_rearmIfUnlocked (quiet_regate_of h ?_ (by simp) (by simp [placesKept]))
  have hf : Follows x (mapTb _ x) := follows_mapTb (f := fun tb =>
    { tb with
      lock := lock
      inWindow := match lock with
        | .free | .acquire => 0
        | .locked => 2
        | .holdover => tb.inWindow
      missed := if lock = .free then 0 else tb.missed
      expired := false }) (.refl x) (by cases lock <;> simp) (by dsimp only; split <;> omega)
  exact hf.trans (quiet_postIf _ _ (quiet_postIf _ _ (quiet_postIf _ _ (.refl _)))).toFollows

theorem quiet_lockAsReference (h : Quiet s x) : Quiet s (lockAsReference x) :=
  quiet_setLock _ (quiet_mapTb h id (fun _ => by simp) rfl ⟨rfl, rfl, rfl, rfl, rfl⟩)

theorem follows_jump (e : Int) (n : EpochNumber) (h : Follows s x) : Follows s (jump e n x) := by
  unfold jump
  split
  · exact h
  · exact (follows_rebase (follows_mapTb h (fun _ => by simp) (fun _ => by simp))).trans (quiet_setEpoch _ (.refl _)).toFollows

theorem quiet_jump (e : Int) (n : EpochNumber) (h : Quiet s x) (ho : activeLaw x → x.pcu.output ≠ .active) :
    Quiet s (jump e n x) :=
  quiet_of_follows h (follows_jump e n (.refl x)) fun hs => by simpa using ho (h.active hs).1

theorem postIf_mapTb (c : Bool) (e : Event) (f : TimeBase → TimeBase) (x : State) :
    postIf c e (mapTb f x) = mapTb f (postIf c e x) := by cases c <;> rfl

theorem mapPcu_mapTb (g : ChannelUnit → ChannelUnit) (f : TimeBase → TimeBase) (x : State) :
    mapPcu g (mapTb f x) = mapTb f (mapPcu g x) := rfl

/-- PCU's handling of an epoch number change reads and writes nothing of TB. -/
theorem epochChanged_mapTb (f : TimeBase → TimeBase) (old new : EpochNumber) (x : State) :
    epochChanged old new (mapTb f x) = mapTb f (epochChanged old new x) := by
  have hf : epochForward old new (mapTb f x) = mapTb f (epochForward old new x) := by
    unfold epochForward
    simp only [mapTb_pcu, mapPcu_mapTb, postIf_mapTb]
    split <;> rfl
  have hb : epochBackward new (mapTb f x) = mapTb f (epochBackward new x) := by
    simp only [epochBackward, mapTb_pcu, mapPcu_mapTb, postIf_mapTb]
  unfold epochChanged
  rw [hf, hb]
  (repeat' split) <;> rfl

/-- Entering LOCKED sets the in-window count, whatever it was (R5). -/
theorem setLock_locked_inWindow (k : TimeBase → Nat) (x : State) :
    setLock .locked (mapTb (fun tb => { tb with inWindow := k tb }) x) = setLock .locked x := rfl

theorem quiet_actOnError (cfg : ConfigRecord) (e : Int) (n : EpochNumber) (h : Quiet s x) :
    Quiet s (actOnError cfg e n x) := by
  have notActive (hl : lockHeld x.tb.lock = false) : activeLaw x → x.pcu.output ≠ .active := fun hx ha => by
    simp [(hx ha).2] at hl
  have adopt (y : State) (hy : Quiet s y) : Quiet s (setEpoch n (mapTb (fun tb => { tb with residual := e }) y)) :=
    quiet_setEpoch _ (quiet_mapTb hy id id rfl ⟨rfl, rfl, rfl, rfl, rfl⟩)
  have held : Quiet s (if 4 * cfg.window < e.natAbs then jump e n (setLock .acquire x)
      else setLock .locked (setEpoch n (mapTb (fun tb => { tb with residual := e }) x))) :=
    quiet_ite (fun _ => quiet_jump e n (quiet_setLock _ h) fun hl ha => by simpa [setLock, lockHeld] using (hl ha).2)
      fun _ => quiet_setLock _ (adopt x h)
  unfold actOnError
  split
  next hl => exact quiet_setLock _ (quiet_jump e n h (notActive (by simp [hl, lockHeld])))
  next hl =>
    refine quiet_ite (fun _ => quiet_jump e n h (notActive (by simp [hl, lockHeld]))) fun _ => ?_
    have hcount : setEpoch n (mapTb (fun tb => { tb with residual := e, inWindow := tb.inWindow + 1 }) x) =
        mapTb (fun tb => { tb with inWindow := tb.inWindow + 1 })
          (setEpoch n (mapTb (fun tb => { tb with residual := e }) x)) := by
      simp only [setEpoch, ← epochChanged_mapTb]
      rfl
    simp only [hcount]
    refine quiet_ite (fun _ => ?_) fun hw => ?_
    · rw [setLock_locked_inWindow]
      exact quiet_setLock _ (adopt x h)
    · exact quiet_mapTb (adopt x h) (fun _ => by simp at hw ⊢; omega) id rfl ⟨rfl, rfl, rfl, rfl, rfl⟩
  next => exact held
  next => exact held

theorem quiet_handOver (h : Quiet s x) : Quiet s (handOver x) :=
  quiet_mapTb h id (fun _ => by simp) rfl ⟨rfl, rfl, rfl, rfl, rfl⟩

theorem quiet_measureBeacon (b : Beacon) (h : Quiet s x) : Quiet s (measureBeacon b x) := by
  unfold measureBeacon
  split
  · exact h
  · split
    · exact quiet_handOver h
    · exact quiet_actOnError _ _ _ (quiet_mapTb (quiet_handOver h) id id rfl ⟨rfl, rfl, rfl, rfl, rfl⟩)

theorem quiet_dropSample (h : Quiet s x) : Quiet s (dropSample x) := quiet_mapTb h id id rfl ⟨rfl, rfl, rfl, rfl, rfl⟩

theorem quiet_countMiss (cfg : ConfigRecord) (h : Quiet s x) : Quiet s (countMiss cfg x) := by
  have hm : Quiet s (mapTb (fun tb =>
      { tb with missed := min 8 (x.tb.missed + 1), windowOpen := false, windowSeen := false }) x) :=
    quiet_mapTb h id (fun _ => by simp) rfl ⟨rfl, rfl, rfl, rfl, rfl⟩
  unfold countMiss
  refine quiet_ite (fun _ => ?_) fun _ => quiet_ite (fun _ => quiet_setLock _ hm) fun _ => hm
  exact quiet_mapTb (quiet_setLock _ (quiet_mapTb hm id id rfl ⟨rfl, rfl, rfl, rfl, rfl⟩)) id id rfl ⟨rfl, rfl, rfl, rfl, rfl⟩

/-- FREE closes the gate (R18, R87). -/
theorem freeTb_output (x : State) : (freeTb x).pcu.output ≠ .active := by
  unfold freeTb
  intro ha
  have hc := ((quiet_rearmIfUnlocked (.refl _)).active (activeLaw_regate _)).2 ha
  simpa [lockHeld] using (activeLaw_regate _ hc.1).2

theorem follows_freeTb (h : Follows s x) : Follows s (freeTb x) :=
  (follows_rebase (follows_mapTb h (fun _ => by simp) (fun _ => by simp))).trans
    (quiet_rearmIfUnlocked (quiet_regate (.refl _))).toFollows

/-! #### The Mail Unit -/

theorem quiet_completeHeads (fuel : Nat) (h : Quiet s x) : Quiet s (completeHeads fuel x) := by
  induction fuel generalizing x with
  | zero => exact h
  | succ n ih =>
    unfold completeHeads
    split
    · exact h
    · split
      · exact h
      · refine quiet_ite (fun _ => ?_) fun _ => h
        have hq (f) : Quiet s (post .receipt (mapMu f x)) := quiet_post _ (quiet_mapMu h)
        dsimp only
        split
        · exact hq _
        · exact quiet_ite (fun _ => quiet_fillSlot _ (hq _)) fun _ => ih (hq _)

theorem quiet_settleQueue (h : Quiet s x) : Quiet s (settleQueue x) := quiet_completeHeads _ h

theorem quiet_finishHead (o : MailOutcome) (h : Quiet s x) : Quiet s (finishHead o x) :=
  quiet_settleQueue (quiet_emptySlot _ (quiet_mapMu h))

theorem quiet_mailReported (ack refuse : Bool) (h : Quiet s x) : Quiet s (mailReported ack refuse x) := by
  unfold mailReported
  refine quiet_ite (fun _ => h) fun _ => ?_
  split
  · exact quiet_mapMu h
  · exact quiet_ite (fun _ => quiet_finishHead _ (quiet_mapMu h)) fun _ =>
      quiet_ite (fun _ => quiet_finishHead _ (quiet_mapMu h)) fun _ =>
        quiet_ite (fun _ => quiet_finishHead _ (quiet_mapMu h)) fun _ => quiet_mapMu (quiet_mapMu h)

theorem quiet_mailFailed (h : Quiet s x) : Quiet s (mailFailed x) := by
  unfold mailFailed
  refine quiet_ite (fun _ => h) fun _ => ?_
  dsimp only
  split
  · exact quiet_mapMu h
  · exact quiet_ite (fun _ => quiet_finishHead _ (quiet_mapMu h)) fun _ => quiet_mapMu h

theorem quiet_retryHead (h : Quiet s x) : Quiet s (retryHead x) := by
  unfold retryHead
  split
  · exact h
  · exact quiet_ite (fun _ => quiet_fillSlot _ (quiet_mapMu h)) fun _ => h

theorem quiet_destinationGone (id : StationId) (h : Quiet s x) : Quiet s (destinationGone id x) := by
  unfold destinationGone
  dsimp only
  split
  · exact quiet_mapMu h
  · refine quiet_ite (fun _ => quiet_ite (fun _ => ?_) fun _ => ?_) fun _ => quiet_mapMu h
    · exact quiet_emptySlot _ (quiet_mapMu (quiet_mapMu h))
    · exact quiet_finishHead _ (quiet_mapMu h)

theorem quiet_leaveMu (h : Quiet s x) : Quiet s (leaveMu x) := quiet_emptySlot _ (quiet_mapMu h)

/-! #### The roster and the record -/

theorem quiet_mapEntry (id : StationId) (f : RosterEntry → RosterEntry) (h : Quiet s x) : Quiet s (mapEntry id f x) := by
  unfold mapEntry
  exact quiet_ite (fun _ => h) fun _ => quiet_mapMc h rfl

theorem quiet_setEntryState (id : StationId) (state : EntryState) (fresh : Bool) (h : Quiet s x) :
    Quiet s (setEntryState id state fresh x) := by
  unfold setEntryState
  refine quiet_ite (fun _ => h) fun _ => quiet_ite (fun _ => h) fun _ => ?_
  have hp : Quiet s (postIf (state == .lost) .peerLost
      (mapEntry id (fun e => { e with state := state, silence := if fresh then 0 else e.silence }) x)) :=
    quiet_postIf _ _ (quiet_mapEntry _ _ h)
  exact quiet_ite (fun _ => quiet_destinationGone _ hp) fun _ => hp

theorem quiet_forEachId {f : StationId → State → State} (hf : ∀ id (y : State), Quiet y (f id y)) (h : Quiet s x) :
    Quiet s (forEachId f x) := by
  unfold forEachId
  generalize List.finRange 32 = ids
  induction ids generalizing x with
  | nil => exact h
  | cons id ids ih => exact ih (h.trans (hf id x))

theorem quiet_sourceReport (src : StationId) (h : Quiet s x) : Quiet s (sourceReport src x) := by
  unfold sourceReport
  exact quiet_ite (fun _ => quiet_mapEntry _ _ h) fun _ => h

theorem quiet_countSilenceOf (n : Nat) (id : StationId) (h : Quiet s x) : Quiet s (countSilenceOf n id x) := by
  unfold countSilenceOf
  exact quiet_ite (fun _ => h) fun _ => quiet_ite (fun _ => quiet_ite
    (fun _ => quiet_setEntryState _ _ _ (quiet_mapEntry _ _ h)) fun _ => quiet_mapEntry _ _ h) fun _ => h

theorem quiet_countSilence (n : Nat) (h : Quiet s x) : Quiet s (countSilence n x) := by
  unfold countSilence
  exact quiet_ite (fun _ => quiet_forEachId (fun id y => quiet_countSilenceOf n id (.refl y)) h) fun _ => h

theorem quiet_adoptMask (mask : MemberMask) (from_ : Option StationId) (h : Quiet s x) : Quiet s (adoptMask mask from_ x) :=
  quiet_forEachId (fun id y => quiet_setEntryState id _ _ (.refl y)) h

theorem quiet_fillBeacon (cfg : ConfigRecord) (mask : MemberMask) (handover : Bool) (h : Quiet s x) :
    Quiet s (fillBeacon cfg mask handover x) := quiet_mapMc (quiet_fillSlot _ h) rfl

theorem quiet_removeBeacon (h : Quiet s x) : Quiet s (removeBeacon x) := quiet_mapMc (quiet_emptySlot _ h) rfl

theorem quiet_fillJoin (h : Quiet s x) : Quiet s (fillJoin x) := by
  unfold fillJoin
  split
  · exact h
  · exact quiet_fillSlot _ (quiet_mapMc h rfl)

theorem quiet_fillLeave (h : Quiet s x) : Quiet s (fillLeave x) := quiet_fillSlot _ h

theorem quiet_fillStatus (c : Nat) (h : Quiet s x) : Quiet s (fillStatus c x) := by
  unfold fillStatus
  split
  · split
    · exact quiet_ite (fun _ => quiet_mapMc (quiet_fillSlot _ h) rfl) fun _ => h
    · exact h
  · exact h

theorem quiet_setRecord (r : Option EpochRecord) (h : Quiet s x) : Quiet s (setRecord r x) := quiet_mapMc h rfl

/-- A target given as a migrate request moves no place (R15, R64). -/
theorem quiet_giveTarget_false (h : Quiet s x) : Quiet s (giveTarget false x) := by
  unfold giveTarget
  split
  · exact h
  · exact quiet_ite (fun _ => by contradiction) fun _ => quiet_ite (fun _ => h) fun _ => quiet_migrateTarget _ h

theorem follows_giveTarget (place : Bool) (h : Follows s x) : Follows s (giveTarget place x) := by
  cases place with
  | false => exact h.trans (quiet_giveTarget_false (.refl x)).toFollows
  | true =>
    unfold giveTarget
    split
    · exact h
    · exact follows_placeTarget _ h

/-- A target placed at once moves the output position; a station is given one only where it is not ACTIVE yet (R26, R46). -/
theorem quiet_giveTarget (place : Bool) (h : Quiet s x) (ho : place = true → activeLaw s → x.pcu.output ≠ .active) :
    Quiet s (giveTarget place x) := by
  cases place with
  | false => exact quiet_giveTarget_false h
  | true => exact quiet_of_follows h (follows_giveTarget true (.refl x)) (by simpa using ho rfl)

end Sys2Proof.Machine
end

section
namespace Sys2Proof.Machine

variable {s x : State}

/-! #### Station state, elections, founding -/

theorem follows_mapMc {f : Membership → Membership} (h : Follows s x)
    (hf : x.mc.station ≠ .unconfigured → (f x.mc).station ≠ .unconfigured) : Follows s (mapMc f x) :=
  h.trans ⟨⟨rfl, rfl, hf, id, fun _ => id⟩, fun _ => .refl _⟩

theorem quiet_setStation (to_ : StationState) (h : Quiet s x) (hto : to_ ≠ .unconfigured) : Quiet s (setStation to_ x) :=
  quiet_regate_of h (follows_mapMc (.refl x) fun _ => hto) rfl ⟨rfl, rfl, rfl, rfl, rfl⟩

theorem quiet_setRole (r : Role) (h : Quiet s x) : Quiet s (setRole r x) := quiet_mapMc h rfl

theorem quiet_emptyMcSlots (keep : Bool) (h : Quiet s x) : Quiet s (emptyMcSlots keep x) := by
  have h0 := quiet_emptySlot .status (quiet_emptySlot .join (quiet_removeBeacon h))
  unfold emptyMcSlots
  exact quiet_mapLc (quiet_ite (fun _ => h0) fun _ => quiet_emptySlot _ h0) id

/-- Leaving the line turns the outputs off, so that no place it moves is one of an ACTIVE station (R33, R90). -/
theorem quiet_leaveLine (keep : Bool) (to_ : StationState) (h : Quiet s x) (hto : to_ ≠ .unconfigured) :
    Quiet s (leaveLine keep to_ x) := by
  refine quiet_of_follows h ?_ fun _ => freeTb_output _
  have hm : Follows x (mapMc (leftMembership to_) (emptyMcSlots keep x)) :=
    follows_mapMc (quiet_emptyMcSlots keep (.refl x)).toFollows fun _ => hto
  exact follows_freeTb (hm.trans (quiet_leaveMu (quiet_leavePcu (.refl _))).toFollows)

theorem quiet_startListening (h : Quiet s x) : Quiet s (startListening x) :=
  quiet_setStation _ (quiet_mapMc (quiet_emptyMcSlots _ h) rfl) (by simp)

theorem quiet_joinFails (h : Quiet s x) : Quiet s (joinFails x) :=
  quiet_startListening (quiet_post _ (quiet_leaveLine _ _ h (by simp)))

theorem quiet_countTry {goOn : State → State} (hg : ∀ y : State, Quiet y (goOn y)) (h : Quiet s x) :
    Quiet s (countTry goOn x) := by
  have h1 : Quiet s (mapMc (fun mc => { mc with joinAttempts := mc.joinAttempts + 1 }) x) := quiet_mapMc h rfl
  unfold countTry
  exact quiet_ite (fun _ => quiet_joinFails h1) fun _ => h1.trans (hg _)

theorem quiet_leaveDone (h : Quiet s x) : Quiet s (leaveDone x) := quiet_post _ (quiet_leaveLine _ _ h (by simp))

theorem quiet_enterMismatch (h : Quiet s x) : Quiet s (enterMismatch x) :=
  quiet_post _ (quiet_transmitterOff (quiet_emptyAllSlots (quiet_leaveLine _ _ h (by simp))))

theorem quiet_isolate (h : Quiet s x) : Quiet s (isolate x) := by
  have h0 := quiet_emptyAllSlots (quiet_transmitterOff h)
  have hl := quiet_post .isolated (quiet_leaveLine false .isolated h0 (by simp))
  have hs := quiet_post .isolated (quiet_setStation .isolated h0 (by simp))
  unfold isolate
  dsimp only
  split <;> assumption

theorem quiet_startElection (h : Quiet s x) : Quiet s (startElection x) := by
  unfold startElection
  refine quiet_ite (fun _ => ?_) fun _ => h
  cases x.mc.record.bind (·.reference) with
  | none => exact quiet_ite (fun _ => quiet_mapMc h rfl) fun _ => quiet_mapMc h rfl
  | some r =>
    have he := quiet_setEntryState r .lost false h
    exact quiet_ite (fun _ => quiet_mapMc he rfl) fun _ => quiet_mapMc he rfl

theorem quiet_endElection (h : Quiet s x) : Quiet s (endElection x) := by
  unfold endElection
  have h1 : Quiet s (if x.mc.election.isSome || x.mc.role = .candidate then removeBeacon x else x) :=
    quiet_ite (fun _ => quiet_removeBeacon h) fun _ => h
  exact quiet_mapMc (quiet_ite (fun _ => quiet_setRole _ h1) fun _ => h1) rfl

theorem quiet_leaveAsFollower (h : Quiet s x) : Quiet s (leaveAsFollower x) := by
  have h1 : Quiet s (if x.mc.role = .candidate then removeBeacon x else x) :=
    quiet_ite (fun _ => quiet_removeBeacon h) fun _ => h
  exact quiet_fillLeave (quiet_setStation _ (quiet_mapMc h1 rfl) (by simp))

/-- A station without a slot is not ACTIVE, and a quiet operation does not make it so (R87). -/
theorem Quiet.notActive (h : Quiet s x) (hs : slotState s.mc.station = false) (hl : activeLaw s) : x.pcu.output ≠ .active := by
  intro ha
  simp [(hl ((h.active hl).2 ha).1).1] at hs

/-- What founding does before TB places its target. -/
def foundLocked (cfg : ConfigRecord) (x : State) : State :=
  let mask := maskSingle x.sid
  let s := setRole .reference (setStation .member (mapMc (fun mc => { mc with listenTimer := none }) x))
  lockAsReference (setEpoch 0 (adoptMask mask none (setRecord (some (referenceRecord cfg s.sid 0 mask)) s)))

theorem found_eq (cfg : ConfigRecord) (x : State) :
    found cfg x =
      post .membership (post .joined (fillBeacon cfg (maskSingle x.sid) false (giveTarget true (foundLocked cfg x)))) := rfl

theorem quiet_foundLocked (cfg : ConfigRecord) (h : Quiet s x) : Quiet s (foundLocked cfg x) := by
  unfold foundLocked
  have hm : Quiet s (mapMc (fun mc => { mc with listenTimer := none }) x) := quiet_mapMc h rfl
  exact quiet_lockAsReference (quiet_setEpoch _ (quiet_adoptMask _ _ (quiet_setRecord _
    (quiet_setRole _ (quiet_setStation _ hm (by simp))))))

theorem follows_found (cfg : ConfigRecord) (h : Follows s x) : Follows s (found cfg x) := by
  rw [found_eq]
  exact (follows_giveTarget true (h.trans (quiet_foundLocked cfg (.refl x)).toFollows)).trans
    (quiet_post _ (quiet_post _ (quiet_fillBeacon _ _ _ (.refl _)))).toFollows

/-- A LISTENING station founds; its outputs are not ACTIVE (R46, R87). -/
theorem quiet_found (cfg : ConfigRecord) (h : Quiet s x) (hx : slotState x.mc.station = false) : Quiet s (found cfg x) := by
  have locked := quiet_foundLocked cfg (.refl x)
  rw [found_eq]
  exact h.trans (quiet_post _ (quiet_post _ (quiet_fillBeacon _ _ _
    (quiet_giveTarget true locked fun _ => locked.notActive hx))))

/-! #### Beacons -/

theorem quiet_enterJoining (h : Quiet s x) : Quiet s (enterJoining x) :=
  quiet_fillJoin (quiet_setStation _ (quiet_mapMc h rfl) (by simp))

theorem quiet_takeAdmission (h : Quiet s x) : Quiet s (takeAdmission x) :=
  quiet_post _ (quiet_emptySlot _ (quiet_setStation _ (quiet_mapMc h rfl) (by simp)))

theorem quiet_displace (h : Quiet s x) : Quiet s (displace x) :=
  quiet_post _ (quiet_enterJoining (quiet_setRole _ (quiet_removeBeacon h)))

theorem quiet_acceptState (before : StationState) (admitted yielded : Bool) (b : Beacon) (h : Quiet s x) :
    Quiet s (acceptState before admitted yielded b x) := by
  unfold acceptState
  split
  · exact quiet_enterJoining h
  · exact quiet_ite (fun _ => quiet_takeAdmission h) fun _ => h
  · exact quiet_ite (fun _ => h) fun _ => quiet_displace h
  · exact quiet_ite (fun _ => quiet_ite (fun _ => quiet_fillLeave (quiet_mapMc h rfl)) fun _ => h) fun _ => quiet_leaveDone h
  · exact h

/-- A placement is given to a JOINING station alone, which is not ACTIVE (R26, R87). -/
theorem quiet_acceptBeacon (cfg : ConfigRecord) (src : StationId) (b : Beacon) (h : Quiet s x) :
    Quiet s (acceptBeacon cfg src b x) := by
  refine h.trans ?_
  have h1 : Quiet x (if x.mc.role = .reference then setRole .follower (removeBeacon x) else x) :=
    quiet_ite (fun _ => quiet_setRole _ (quiet_removeBeacon (.refl x))) fun _ => .refl x
  have h2 := quiet_setRecord (acceptedRecord cfg src b x) h1
  have h3 := quiet_ite (s := x) (c := takesRole b x = true) (fun _ => quiet_setRole .reference h2) fun _ =>
    quiet_ite (c := admits b x = true) (fun _ => quiet_setRole .follower h2) fun _ => h2
  have h4 := quiet_adoptMask b.mask (if b.handover then some src else none) h3
  have h5 := quiet_giveTarget (admits b x) h4 fun ha => h4.notActive <| by
    simp only [admits, Bool.and_eq_true, beq_iff_eq] at ha
    simp [ha.1.1, slotState]
  have h6 := quiet_ite (s := x) (c := takesRole b x = true) (fun _ => quiet_dropSample (quiet_lockAsReference h5)) fun _ =>
    quiet_measureBeacon b h5
  unfold acceptBeacon
  dsimp only
  exact quiet_postIf _ _ (quiet_postIf _ _ (quiet_acceptState _ _ _ _ (quiet_endElection h6)))

theorem quiet_deliverBeacon (src : StationId) (b : Beacon) (h : Quiet s x) : Quiet s (deliverBeacon src b x) := by
  unfold deliverBeacon
  split
  · exact quiet_dropSample h
  · exact quiet_ite
      (fun _ => quiet_ite (fun _ => quiet_acceptBeacon _ _ _ h) fun _ => quiet_enterMismatch (quiet_dropSample h))
      fun _ => quiet_ite (fun _ => quiet_acceptBeacon _ _ _ h) fun _ => quiet_postIf _ _ (quiet_dropSample h)

theorem quiet_joinOutcome (ack refuse : Bool) (h : Quiet s x) : Quiet s (joinOutcome ack refuse x) := by
  unfold joinOutcome
  exact quiet_ite (fun _ => quiet_ite (fun _ => quiet_post _ (quiet_leaveLine _ _ h (by simp))) fun _ =>
    quiet_ite (fun _ => quiet_mapMc h rfl) fun _ => quiet_countTry (fun y => quiet_mapMc (.refl y) rfl) h) fun _ => h

theorem quiet_leaveOutcome (ack : Bool) (h : Quiet s x) : Quiet s (leaveOutcome ack x) := by
  unfold leaveOutcome
  exact quiet_ite (fun _ => quiet_mapMc h rfl) fun _ => h

theorem quiet_noElection (h : Quiet s x) : Quiet s (mapMc (fun mc => { mc with election := none }) x) := quiet_mapMc h rfl

theorem quiet_becomeReference (cfg : ConfigRecord) (b : Beacon) (h : Quiet s x) : Quiet s (becomeReference cfg b x) := by
  unfold becomeReference
  refine quiet_postIf _ _ (quiet_postIf _ _ (quiet_noElection ?_))
  exact quiet_lockAsReference (quiet_giveTarget_false (quiet_adoptMask _ _ (quiet_setRecord _ (quiet_setRole _ h))))

theorem quiet_beaconSent (b : Beacon) (h : Quiet s x) : Quiet s (beaconSent b x) := by
  unfold beaconSent
  split
  · exact h
  · exact quiet_ite (fun _ => quiet_becomeReference _ _ h) fun _ => quiet_ite (fun _ => quiet_leaveDone h) fun _ => h

/-! #### The epoch boundary at MC -/

theorem quiet_candidateFill (cfg : ConfigRecord) (h : Quiet s x) : Quiet s (candidateFill cfg x) := by
  unfold candidateFill
  exact quiet_ite (fun _ => quiet_fillBeacon _ _ _ h) fun _ => h

theorem quiet_referenceBoundary (cfg : ConfigRecord) (h : Quiet s x) : Quiet s (referenceBoundary cfg x) :=
  quiet_fillBeacon _ _ _ (quiet_postIf _ _ (quiet_giveTarget_false (quiet_setRecord _ (quiet_adoptMask _ _ h))))

theorem quiet_handoverBoundary (cfg : ConfigRecord) (h : Quiet s x) : Quiet s (handoverBoundary cfg x) := by
  have h1 : Quiet s (mapMc (fun mc => { mc with leaveAttempts := mc.leaveAttempts + 1 }) x) := quiet_mapMc h rfl
  unfold handoverBoundary
  exact quiet_ite (fun _ => quiet_leaveDone h1) fun _ => quiet_fillBeacon _ _ _ (quiet_mapMc h1 rfl)

theorem quiet_leaveBoundary (h : Quiet s x) : Quiet s (leaveBoundary x) := by
  have h1 : Quiet s (mapMc (fun mc => { mc with leaveAttempts := mc.leaveAttempts + 1 }) x) := quiet_mapMc h rfl
  unfold leaveBoundary
  exact quiet_ite (fun _ => quiet_leaveDone h1) fun _ => quiet_ite (fun _ => h1) fun _ => quiet_fillLeave h1

theorem quiet_waitBoundary (h : Quiet s x) : Quiet s (waitBoundary x) := by
  have h1 : Quiet s (mapMc (fun mc =>
      { mc with admission := { mc.admission with boundaries := mc.admission.boundaries + 1 } }) x) := quiet_mapMc h rfl
  unfold waitBoundary
  exact quiet_ite (fun _ => quiet_ite (fun _ => quiet_countTry (fun y => quiet_fillJoin (.refl y)) h1) fun _ => h1)
    fun _ => h

theorem quiet_joinBoundary (h : Quiet s x) : Quiet s (joinBoundary x) :=
  quiet_waitBoundary (quiet_ite (fun _ => quiet_fillJoin h) fun _ => h)

theorem quiet_memberBoundary (cfg : ConfigRecord) (h : Quiet s x) : Quiet s (memberBoundary cfg x) := by
  unfold memberBoundary
  exact quiet_ite (fun _ => quiet_referenceBoundary _ h) fun _ => quiet_ite (fun _ => quiet_candidateFill _ h) fun _ => h

theorem quiet_boundaryMc (cfg : ConfigRecord) (h : Quiet s x) : Quiet s (boundaryMc cfg x) := by
  have h1 : Quiet s (countSilence cfg.lossEpochs (mapMc (fun mc => { mc with statusFilled := false }) x)) :=
    quiet_countSilence _ (quiet_mapMc h rfl)
  unfold boundaryMc
  refine quiet_fillStatus _ ?_
  split
  · exact quiet_joinBoundary h1
  · exact quiet_memberBoundary _ h1
  · exact quiet_ite (fun _ => quiet_handoverBoundary _ h1) fun _ => quiet_leaveBoundary h1
  · exact h1

end Sys2Proof.Machine
end

section
namespace Sys2Proof.Machine

variable {s x t : State}

/-! #### Commands -/

theorem next_of_goes {u : State} (h : goes s u = .next t) : t = u ∨ t = s := by
  unfold goes at h
  cases h
  split
  · exact .inl rfl
  · exact .inr rfl

theorem quiet_goes {u : State} (h : goes s u = .next t) (hu : Quiet s u) : Quiet s t := by
  obtain rfl | rfl := next_of_goes h
  · exact hu
  · exact .refl _

theorem follows_goes {u : State} (h : goes s u = .next t) (hu : Follows s u) : Follows s t := by
  obtain rfl | rfl := next_of_goes h
  · exact hu
  · exact .refl _

theorem quiet_withoutPayload {act : State → State} (payload : List Byte) (hact : Quiet s (act x)) (h : Quiet s x) :
    Quiet s (withoutPayload payload act x) := by
  unfold withoutPayload
  exact quiet_ite (fun _ => hact) fun _ => quiet_answer _ h

theorem quiet_takeLeave (h : Quiet s x) : Quiet s (takeLeave x) := by
  unfold takeLeave
  split
  · exact quiet_post _ (quiet_leaveLine _ _ (quiet_fillLeave h) (by simp))
  · exact quiet_ite (fun _ => quiet_setStation _ (quiet_mapMc h rfl) (by simp)) fun _ => quiet_leaveAsFollower h
  · exact h

theorem quiet_setRun (on : Bool) (h : Quiet s x) : Quiet s (setRun on x) :=
  quiet_regate (quiet_mapPcu_rest h ⟨rfl, rfl, rfl⟩ rfl)

theorem quiet_placeDuty (d : DutySettings) (apply : Option EpochNumber) (h : Quiet s x) :
    Quiet s (placeDuty d apply x) := by
  have timed (r : TimedDuty) : Quiet s (placeTimed r x) := by
    unfold placeTimed
    exact quiet_ite (fun _ => quiet_answer _ (quiet_mapPcu_rest h ⟨rfl, rfl, rfl⟩ rfl)) fun _ =>
      quiet_ite (fun _ => quiet_answer _ h) fun _ => quiet_answer _ (quiet_mapPcu_rest h ⟨rfl, rfl, rfl⟩ rfl)
  unfold placeDuty
  split
  · exact quiet_answer _ (quiet_mapPcu_rest h ⟨rfl, rfl, rfl⟩ rfl)
  · exact quiet_ite (fun _ => timed _) fun _ => quiet_ite (fun _ => quiet_answer _ h) fun _ => quiet_answer _ h

theorem quiet_postMail (payload : List Byte) (h : Quiet s x) : Quiet s (postMail payload x) := by
  have queued (id : StationId) (data : List Byte) : Quiet s (queueMail id data x) := by
    unfold queueMail
    exact quiet_ite (fun _ => quiet_fillSlot _ (quiet_mapMu h)) fun _ => quiet_mapMu h
  unfold postMail
  split
  · exact quiet_answer _ h
  · split
    · exact quiet_answer _ h
    · exact quiet_ite (fun _ => quiet_answer _ h) fun _ => quiet_ite (fun _ => quiet_answer _ h) fun _ =>
        quiet_ite (fun _ => quiet_answer _ h) fun _ => quiet_respond _ _ (queued _ _)

theorem quiet_takeMail (h : Quiet s x) : Quiet s (takeMail x) := by
  unfold takeMail
  dsimp only
  split <;> exact quiet_respond _ _ (quiet_mapMu h)

theorem quiet_takeReceipt (h : Quiet s x) : Quiet s (takeReceipt x) := by
  unfold takeReceipt
  split
  · exact quiet_answer _ h
  · exact quiet_respond _ _ (quiet_settleQueue (quiet_mapMu h))

theorem quiet_missBeacon (cfg : ConfigRecord) (h : Quiet s x) : Quiet s (missBeacon cfg x) := by
  unfold missBeacon
  exact quiet_ite (fun _ => quiet_startElection (quiet_countMiss _ h)) fun _ => quiet_countMiss _ h

theorem quiet_endFrame (h : Quiet s x) : Quiet s (endFrame x) := by
  unfold endFrame
  exact quiet_ite (fun _ => quiet_toWaitIdle (quiet_planReply _ _ h)) fun _ => quiet_planReply _ _ h

theorem quiet_replyEffect (src : StationId) (kind : ReplyKind) (ack refuse : Bool) (h : Quiet s x) :
    Quiet s (replyEffect src kind ack refuse x) := by
  unfold replyEffect
  refine quiet_ite (fun _ => ?_) fun _ => h
  cases kind with
  | join => exact quiet_ite (fun _ => quiet_setEntryState _ _ _ h) fun _ => h
  | leave =>
    dsimp only
    split
    · exact quiet_setEntryState _ _ _ h
    · exact quiet_setEntryState _ _ _ h
    · exact h

theorem quiet_takeInMail (mail : InMail) (h : Quiet s x) : Quiet s (takeInMail mail x) := by
  unfold takeInMail
  exact quiet_ite (fun _ => quiet_planReply _ _ h) fun _ =>
    quiet_ite (fun _ => quiet_planReply _ _ (quiet_post _ (quiet_mapMu h))) fun _ =>
      quiet_planReply _ _ (quiet_post _ (quiet_mapMu h))

theorem quiet_clearLine (h : Quiet s x) : Quiet s (clearLine x) := quiet_toWaitIdle (quiet_mapLc h id)

theorem quiet_giveOutcome (f : TxFrame) (ack refuse : Bool) (h : Quiet s x) : Quiet s (giveOutcome f ack refuse x) := by
  cases f with
  | trip => exact h
  | beacon => exact quiet_beaconSent _ h
  | join => exact quiet_joinOutcome _ _ h
  | leave => exact quiet_leaveOutcome _ h
  | status => exact h
  | mail => exact quiet_mailReported _ _ h

theorem quiet_countFailure (h : Quiet s x) : Quiet s (countFailure x) := by
  have h1 : Quiet s (mapLc (fun lc => { lc with failures := min 16 (lc.failures + 1) }) x) :=
    quiet_mapLc h fun _ => by simp
  unfold countFailure
  exact quiet_ite (fun _ => quiet_isolate h1) fun _ => h1

theorem quiet_failureNotice (f : TxFrame) (h : Quiet s x) : Quiet s (failureNotice f x) := by
  unfold failureNotice
  split
  · exact quiet_mailFailed h
  · exact h

theorem quiet_returnFrame (own : OwnFrame) (h : Quiet s x) : Quiet s (returnFrame own x) := by
  unfold returnFrame
  exact quiet_ite (fun _ => quiet_mapLc h id) fun _ => h

/-- The commands that are not quiet: what they do to the blocks is said by statements of their own. -/
def stirs : Instr → Bool
  | .hardwareReset _ _ | .loadConfig _ | .restart _ | .readEvents _ | .deadTimeExpiry _ | .epochBoundary | .outputCarrierStart
  | .outputActiveEntry => true
  | _ => false

theorem quiet_exec (c : Instr) (hc : stirs c = false) (h : exec c s = .next t) : Quiet s t := by
  have r := Quiet.refl s
  cases c with
  | hardwareReset | loadConfig | restart | readEvents | deadTimeExpiry | epochBoundary | outputCarrierStart
  | outputActiveEntry => simp [stirs] at hc
  | start =>
    exact quiet_goes h <| quiet_ite
      (fun _ => quiet_withoutPayload _ (quiet_answer _ (quiet_startListening r)) r) fun _ => quiet_answer _ r
  | leave =>
    exact quiet_goes h <| quiet_ite
      (fun _ => quiet_withoutPayload _ (quiet_answer _ (quiet_takeLeave r)) r) fun _ => quiet_answer _ r
  | run =>
    exact quiet_goes h <| quiet_ite (fun _ => quiet_answer _ r) fun _ =>
      quiet_withoutPayload _ (quiet_answer _ (quiet_setRun _ r)) r
  | halt =>
    exact quiet_goes h <| quiet_ite (fun _ => quiet_answer _ r) fun _ =>
      quiet_withoutPayload _ (quiet_answer _ (quiet_setRun _ r)) r
  | setDuty =>
    refine quiet_goes h ?_
    split
    · exact quiet_answer _ r
    · refine quiet_ite (fun _ => quiet_answer _ r) fun _ => ?_
      split
      · exact quiet_answer _ r
      · exact quiet_placeDuty _ _ r
  | cancelTimed =>
    refine quiet_goes h (quiet_ite (fun _ => quiet_answer _ r) fun _ => ?_)
    split
    · exact quiet_ite (fun _ => quiet_answer _ (quiet_mapPcu_rest r ⟨rfl, rfl, rfl⟩ rfl)) fun _ => quiet_answer _ r
    · exact quiet_answer _ r
  | forceTrip => exact quiet_goes h (quiet_withoutPayload _ (quiet_answer _ (quiet_latchCause _ r)) r)
  | clearTrip =>
    exact quiet_goes h <| quiet_ite (fun _ => quiet_withoutPayload _
      (quiet_ite (fun _ => quiet_answer _ r) fun _ => quiet_answer _ (quiet_clearCauses r)) r) fun _ => quiet_answer _ r
  | postMail => exact quiet_goes h (quiet_ite (fun _ => quiet_postMail _ r) fun _ => quiet_answer _ r)
  | takeMail => exact quiet_goes h (quiet_withoutPayload _ (quiet_takeMail r) r)
  | takeReceipt => exact quiet_goes h (quiet_withoutPayload _ (quiet_takeReceipt r) r)
  | readStatus | readEpoch | readTrip => exact quiet_goes h (quiet_withoutPayload _ (quiet_respond _ _ r) r)
  | readRoster =>
    refine quiet_goes h ?_
    split
    · split
      · exact quiet_respond _ _ r
      · exact quiet_answer _ r
    · exact quiet_answer _ r
  | readConfig =>
    refine quiet_goes h (quiet_withoutPayload _ ?_ r)
    split
    · exact quiet_answer _ r
    · exact quiet_respond _ _ r
  | setEventMask =>
    refine quiet_goes h ?_
    split
    · exact quiet_ite (fun _ => quiet_answer _ r) fun _ => quiet_answer _ (quiet_mapLp r fun _ => id)
    · exact quiet_answer _ r
  | unknownCommand | frameError => exact quiet_goes h (quiet_answer _ r)
  | commandLengthOverflow | windowClosedEarly => exact quiet_goes h (quiet_mapLp r fun _ => id)
  | peerLostBySilence =>
    refine quiet_goes h ?_
    split
    · exact r
    · exact quiet_ite (fun _ => quiet_countSilenceOf _ _ r) fun _ => r
  | handoverTimeout | leaveTimeout => exact quiet_goes h (quiet_ite (fun _ => quiet_leaveDone r) fun _ => r)
  | leaveRefill => exact quiet_goes h (quiet_ite (fun _ => quiet_fillLeave r) fun _ => r)
  | joinRefill => exact quiet_goes h (quiet_ite (fun _ => quiet_fillJoin r) fun _ => r)
  | admissionWaitExpiry => exact quiet_goes h (quiet_ite (fun _ => quiet_waitBoundary r) fun _ => r)
  | joinFailure => exact quiet_goes h (quiet_ite (fun _ => quiet_joinFails r) fun _ => r)
  | listenTimerExpiry =>
    refine quiet_goes h ?_
    split
    · exact r
    · exact quiet_ite (fun hl => quiet_found _ r (by simp_all [slotState])) fun _ => r
  | statusFill => exact quiet_goes h (quiet_fillStatus _ r)
  | candidateFillPoint =>
    refine quiet_goes h ?_
    split
    · exact r
    · exact quiet_candidateFill _ r
  | beaconDeadline => exact quiet_goes h (quiet_ite (fun _ => quiet_removeBeacon r) fun _ => r)
  | peak =>
    refine quiet_goes h ?_
    split
    · exact r
    · exact quiet_ite (fun _ => quiet_applyPending r) fun _ => r
  | pendingRecordApply => exact quiet_goes h (quiet_ite (fun _ => quiet_applyPending r) fun _ => r)
  | timedRecordDue => exact quiet_goes h (quiet_takeDue _ r)
  | dueRecordApply => exact quiet_goes h (quiet_ite (fun _ => quiet_applyDue r) fun _ => r)
  | missedBeacon =>
    refine quiet_goes h ?_
    split
    · exact r
    · exact quiet_ite (fun _ => quiet_missBeacon _ r) fun _ => quiet_mapTb r id id rfl ⟨rfl, rfl, rfl, rfl, rfl⟩
  | holdoverExpiry =>
    refine quiet_goes h ?_
    split
    · exact r
    · exact quiet_ite (fun _ => quiet_missBeacon _ r) fun _ => r
  | electionStart => exact quiet_goes h (quiet_ite (fun _ => r) fun _ => quiet_startElection r)
  | beaconMarker =>
    refine quiet_goes h ?_
    split
    · exact quiet_dropSample r
    · exact quiet_ite (fun _ => quiet_mapLc (quiet_dropSample r) id) fun _ =>
        quiet_ite (fun _ => quiet_dropSample r) fun _ => quiet_mapTb r id id rfl ⟨rfl, rfl, rfl, rfl, rfl⟩
  | beaconReceived => exact quiet_goes h (quiet_planReply _ _ (quiet_deliverBeacon _ _ (quiet_sourceReport _ r)))
  | joinReceived => exact quiet_goes h (quiet_planReply _ _ (quiet_postIf _ _ (quiet_sourceReport _ r)))
  | joinLeaveReplyComplete => exact quiet_goes h (quiet_replyEffect _ _ _ _ (quiet_endFrame r))
  | statusReceived =>
    exact quiet_goes h (quiet_planReply _ _
      (quiet_ite (fun _ => quiet_mapEntry _ _ (quiet_sourceReport _ r)) fun _ => quiet_sourceReport _ r))
  | mailReceived =>
    exact quiet_goes h (quiet_ite (fun _ => quiet_takeInMail _ (quiet_sourceReport _ r))
      fun _ => quiet_planReply _ _ (quiet_sourceReport _ r))
  | tripFrameReceived =>
    exact quiet_goes h (quiet_planReply _ _
      (quiet_ite (fun _ => quiet_sourceReport _ r) fun _ => quiet_mapTc (quiet_sourceReport _ r)))
  | frameDiscarded why =>
    have hd := quiet_planReply false false (quiet_dropSample r)
    cases why with
    | format => exact quiet_goes h (quiet_ite (fun _ => quiet_toWaitIdle hd) fun _ => hd)
    | badCrc | kindOrLength => exact quiet_goes h (quiet_mapLc hd id)
  | framerIdle | lineInactive => exact quiet_goes h (quiet_mapLc r id)
  | startOpportunity =>
    refine quiet_goes h (quiet_ite (fun _ => ?_) fun _ => r)
    split
    · exact r
    · exact quiet_mapLc r id
  | arbitrationLost => exact quiet_goes h (quiet_ite (fun _ => quiet_mapLc r id) fun _ => r)
  | arbitrationPassed =>
    refine quiet_goes h ?_
    split
    · exact r
    · exact quiet_ite (fun _ => quiet_mapMu (quiet_mapLc r id)) fun _ => quiet_mapLc r id
  | frameSuccess =>
    refine quiet_goes h ?_
    split
    · exact r
    · have h1 : Quiet s (mapLc (fun lc => { lc with failures := 0 }) (clearLine s)) :=
        quiet_mapLc (quiet_clearLine r) fun _ => by simp
      exact quiet_ite (fun _ => h1) fun _ => quiet_giveOutcome _ _ _ h1
  | transmitFailure =>
    refine quiet_goes h ?_
    split
    · exact r
    · exact quiet_ite (fun _ => quiet_clearLine r) fun _ =>
        quiet_countFailure (quiet_failureNotice _ (quiet_returnFrame _ (quiet_clearLine r)))
  | isolation => exact quiet_goes h (quiet_ite (fun _ => quiet_isolate (quiet_mapLc r fun _ => by simp)) fun _ => r)
  | mailRetry => exact quiet_goes h (quiet_retryHead r)
  | mailCompletion => exact quiet_goes h (quiet_settleQueue r)
  | lineRaised => exact quiet_goes h (quiet_latchCause _ (quiet_post _ (quiet_mapLc r id)))
  | fltnFall => exact (quiet_mapPins r).trans (quiet_goes h (quiet_latchCause _ (.refl _)))
  | fltnRise => cases h; exact quiet_mapPins r
  | tripnLow | tripnHigh => exact (quiet_mapPins r).trans (quiet_goes h (quiet_senseTripn (.refl _)))
  | rearm => exact quiet_goes h (quiet_ite (fun _ => quiet_enterArmed r) fun _ => r)
  | frameStartSeen => exact quiet_goes h (quiet_ite (fun _ => quiet_mapLc r id) fun _ => r)
  | refusalBitSampled => exact quiet_goes h (quiet_ite (fun _ => quiet_endFrame r) fun _ => r)
  | mailForOtherDestination | leaveReceived => exact quiet_goes h (quiet_planReply _ _ (quiet_sourceReport _ r))
  | compareMatch ch =>
    refine quiet_goes h ?_
    split
    · exact r
    · refine quiet_ite (fun _ => quiet_mapPcu r ?_ (by cases ch <;> exact id)) fun _ => r
      refine (forall_channelOf _ _).1 fun j => ?_
      rw [channelOf_mapChannel]
      split
      · exact channelMoved_refreshChannel _ _
      · exact .refl _

end Sys2Proof.Machine
end

section
namespace Sys2Proof.Machine

variable {s x t : State}

/-! #### Output carrier starts, entry to ACTIVE, boundaries -/

theorem follows_enterActive (h : Follows s x) : Follows s (enterActive x) := by
  unfold enterActive
  split
  · exact follows_mapPcu h ⟨.refl _, .refl _, .refl _⟩
  · exact h

/-- An entry to ACTIVE is made with the gate open (R88). -/
theorem activeLaw_enterActive (h : activeLaw x) : activeLaw (enterActive x) := by
  unfold enterActive
  split
  next hc =>
    simp only [gateOpen, Bool.and_eq_true] at hc
    exact fun _ => ⟨hc.2.1.1.1, hc.2.1.1.2⟩
  next => exact h

theorem follows_dueAfterStart (h : Follows s x) : Follows s (dueAfterStart x) := by
  unfold dueAfterStart
  split
  · split
    · exact follows_enterActive (h.trans (quiet_applyDue (quiet_postIf _ _ (.refl x))).toFollows)
    · exact h
  · exact h

theorem activeLaw_dueAfterStart (h : activeLaw x) : activeLaw (dueAfterStart x) := by
  unfold dueAfterStart
  split
  · split
    · exact activeLaw_enterActive ((quiet_applyDue (quiet_postIf _ _ (.refl x))).active h).1
    · exact h
  · exact h

theorem follows_boundaryPcu (h : Follows s x) : Follows s (boundaryPcu x) := by
  unfold boundaryPcu
  split
  · exact h
  · split
    · exact follows_dueAfterStart (h.trans (quiet_takeDue _ (.refl x)).toFollows)
    · exact h

theorem activeLaw_boundaryPcu (h : activeLaw x) : activeLaw (boundaryPcu x) := by
  unfold boundaryPcu
  split
  · exact h
  · split
    · exact activeLaw_dueAfterStart ((quiet_takeDue _ (.refl x)).active h).1
    · exact h

theorem quiet_boundaryCarrier (h : Quiet s x) : Quiet s (boundaryCarrier x) := by
  have h1 : Quiet s (if x.mc.beaconDeadline then removeBeacon x else x) :=
    quiet_ite (fun _ => quiet_removeBeacon h) fun _ => h
  unfold boundaryCarrier
  exact quiet_ite (fun _ => quiet_mapMc h1 rfl) fun _ => h

theorem follows_takeBoundary (cfg : ConfigRecord) (h : Follows s x) : Follows s (takeBoundary cfg x) := by
  have h1 : Follows s (mapTb (boundaryTb cfg) (boundaryCarrier x)) :=
    follows_mapTb (h.trans (quiet_boundaryCarrier (.refl x)).toFollows) id id
  exact (follows_boundaryPcu (h1.trans (quiet_boundaryMc cfg (.refl _)).toFollows)).trans
    (quiet_retryHead (quiet_boundaryTc (.refl _))).toFollows

theorem follows_startCarrier (cfg : ConfigRecord) (h : Follows s x) : Follows s (startCarrier cfg x) :=
  (follows_mapTb h id id).trans (quiet_postIf _ _ (.refl _)).toFollows

theorem follows_startPcu (h : Follows s x) : Follows s (startPcu x) := by
  have h1 : Quiet x (if x.pcu.due.isSome then applyDue x else applyPending x) :=
    quiet_ite (fun _ => quiet_applyDue (.refl x)) fun _ => quiet_applyPending (.refl x)
  exact follows_enterActive (h.trans (quiet_refreshChannels h1).toFollows)

theorem quiet_markStart (a : Bool) (h : Quiet s x) : Quiet s (markStart a x) :=
  quiet_mapTb h id id rfl ⟨rfl, rfl, rfl, rfl, rfl⟩

theorem follows_epochBoundary (h : exec .epochBoundary s = .next t) : Follows s t := by
  refine follows_goes h ?_
  split
  · exact .refl s
  · split
    · exact (quiet_mapTb (.refl s) id id rfl ⟨rfl, rfl, rfl, rfl, rfl⟩).toFollows
    · split
      · exact (follows_found _ (follows_takeBoundary _ (.refl s))).trans (quiet_fillStatus 0 (.refl _)).toFollows
      · exact follows_takeBoundary _ (.refl s)

theorem follows_outputCarrierStart (h : exec .outputCarrierStart s = .next t) : Follows s t := by
  refine follows_goes h ?_
  split
  · exact .refl s
  · split
    · exact (quiet_mapTb (.refl s) id id rfl ⟨rfl, rfl, rfl, rfl, rfl⟩).toFollows
    · exact follows_startPcu ((follows_startCarrier _ (.refl s)).trans (quiet_markStart _ (.refl _)).toFollows)

theorem follows_outputActiveEntry (h : exec .outputActiveEntry s = .next t) : Follows s t :=
  follows_goes h (follows_enterActive (.refl s))

/-! #### A RESTART, a READ_EVENTS and a count of a channel by itself -/

theorem keeps_restartAll (s : State) : Keeps s (restartAll s) := by
  have hl : Keeps s (leaveLine false .configured s) := (quiet_leaveLine false .configured (.refl s) (by simp)).toKeeps
  have hp : Keeps (leaveLine false .configured s) (restartPcu (leaveLine false .configured s)) :=
    ⟨rfl, rfl, id, id, fun _ => id⟩
  have hc (y : State) : Quiet y (restartLc y) := quiet_mapLc (quiet_emptyAllSlots (.refl y)) fun _ => by simp
  exact hl.trans (hp.trans (hc _).toKeeps)

theorem restartAll_channels (s : State) (ch : Channel) : channelOf (restartAll s).pcu ch = .reset := by
  simp only [restartAll, restartLc_frame, restartPcu, mapPcu_pcu]
  cases ch <;> rfl

theorem restartAll_output (s : State) : (restartAll s).pcu.output = .off := by
  simp only [restartAll, restartLc_frame, restartPcu, mapPcu_pcu]
  rfl

end Sys2Proof.Machine
end

section
namespace Sys2Proof.Machine

variable {s x t : State}

/-! ### One count: the blocks of the state after it -/

section runningTick
variable (s : State)

/-- The state of a count before the line's part of it. -/
def timed (s : State) : State := (timePart (pinTick s).2).2

theorem runningTick_eq : runningTick s = { timed s with
    pending := (runningTick s).pending
    lc := (lineTick (timed s)).2.lc
    mu := freshMail (lineTick (timed s)).1 (timed s).mu
    lp := (portTick (timed s)).2.lp } := by
  have hl := lineTick_frame (timed s)
  have hp : (portTick (lineTick (timed s)).2).2 = { timed s with
      lc := (lineTick (timed s)).2.lc, lp := (portTick (timed s)).2.lp } := by
    rw [portTick_frame, hl]; rfl
  have h0 : runningTick s = { mapMu (freshMail (lineTick (timed s)).1) (portTick (lineTick (timed s)).2).2 with
      pending := (runningTick s).pending } := rfl
  refine h0.trans ?_
  rw [hp]
  rfl

theorem runningTick_tb : (runningTick s).tb = (timed s).tb := by rw [runningTick_eq]
theorem runningTick_mc : (runningTick s).mc = (timed s).mc := by rw [runningTick_eq]
theorem runningTick_pcu : (runningTick s).pcu = (timed s).pcu := by rw [runningTick_eq]
theorem runningTick_lc : (runningTick s).lc = (lineTick (timed s)).2.lc := by rw [runningTick_eq]
theorem runningTick_lp : (runningTick s).lp = (portTick (timed s)).2.lp := by rw [runningTick_eq]

/-- The time part leaves the other blocks as the pins' part, which touches none, has them. -/
theorem timed_frame : (timed s).sid = s.sid ∧ (timed s).config = s.config ∧ (timed s).tc = s.tc ∧ (timed s).lc = s.lc ∧
    (timed s).mu = s.mu ∧ (timed s).lp = s.lp := by
  unfold timed
  rw [timePart_frame]
  simp

theorem runningTick_sid : (runningTick s).sid = s.sid := by rw [runningTick_eq]; exact (timed_frame s).1
theorem runningTick_config : (runningTick s).config = s.config := by rw [runningTick_eq]; exact (timed_frame s).2.1
theorem runningTick_tc : (runningTick s).tc = s.tc := by rw [runningTick_eq]; exact (timed_frame s).2.2.1

/-- While TB stands still a count clears its marks and the EPO pulse, and moves nothing else of TB, MC and PCU (R1). -/
theorem timed_still (h : s.config = none) :
    (timed s).tb = freshCount s.tb ∧ (timed s).mc = s.mc ∧ (timed s).pcu = s.pcu := by
  unfold timed timePart
  simp [h]

/-- The Time Base and MC after one count of a running station (R2, R3, R22, R51). -/
theorem timed_running (cfg : ConfigRecord) (h : s.config = some cfg) :
    (timed s).tb = advanceOutput cfg (advancePhase cfg (freshCount s.tb)) ∧
      (timed s).mc = if (carrierReached cfg (freshCount s.tb)).isSome then countCarrier s.mc else s.mc := by
  unfold timed timePart
  simp only [mapTb_config, mapTb_tb, pinTick_frame, h, timeTick, channelTick]
  split <;> simp [*]

/-- One count of the channels of a running station (R83). -/
theorem timed_channel (cfg : ConfigRecord) (h : s.config = some cfg) (ch : Channel) :
    channelOf (timed s).pcu ch = advanceHold cfg.deadTime (channelOf s.pcu ch) := by
  unfold timed timePart
  simp only [mapTb_config, pinTick_frame, h, timeTick, channelTick]
  split <;> cases ch <;> simp [channelOf]

end runningTick

/-! ### HARDWARE_RESET -/

/-- The station released from hardware reset with FLTN high (R18, R45, R91, R107, R123, R134, R146). -/
def released (sid : StationId) (s : State) : State :=
  { State.reset with
    pending := s.pending, now := s.now, stimulus := s.stimulus, sid := sid
    pins := { s.pins with resetn := true, straps := sid, fltn := true }
    lp := LocalPort.released s.pins.seln s.pins.sck }

theorem hardwareReset_high (sid : StationId) (s : State) :
    exec (.hardwareReset sid true) s = .next (released sid s) := rfl

/-- FLTN low at the release latches PIN (R94, R107). -/
theorem hardwareReset_low (sid : StationId) (s : State) :
    exec (.hardwareReset sid false) s = .next { released sid s with
      pins := { (released sid s).pins with fltn := false }
      tc := { trip := .trippedLocal, causes := { pin := true, command := false, line := false }, origins := [sid]
              tripEpoch := some 0 }
      lp := { (released sid s).lp with events := eventMask .trip } } := by
  rw [← BitVec.zero_or (x := eventMask .trip)]
  rfl

/-! ### Slew and dead time -/

/-- What a step does to a channel's hold count (R83). -/
def ChannelStepped (c d : ChannelState) : Prop :=
  (stageLaw c → stageLaw d) ∧
    (d.hold = 0 ∨ (d.request = c.request ∧ d.hold ≤ c.hold + 1) ∨ (d.request = c.lastRequest ∧ d.hold = c.runHold))

theorem ChannelMoved.stepped {c d : ChannelState} (h : ChannelMoved c d) : ChannelStepped c d := by
  obtain rfl | ⟨hl, hr, _, hs⟩ := h
  · exact ⟨id, .inr (.inl ⟨rfl, by omega⟩)⟩
  · refine ⟨fun _ => hs, ?_⟩
    unfold stageLaw at hs
    split at hs
    next hq => exact .inr (.inr ⟨hq.1.trans hl, hs.trans hr⟩)
    next => exact .inl hs

theorem channelStepped_advanceHold (deadTime : Nat) (c : ChannelState) : ChannelStepped c (advanceHold deadTime c) :=
  ⟨fun _ => advanceHold_law deadTime c, .inr (.inl ⟨rfl, Nat.min_le_right _ _⟩)⟩

theorem channelStepped_reset (c : ChannelState) : ChannelStepped c .reset := ⟨fun _ => rfl, .inl rfl⟩

/-- The marks of the count stand over a command, but that a mode may have changed (log 3, log 29). -/
def MarksKept (c d : ChannelState) : Prop :=
  d.lastRequest = c.lastRequest ∧ d.runHold = c.runHold ∧ (c.modeChanged = true → d.modeChanged = true)

theorem ChannelMoved.marksKept {c d : ChannelState} (h : ChannelMoved c d) : MarksKept c d := by
  obtain rfl | ⟨hl, hr, hm, _⟩ := h
  · exact ⟨rfl, rfl, id⟩
  · exact ⟨hl, hr, hm⟩

theorem hardwareReset_channel (sid : StationId) (fltn : Bool) (h : exec (.hardwareReset sid fltn) s = .next t) (ch : Channel) :
    channelOf t.pcu ch = .reset := by
  cases fltn with
  | true => rw [hardwareReset_high] at h; cases h; cases ch <;> rfl
  | false => rw [hardwareReset_low] at h; cases h; cases ch <;> rfl

theorem answer_pcu (status : Status) (x : State) : (answer status x).pcu = x.pcu := rfl

/-- LOAD_CONFIG accepts a record, or changes nothing but the response (R139). -/
theorem loadConfig_cases (payload : List Byte) (h : exec (.loadConfig payload) s = .next t) :
    (t = s ∨ ∃ status, t = answer status s) ∨ ∃ cfg, s.mc.station = .unconfigured ∧ configOfBytes payload = some cfg ∧
      t = answer .ok (acceptConfig cfg s) := by
  obtain ht | rfl := next_of_goes h
  · split at ht
    · exact .inl (.inr ⟨_, ht⟩)
    next hu =>
      split at ht
      · exact .inl (.inr ⟨_, ht⟩)
      next cfg hc => exact .inr ⟨cfg, by simpa using hu, hc, ht⟩
  · exact .inl (.inl rfl)

theorem quiet_of_answered (h : t = s ∨ ∃ status, t = answer status s) : Quiet s t := by
  obtain rfl | ⟨status, rfl⟩ := h
  · exact .refl _
  · exact quiet_answer _ (.refl _)

/-- READ_EVENTS takes the event set, or is quiet (R143). -/
theorem readEvents_cases (payload : List Byte) (h : exec (.readEvents payload) s = .next t) :
    Quiet s t ∨ ∃ response, t = respond .ok response (mapLp (fun lp => { lp with events := 0 }) s) := by
  obtain ht | rfl := next_of_goes h
  · unfold withoutPayload at ht
    split at ht
    · exact .inr ⟨_, ht⟩
    · exact .inl (ht ▸ quiet_answer _ (.refl s))
  · exact .inl (.refl _)

/-- RESTART restarts every block, or is quiet (R141). -/
theorem restart_cases (payload : List Byte) (h : exec (.restart payload) s = .next t) :
    Quiet s t ∨ ∃ status, t = answer status (restartAll s) := by
  obtain ht | rfl := next_of_goes h
  · unfold withoutPayload at ht
    (repeat' split at ht)
    · exact .inl (ht ▸ quiet_answer _ (.refl s))
    · exact .inr ⟨_, ht⟩
    · exact .inl (ht ▸ quiet_answer _ (.refl s))
  · exact .inl (.refl _)

/-- DEAD_TIME_EXPIRY is a count of its channel, or does nothing (R83, log 2). -/
theorem deadTimeExpiry_cases (j : Channel) (h : exec (.deadTimeExpiry j) s = .next t) :
    t = s ∨ ∃ cfg, s.config = some cfg ∧ t = mapPcu (mapChannel j (advanceHold cfg.deadTime)) s := by
  obtain ht | rfl := next_of_goes h
  · split at ht
    · exact .inl ht
    next cfg hcfg =>
      split at ht
      · exact .inr ⟨cfg, hcfg, ht⟩
      · exact .inl ht
  · exact .inl rfl

/-- What a command does to each channel: it moves it, resets it, or, as DEAD_TIME_EXPIRY of it, is a count of it. -/
theorem exec_channel (c : Instr) (h : exec c s = .next t) (ch : Channel) :
    ChannelMoved (channelOf s.pcu ch) (channelOf t.pcu ch) ∨
      (((∃ sid fltn, c = .hardwareReset sid fltn) ∨ ∃ payload, c = .restart payload) ∧ channelOf t.pcu ch = .reset) ∨
      (c = .deadTimeExpiry ch ∧ ∃ d, channelOf t.pcu ch = advanceHold d (channelOf s.pcu ch)) := by
  cases hc : stirs c with
  | false => exact .inl ((quiet_exec c hc h).channels ch)
  | true =>
    cases c with
    | hardwareReset sid fltn => exact .inr (.inl ⟨.inl ⟨_, _, rfl⟩, hardwareReset_channel sid fltn h ch⟩)
    | epochBoundary => exact .inl ((follows_epochBoundary h).channels ch)
    | outputCarrierStart => exact .inl ((follows_outputCarrierStart h).channels ch)
    | outputActiveEntry => exact .inl ((follows_outputActiveEntry h).channels ch)
    | loadConfig payload =>
      obtain hq | ⟨cfg, _, _, rfl⟩ := loadConfig_cases payload h
      · exact .inl ((quiet_of_answered hq).channels ch)
      · exact .inl (.inl (by cases ch <;> rfl))
    | readEvents payload =>
      obtain hq | ⟨_, rfl⟩ := readEvents_cases payload h
      · exact .inl (hq.channels ch)
      · exact .inl (.refl _)
    | restart payload =>
      obtain hq | ⟨_, rfl⟩ := restart_cases payload h
      · exact .inl (hq.channels ch)
      · exact .inr (.inl ⟨.inr ⟨_, rfl⟩, by rw [answer_pcu, restartAll_channels]⟩)
    | deadTimeExpiry j =>
      obtain rfl | ⟨cfg, _, rfl⟩ := deadTimeExpiry_cases j h
      · exact .inl (.refl _)
      · by_cases hj : ch = j
        · exact .inr (.inr ⟨by rw [hj], cfg.deadTime, by simp [channelOf_mapChannel, hj]⟩)
        · exact .inl (.inl (by simp [channelOf_mapChannel, hj]))
    | _ => simp [stirs] at hc

/-- A count resets a channel with RESETN low, leaves it while TB stands still, and counts it else. -/
theorem tick_channel (s : State) (ch : Channel) :
    channelOf (tick s).pcu ch = .reset ∨ channelOf (tick s).pcu ch = channelOf s.pcu ch ∨
      ∃ d, channelOf (tick s).pcu ch = advanceHold d (channelOf s.pcu ch) := by
  unfold tick
  dsimp only
  split
  · exact .inl (by cases ch <;> rfl)
  · split
    · exact .inl (by cases ch <;> rfl)
    · rw [runningTick_pcu]
      cases hc : s.config with
      | none => exact .inr (.inl (by rw [(timed_still s hc).2.2]))
      | some cfg => exact .inr (.inr ⟨_, timed_channel s cfg hc ch⟩)

/-- Every step's effect on a channel's hold count (R83). -/
theorem step_channel (h : step s = .next t) (ch : Channel) : ChannelStepped (channelOf s.pcu ch) (channelOf t.pcu ch) := by
  unfold step at h
  split at h
  · cases h
    obtain h | h | ⟨d, h⟩ := tick_channel s ch <;> rw [h]
    · exact channelStepped_reset _
    · exact (ChannelMoved.refl _).stepped
    · exact channelStepped_advanceHold d _
  · obtain h | ⟨_, h⟩ | ⟨_, d, h⟩ := exec_channel _ h ch
    · exact h.stepped
    · rw [h]; exact channelStepped_reset _
    · rw [h]; exact channelStepped_advanceHold d _

/-! #### An ACTIVE station -/

/-- The offset, the net step and the output position stand. -/
def outputKept (a b : TimeBase) : Prop := b.current = a.current ∧ b.netStep = a.netStep ∧ b.outPos = a.outPos

/-- A station with a slot keeps its output state over MC's boundary, or has left the line (R32, R59). -/
theorem boundaryMc_output (cfg : ConfigRecord) (h : slotState x.mc.station = true) :
    (boundaryMc cfg x).mc.station = .configured ∨ (boundaryMc cfg x).pcu.output = x.pcu.output := by
  have left (y : State) : (leaveDone y).mc.station = .configured := by
    simp [leaveDone, leaveLine_mc, leftMembership]
  unfold boundaryMc
  dsimp only
  cases hs : x.mc.station with
  | member => simp [hs]
  | leaving =>
    simp only [hs, countSilence_frame, mapMc_mc, fillStatus_frame]
    split
    · unfold handoverBoundary
      dsimp only
      split
      · exact .inl (left _)
      · simp
    · unfold leaveBoundary
      dsimp only
      split
      · exact .inl (left _)
      · split <;> simp
  | _ => simp [hs, slotState] at h

/-- The slew budget: the sync step and the offset step together are at most SLEW_MAX (R14, R15, R16). -/
theorem netStep_le (slewMax : Nat) (residual : Int) (l current target : Nat) :
    (syncStep slewMax residual - offsetStep l current target (slewMax - (syncStep slewMax residual).natAbs)).natAbs ≤ slewMax := by
  have hs : (syncStep slewMax residual).natAbs ≤ slewMax := by unfold syncStep; omega
  have ho (budget : Nat) : (offsetStep l current target budget).natAbs ≤ budget := by
    unfold offsetStep
    dsimp only
    split <;> omega
  have := ho (slewMax - (syncStep slewMax residual).natAbs)
  omega

theorem startCarrier_tb (cfg : ConfigRecord) (x : State) :
    (startCarrier cfg x).tb.outPos = 0 ∧ (startCarrier cfg x).tb.netStep.natAbs ≤ cfg.slewMax := by
  simp only [startCarrier, postIf_frame, mapTb_tb]
  exact ⟨trivial, netStep_le _ _ _ _ _⟩

end Sys2Proof.Machine
end

section
namespace Sys2Proof.Machine

variable {s x t : State}

/-- The boundary of an ACTIVE station that stays ACTIVE moves no output position (R2, R17). -/
theorem takeBoundary_outputKept (cfg : ConfigRecord) (hl : activeLaw s) (ha : s.pcu.output = .active)
    (ht : (takeBoundary cfg s).pcu.output = .active) : outputKept s.tb (takeBoundary cfg s).tb := by
  let p := mapTb (boundaryTb cfg) (boundaryCarrier s)
  have hp : p.pcu.output = .active := by simpa [p] using ha
  have hlp : activeLaw p := fun _ => by simpa [p, boundaryTb] using hl ha
  have hq := (quiet_boundaryMc cfg (.refl p)).active hlp
  have after : Quiet (boundaryPcu (boundaryMc cfg p)) (takeBoundary cfg s) := quiet_retryHead (quiet_boundaryTc (.refl _))
  have hlt : activeLaw (takeBoundary cfg s) := (after.active (activeLaw_boundaryPcu hq.1)).1
  have hmc : (takeBoundary cfg s).mc = (boundaryMc cfg p).mc := by simp [takeBoundary, p]
  have htb : (takeBoundary cfg s).tb = (boundaryMc cfg p).tb := by simp [takeBoundary, p]
  obtain hc | ho := boundaryMc_output cfg (x := p) (hlp hp).1
  · have := (hlt ht).1
    simp [hmc, hc, slotState] at this
  · obtain ⟨_, _, _, hcur, hnet, hpos⟩ := hq.2 (ho.trans hp)
    rw [htb]
    have hpt : p.tb = boundaryTb cfg s.tb := by simp [p]
    rw [hpt] at hcur hnet hpos
    exact ⟨hcur, hnet, hpos⟩

/-- How a command may move the places of a station that stays ACTIVE (R14 to R17). -/
def activeMove (c : Instr) (cfg : ConfigRecord) (a b : TimeBase) : Prop :=
  (outputKept a b ∨ (c = .outputCarrierStart ∧ b.outPos = 0 ∧ b.netStep.natAbs ≤ cfg.slewMax)) ∧
    (c = .epochBoundary ∨ (b.carrier = a.carrier ∧ b.position = a.position))

/-- While a station stays ACTIVE over a command, its places move at an output carrier start and at a boundary alone. -/
theorem exec_active (c : Instr) (cfg : ConfigRecord) (h : exec c s = .next t) (hcfg : s.config = some cfg)
    (hl : activeLaw s) (ha : s.pcu.output = .active) (hta : t.pcu.output = .active) : activeMove c cfg s.tb t.tb := by
  have quiet (hq : Quiet s t) : activeMove c cfg s.tb t.tb := by
    obtain ⟨_, h1, h2, h3⟩ := (hq.active hl).2 hta
    exact ⟨.inl h3, .inr ⟨h1, h2⟩⟩
  have same (htb : t.tb = s.tb) : activeMove c cfg s.tb t.tb := by simp [activeMove, htb, outputKept]
  cases hc : stirs c with
  | false => exact quiet (quiet_exec c hc h)
  | true =>
    cases c with
    | hardwareReset sid fltn =>
      cases fltn with
      | true => rw [hardwareReset_high] at h; cases h; cases hta
      | false => rw [hardwareReset_low] at h; cases h; cases hta
    | loadConfig payload =>
      obtain hq | ⟨_, hu, _⟩ := loadConfig_cases payload h
      · exact quiet (quiet_of_answered hq)
      · have := (hl ha).1
        simp [hu, slotState] at this
    | readEvents payload =>
      obtain hq | ⟨_, rfl⟩ := readEvents_cases payload h
      · exact quiet hq
      · exact same rfl
    | restart payload =>
      obtain hq | ⟨_, rfl⟩ := restart_cases payload h
      · exact quiet hq
      · rw [answer_pcu, restartAll_output] at hta; cases hta
    | deadTimeExpiry j =>
      obtain rfl | ⟨_, _, rfl⟩ := deadTimeExpiry_cases j h
      · exact same rfl
      · exact same rfl
    | outputActiveEntry =>
      obtain rfl | rfl := next_of_goes h
      · exact same (by simp)
      · exact same rfl
    | epochBoundary =>
      refine ⟨.inl ?_, .inl rfl⟩
      obtain ht | rfl := next_of_goes h
      · simp only [hcfg] at ht
        split at ht
        · rw [ht]; exact ⟨rfl, rfl, rfl⟩
        · rw [if_neg] at ht
          · rw [ht] at hta ⊢
            exact takeBoundary_outputKept cfg hl ha hta
          · have := (hl ha).1
            simp only [boundaryFounds, listenEnds, boundaryCarrier_frame, Bool.and_eq_true, beq_iff_eq]
            rintro ⟨_, hs, _⟩
            simp [hs, slotState] at this
      · exact ⟨rfl, rfl, rfl⟩
    | outputCarrierStart =>
      obtain ht | rfl := next_of_goes h
      · simp only [hcfg] at ht
        split at ht
        · rw [ht]; exact ⟨.inl ⟨rfl, rfl, rfl⟩, .inr ⟨rfl, rfl⟩⟩
        · rw [ht]
          simp only [startPcu_frame, markStart, mapTb_tb]
          exact ⟨.inr ⟨rfl, startCarrier_tb cfg s⟩, .inr (by simp [startCarrier])⟩
      · exact ⟨.inl ⟨rfl, rfl, rfl⟩, .inr ⟨rfl, rfl⟩⟩
    | _ => simp [stirs] at hc

/-- Settles O60: a command moves the places of an ACTIVE station by `exec_active`, and every step moves, counts or resets a
channel. -/
theorem slewAndDeadTime : Obligations.SlewAndDeadTime := by
  intro s t h
  refine ⟨fun c rest cfg hp hcfg hl ha hta => ?_, fun ch => ?_⟩
  · have hx : exec c { s with pending := rest } = .next t := by simpa [step, hp] using h
    exact exec_active (s := { s with pending := rest }) c cfg hx hcfg (activeLaw_of_outputLaw hl) ha hta
  · obtain ⟨hlaw, hhold⟩ := step_channel h ch
    refine ⟨hlaw, hhold, fun hone hcfg => ?_, fun c rest hp hreset hrestart hdead => ?_,
      fun d => channel_sides_exclusive d _⟩
    · obtain ⟨cfg, hcfg⟩ := Option.ne_none_iff_exists'.1 hcfg
      obtain rfl : runningTick s = t := by simpa [step_of_oneCount s hone] using h
      rw [runningTick_pcu, timed_channel s cfg hcfg]
      exact ⟨rfl, Nat.min_le_right _ _⟩
    · have hx : exec c { s with pending := rest } = .next t := by simpa [step, hp] using h
      obtain hm | ⟨⟨_, _, rfl⟩ | ⟨_, rfl⟩, _⟩ | ⟨rfl, _⟩ := exec_channel c hx ch
      · exact hm.marksKept
      · exact absurd rfl (hreset _ _)
      · exact absurd rfl (hrestart _)
      · exact absurd rfl hdead

end Sys2Proof.Machine
end

section
namespace Sys2Proof.Machine

variable {s x t : State}

/-! ### A station with no configuration record (R1, R21) -/

/-- The station state and what the standing-still law names of TB stand. -/
def Still (s t : State) : Prop :=
  t.mc.station = s.mc.station ∧ t.tb.carrier = s.tb.carrier ∧ t.tb.position = s.tb.position ∧ t.tb.epoch = s.tb.epoch ∧
    t.tb.lock = s.tb.lock ∧ t.tb.epo = s.tb.epo

theorem Still.refl (s : State) : Still s s := ⟨rfl, rfl, rfl, rfl, rfl, rfl⟩

theorem still_goes {u : State} (h : goes s u = .next t) (hu : Still s u) : Still s t := by
  obtain rfl | rfl := next_of_goes h
  · exact hu
  · exact .refl _

theorem still_of_blocks (htb : t.tb = s.tb) (hmc : t.mc.station = s.mc.station) : Still s t := by
  simp [Still, htb, hmc]

theorem still_withoutPayload {act : State → State} (payload : List Byte) (h : Still s (act s)) :
    Still s (withoutPayload payload act s) := by
  unfold withoutPayload
  split
  · exact h
  · exact still_of_blocks rfl rfl

/-- No command but HARDWARE_RESET and LOAD_CONFIG brings an unconfigured station out of its state or starts TB. -/
theorem exec_unconfigured (c : Instr) (h : exec c s = .next t) (hcfg : s.config = none)
    (hst : s.mc.station = .unconfigured) (hreset : ∀ sid fltn, c ≠ .hardwareReset sid fltn)
    (hload : ∀ payload, c ≠ .loadConfig payload) : Still s t := by
  have r := Still.refl s
  cases c with
  | hardwareReset sid fltn => exact absurd rfl (hreset sid fltn)
  | loadConfig payload => exact absurd rfl (hload payload)
  | start | leave | restart | run | halt | setDuty | cancelTimed | postMail =>
    exact still_goes h (still_of_blocks (by simp [hst, hcfg, groupState]) (by simp [hst, hcfg, groupState]))
  | forceTrip | takeMail | takeReceipt | readStatus | readEpoch | readTrip | readEvents =>
    exact still_goes h (still_withoutPayload _ (still_of_blocks (by simp) (by simp)))
  | clearTrip =>
    refine still_goes h ?_
    split
    · refine still_withoutPayload _ ?_
      split <;> exact still_of_blocks (by simp) (by simp)
    · exact still_of_blocks rfl rfl
  | readConfig => exact still_goes h (still_withoutPayload _ (still_of_blocks (by simp [hcfg]) (by simp [hcfg])))
  | readRoster | setEventMask =>
    refine still_goes h ?_
    (repeat' split) <;> exact still_of_blocks rfl rfl
  | unknownCommand | frameError | commandLengthOverflow | windowClosedEarly => exact still_goes h (still_of_blocks rfl rfl)
  | epochBoundary | peerLostBySilence | listenTimerExpiry | candidateFillPoint | outputCarrierStart | peak | missedBeacon
  | holdoverExpiry | compareMatch | deadTimeExpiry => exact still_goes h (by simp [hcfg, r])
  | handoverTimeout | leaveTimeout | leaveRefill | joinRefill | admissionWaitExpiry | joinFailure =>
    exact still_goes h (by simp [hst, r])
  | statusFill | timedRecordDue | outputActiveEntry | mailRetry | mailCompletion =>
    exact still_goes h (still_of_blocks (by simp) (by simp))
  | beaconDeadline =>
    refine still_goes h ?_
    split <;> exact still_of_blocks (by simp) (by simp)
  | pendingRecordApply | dueRecordApply => exact still_goes h (by simp [running, hcfg, r])
  | electionStart =>
    refine still_goes h ?_
    simp [startElection, hst, onLineState, r]
  | beaconMarker => exact still_goes h (by simp [hcfg, Still, dropSample])
  | beaconReceived =>
    exact still_goes h (by simp [deliverBeacon, hcfg, Still, dropSample])
  | joinReceived | leaveReceived | mailForOtherDestination => exact still_goes h (still_of_blocks (by simp) (by simp))
  | joinLeaveReplyComplete => exact still_goes h (still_of_blocks (by simp) (by simp))
  | statusReceived | mailReceived => exact still_goes h (still_of_blocks (by simp [hst, groupState]) (by simp [hst, groupState]))
  | tripFrameReceived =>
    refine still_goes h ?_
    split <;> exact still_of_blocks (by simp) (by simp)
  | frameDiscarded why =>
    cases why with
    | format =>
      refine still_goes h ?_
      dsimp only
      split <;> simp [Still, dropSample]
    | badCrc | kindOrLength => exact still_goes h (by simp [Still, dropSample])
  | framerIdle | lineInactive => exact still_goes h (still_of_blocks rfl rfl)
  | startOpportunity =>
    refine still_goes h ?_
    (repeat' split) <;> exact still_of_blocks rfl rfl
  | arbitrationPassed =>
    refine still_goes h ?_
    split
    · exact r
    · dsimp only
      split <;> split <;> exact still_of_blocks rfl rfl
  | arbitrationLost | frameStartSeen | refusalBitSampled =>
    refine still_goes h ?_
    split <;> exact still_of_blocks (by simp) (by simp)
  | frameSuccess ack refuse =>
    refine still_goes h ?_
    split
    · exact r
    next own _ =>
      split
      · exact still_of_blocks rfl rfl
      · cases own.frame <;>
          exact still_of_blocks (by simp [giveOutcome, beaconSent, joinOutcome, hcfg, hst])
            (by simp [giveOutcome, beaconSent, joinOutcome, hcfg, hst])
  | transmitFailure =>
    refine still_goes h ?_
    split
    · exact r
    · split
      · exact still_of_blocks rfl rfl
      · unfold countFailure isolate
        dsimp only
        split
        · exact still_of_blocks (by simp [hst]) (by simp [hst])
        · exact still_of_blocks (by simp) (by simp)
  | isolation =>
    refine still_goes h ?_
    split
    · unfold isolate
      exact still_of_blocks (by simp [hst]) (by simp [hst])
    · exact r
  | lineRaised => exact still_goes h (still_of_blocks (by simp) (by simp))
  | fltnFall => exact still_goes (s := mapPins _ s) h (still_of_blocks (by simp) (by simp))
  | fltnRise => cases h; exact still_of_blocks rfl rfl
  | tripnLow | tripnHigh => exact still_goes (s := mapPins _ s) h (still_of_blocks (by simp) (by simp))
  | rearm =>
    refine still_goes h ?_
    split
    · exact still_of_blocks (by simp) (by simp)
    · exact r

/-! ### The configuration, the counts and the posted events at every step -/

/-- What a command that is no HARDWARE_RESET, LOAD_CONFIG or READ_EVENTS keeps (R21, R119, R139, R142). -/
theorem exec_keeps (c : Instr) (h : exec c s = .next t) (hreset : ∀ sid fltn, c ≠ .hardwareReset sid fltn)
    (hload : ∀ payload, c ≠ .loadConfig payload) (hread : ∀ payload, c ≠ .readEvents payload) : Keeps s t := by
  cases hc : stirs c with
  | false => exact (quiet_exec c hc h).toKeeps
  | true =>
    cases c with
    | hardwareReset sid fltn => exact absurd rfl (hreset sid fltn)
    | loadConfig payload => exact absurd rfl (hload payload)
    | readEvents payload => exact absurd rfl (hread payload)
    | epochBoundary => exact (follows_epochBoundary h).toKeeps
    | outputCarrierStart => exact (follows_outputCarrierStart h).toKeeps
    | outputActiveEntry => exact (follows_outputActiveEntry h).toKeeps
    | restart payload =>
      obtain hq | ⟨status, rfl⟩ := restart_cases payload h
      · exact hq.toKeeps
      · exact (keeps_restartAll s).trans (quiet_answer status (.refl _)).toKeeps
    | deadTimeExpiry j =>
      obtain rfl | ⟨_, _, rfl⟩ := deadTimeExpiry_cases j h
      · exact .refl _
      · exact ⟨rfl, rfl, id, id, fun _ => id⟩
    | _ => simp [stirs] at hc

/-- The three laws that do not speak of events. -/
def countsKept (s t : State) : Prop :=
  configLaw t ∧ (standingStillLaw s → standingStillLaw t) ∧ (countsLaw s → countsLaw t)

theorem countsKept_of_keeps (hl : configLaw s) (hk : Keeps s t) (hs : s.config = none → Still s t) : countsKept s t := by
  refine ⟨⟨fun hc => ?_, fun hu => ?_⟩, fun hstill hc => ?_, hk.counts⟩
  · rw [hk.config] at hc
    exact (hs hc).1.trans (hl.1 hc)
  · rw [hk.config]
    by_contra hc
    exact hk.configured (fun hu => hc (hl.2 hu)) hu
  · rw [hk.config] at hc
    obtain ⟨_, h1, h2, h3, h4, h5⟩ := hs hc
    rw [h1, h2, h3, h4, h5]
    exact hstill hc

/-- A state whose blocks are those of the hardware reset meets the three laws. -/
theorem countsKept_of_reset (hc : t.config = none) (htb : t.tb = .reset) (hmc : t.mc = .reset)
    (hf : t.lc.failures = 0) : countsKept s t := by
  refine ⟨?_, fun _ => ?_, fun _ => ?_⟩
  · simp [configLaw, hc, hmc, Membership.reset]
  · simp [standingStillLaw, htb, TimeBase.reset]
  · simp [countsLaw, htb, hf, TimeBase.reset]

theorem countsKept_hardwareReset (sid : StationId) (fltn : Bool) (h : exec (.hardwareReset sid fltn) s = .next t) :
    countsKept s t := by
  cases fltn with
  | true => rw [hardwareReset_high] at h; cases h; exact countsKept_of_reset rfl rfl rfl rfl
  | false => rw [hardwareReset_low] at h; cases h; exact countsKept_of_reset rfl rfl rfl rfl

/-- An accepted record is held and the station CONFIGURED (R21, R139). -/
theorem countsKept_acceptConfig (cfg : ConfigRecord) (s : State) : countsKept s (answer .ok (acceptConfig cfg s)) := by
  refine ⟨?_, fun _ hc => ?_, fun ⟨_, _, hf⟩ => ?_⟩
  · simp [configLaw, acceptConfig, setStation]
  · simp [acceptConfig] at hc
  · simpa [countsLaw, acceptConfig, TimeBase.reset] using hf

theorem exec_countsKept (c : Instr) (hl : configLaw s) (h : exec c s = .next t) : countsKept s t := by
  have unconfigured (hreset : ∀ sid fltn, c ≠ .hardwareReset sid fltn) (hload : ∀ payload, c ≠ .loadConfig payload) :
      s.config = none → Still s t := fun hc => exec_unconfigured c h hc (hl.1 hc) hreset hload
  by_cases hreset : ∀ sid fltn, c ≠ .hardwareReset sid fltn
  · by_cases hload : ∀ payload, c ≠ .loadConfig payload
    · by_cases hread : ∀ payload, c ≠ .readEvents payload
      · exact countsKept_of_keeps hl (exec_keeps c h hreset hload hread) (unconfigured hreset hload)
      · push Not at hread
        obtain ⟨payload, rfl⟩ := hread
        obtain hq | ⟨_, rfl⟩ := readEvents_cases payload h
        · exact countsKept_of_keeps hl hq.toKeeps (unconfigured hreset hload)
        · exact ⟨hl, id, id⟩
    · push Not at hload
      obtain ⟨payload, rfl⟩ := hload
      obtain hq | ⟨cfg, _, _, rfl⟩ := loadConfig_cases payload h
      · refine countsKept_of_keeps hl (quiet_of_answered hq).toKeeps fun _ => ?_
        obtain rfl | ⟨_, rfl⟩ := hq
        · exact .refl _
        · exact still_of_blocks rfl rfl
      · exact countsKept_acceptConfig cfg s
  · push Not at hreset
    obtain ⟨sid, fltn, rfl⟩ := hreset
    exact countsKept_hardwareReset sid fltn h

/-- What a count moves of TB, of itself, is no lock state, no epoch number and no count of R5. -/
theorem advance_frame (cfg : ConfigRecord) (tb : TimeBase) :
    let tb' := advanceOutput cfg (advancePhase cfg (freshCount tb))
    tb'.inWindow = tb.inWindow ∧ tb'.missed = tb.missed ∧ tb'.lock = tb.lock ∧ tb'.epoch = tb.epoch ∧
      tb'.residual = tb.residual ∧ tb'.current = tb.current ∧ tb'.target = tb.target ∧ tb'.epo = false ∧
      tb'.inCarrier = tb.inCarrier ∧ tb'.windowOpen = tb.windowOpen := by
  unfold advanceOutput advancePhase
  dsimp only
  split <;> split <;> simp [freshCount]

section
variable (s)

/-- What one count of the line leaves of LC: the slots, the transmitter, the own frames and what the failures and the line
monitor have come to. -/
def lineKept (a b : LineController) : Prop :=
  b.slots = a.slots ∧ b.txOn = a.txOn ∧ b.onLine = a.onLine ∧ b.attempt = a.attempt ∧ b.failures = a.failures ∧
    b.lineActive = a.lineActive

theorem receiverSample_lineKept : lineKept s.lc (receiverSample s).2.lc := by
  unfold receiverSample; (repeat' split) <;> exact ⟨rfl, rfl, rfl, rfl, rfl, rfl⟩

theorem senderSample_lineKept (bits : List Bool) (i : Nat) (bit : Bool) :
    lineKept s.lc (senderSample bits i bit s).2.lc := by
  unfold senderSample; (repeat' split) <;> exact ⟨rfl, rfl, rfl, rfl, rfl, rfl⟩

theorem frameSample_lineKept (bit : Bool) : lineKept s.lc (frameSample bit s).2.lc := by
  unfold frameSample
  split
  · exact ⟨rfl, rfl, rfl, rfl, rfl, rfl⟩
  · dsimp only
    split
    · exact senderSample_lineKept (mapLc _ s) _ _ _
    · exact receiverSample_lineKept (mapLc _ s)

theorem sampleBit_lineKept (bit : Bool) : lineKept s.lc (sampleBit bit s).2.lc := by
  unfold sampleBit
  dsimp only
  split
  · exact ⟨rfl, rfl, rfl, rfl, rfl, rfl⟩
  · exact ⟨rfl, rfl, rfl, rfl, rfl, rfl⟩
  · exact frameSample_lineKept (mapLc _ s) _

/-- LC of a count once the level of its bit is driven (R108). -/
def lineDriven (s : State) : State :=
  let u := mapLc (fun lc => { lc with bitPhase := (lc.bitPhase + 1) % 8 }) s
  if u.lc.bitPhase = 0 then bitBoundary u else u

/-- The level of LRX at a count (R111, log 5). -/
def lineLevel (s : State) : Bool := lrxLevel s.pins (lineDriven s).lc.ltx

/-- LC of a count once the line monitor has counted its level (R121). -/
def lineMonitored (s : State) : State := (monitorTick (lineLevel s) (lineDriven s)).2

/-- The sample of a count, at the fifth of its bit time (R108). -/
def lineSampled (s : State) : List Instr × State :=
  if (lineMonitored s).lc.bitPhase = 4 then sampleBit (lineLevel s) (lineMonitored s) else ([], lineMonitored s)

theorem lineDriven_pins : (lineDriven s).pins = s.pins := by
  unfold lineDriven
  dsimp only
  split <;> rfl

/-- One count of the line, stage by stage. -/
theorem lineTick_eq : lineTick s =
    ((monitorTick (lineLevel s) (lineDriven s)).1 ++
      (if (s.lc.bitPhase + 1) % 8 = 0 then
        boundaryRows (mapLc (fun lc => { lc with bitPhase := (lc.bitPhase + 1) % 8 }) s) else []) ++
      idleRows (lineLevel s) (lineMonitored s) ++ (lineSampled s).1,
      mapLc (fun lc => { lc with lrxLast := lineLevel s }) (lineSampled s).2) := by
  unfold lineSampled lineMonitored lineLevel
  rw [← lineDriven_pins]
  rfl

theorem lineDriven_lineKept : lineKept s.lc (lineDriven s).lc := by
  unfold lineDriven
  dsimp only
  split <;> exact ⟨rfl, rfl, rfl, rfl, rfl, rfl⟩

theorem lineSampled_lineKept : lineKept (lineMonitored s).lc (lineSampled s).2.lc := by
  unfold lineSampled
  split
  · exact sampleBit_lineKept _ _
  · exact ⟨rfl, rfl, rfl, rfl, rfl, rfl⟩

theorem lineTick_lineKept : lineKept s.lc (lineTick s).2.lc := by
  have hm : lineKept s.lc (lineMonitored s).lc := lineDriven_lineKept s
  obtain ⟨h1, h2, h3, h4, h5, h6⟩ := hm
  obtain ⟨k1, k2, k3, k4, k5, k6⟩ := lineSampled_lineKept s
  rw [lineTick_eq]
  exact ⟨k1.trans h1, k2.trans h2, k3.trans h3, k4.trans h4, k5.trans h5, k6.trans h6⟩

theorem portTick_events : (portTick s).2.lp.events = s.lp.events := by
  have hs : ((selectTick s.pins.seln s.lp).2).events = s.lp.events := by unfold selectTick; split <;> rfl
  have hr (sdi : Bool) (lp : LocalPort) : (risingEdge sdi lp).2.events = lp.events := by
    unfold risingEdge; (repeat' split) <;> rfl
  have hf (lp : LocalPort) : (fallingEdge lp).events = lp.events := by unfold fallingEdge; (repeat' split) <;> rfl
  unfold portTick
  dsimp only [mapLp_lp]
  (repeat' split) <;> simp [hs, hr, hf]

end

theorem runningTick_events (s : State) : (runningTick s).lp.events = s.lp.events := by
  rw [runningTick_lp, portTick_events, (timed_frame s).2.2.2.2.2]

theorem runningTick_failures (s : State) : (runningTick s).lc.failures = s.lc.failures := by
  rw [runningTick_lc, (lineTick_lineKept _).2.2.2.2.1, (timed_frame s).2.2.2.1]

/-- A count of a running station keeps the station state and the counts of R5 (R5, R19). -/
theorem runningTick_counts (s : State) (cfg : ConfigRecord) (h : s.config = some cfg) :
    (runningTick s).mc.station = s.mc.station ∧ (runningTick s).tb.inWindow = s.tb.inWindow ∧
      (runningTick s).tb.missed = s.tb.missed := by
  obtain ⟨htb, hmc⟩ := timed_running s cfg h
  obtain ⟨hw, hm, _⟩ := advance_frame cfg s.tb
  rw [runningTick_mc, runningTick_tb, htb, hmc]
  exact ⟨by split <;> rfl, hw, hm⟩

theorem countsKept_runningTick (hl : configLaw s) : countsKept s (runningTick s) := by
  cases hc : s.config with
  | none =>
    obtain ⟨htb, hmc, _⟩ := timed_still s hc
    refine ⟨?_, fun hs _ => ?_, fun ⟨h1, h2, h3⟩ => ?_⟩
    · simpa [configLaw, runningTick_config, runningTick_mc, hmc] using hl
    · obtain ⟨h1, h2, h3, h4, _⟩ := hs hc
      rw [runningTick_tb, htb]
      exact ⟨h1, h2, h3, h4, rfl⟩
    · rw [countsLaw, runningTick_tb, htb, runningTick_failures]
      exact ⟨h1, h2, h3⟩
  | some cfg =>
    obtain ⟨hst, hw, hm⟩ := runningTick_counts s cfg hc
    refine ⟨?_, fun _ hn => ?_, fun ⟨h1, h2, h3⟩ => ?_⟩
    · simpa [configLaw, runningTick_config, hst] using hl
    · simp [runningTick_config, hc] at hn
    · rw [countsLaw, hw, hm, runningTick_failures]
      exact ⟨h1, h2, h3⟩

theorem countsKept_tick (hl : configLaw s) : countsKept s (tick s) := by
  unfold tick
  dsimp only
  split
  · exact countsKept_of_reset rfl rfl rfl rfl
  · split
    · exact countsKept_of_reset rfl rfl rfl rfl
    · exact countsKept_runningTick hl

/-- What a command that is no HARDWARE_RESET keeps of LP and the straps (R139, R142). -/
theorem exec_portKept (c : Instr) (hl : configLaw s) (h : exec c s = .next t)
    (hreset : ∀ sid fltn, c ≠ .hardwareReset sid fltn) :
    t.sid = s.sid ∧ (∀ cfg, s.config = some cfg → t.config = some cfg) ∧
      ((∀ payload, c ≠ .readEvents payload) → ∀ e, hasEvent s.lp.events e = true → hasEvent t.lp.events e = true) := by
  have keeps (hk : Keeps s t) : t.sid = s.sid ∧ (∀ cfg, s.config = some cfg → t.config = some cfg) ∧
      ((∀ payload, c ≠ .readEvents payload) → ∀ e, hasEvent s.lp.events e = true → hasEvent t.lp.events e = true) :=
    ⟨hk.sid, fun _ hc => hk.config.trans hc, fun _ => hk.events⟩
  by_cases hload : ∀ payload, c ≠ .loadConfig payload
  · by_cases hread : ∀ payload, c ≠ .readEvents payload
    · exact keeps (exec_keeps c h hreset hload hread)
    · push Not at hread
      obtain ⟨payload, rfl⟩ := hread
      obtain hq | ⟨_, rfl⟩ := readEvents_cases payload h
      · exact keeps hq.toKeeps
      · exact ⟨rfl, fun _ => id, fun hne => absurd rfl (hne payload)⟩
  · push Not at hload
    obtain ⟨payload, rfl⟩ := hload
    obtain hq | ⟨cfg, hu, _, rfl⟩ := loadConfig_cases payload h
    · exact keeps (quiet_of_answered hq).toKeeps
    · exact ⟨rfl, fun _ hc => by simp [hl.2 hu] at hc, fun _ e he => by simpa using he⟩

/-- Settles O59: a step is a command, by `exec_countsKept` and `exec_portKept`, or a count. -/
theorem countsAndEventsKept : Obligations.CountsAndEventsKept := by
  intro s t hl h
  suffices hs : countsKept s t ∧ _ from ⟨hs.1.1, hs.1.2.1, hs.1.2.2, hs.2⟩
  cases hp : s.pending with
  | nil =>
    obtain rfl : tick s = t := by simpa [step, hp] using h
    refine ⟨countsKept_tick hl, fun _ hone => ?_⟩
    obtain ⟨_, hr, hn⟩ := hone rfl
    have ht : tick s = runningTick s := by simp [tick, hr, hn]
    rw [ht, runningTick_events, runningTick_sid, runningTick_config]
    exact ⟨rfl, fun _ => id, fun _ _ => id⟩
  | cons c rest =>
    have hx : exec c { s with pending := rest } = .next t := by simpa [step, hp] using h
    refine ⟨exec_countsKept (s := { s with pending := rest }) c hl hx, fun hreset _ => ?_⟩
    obtain ⟨hsid, hcfg, hev⟩ := exec_portKept (s := { s with pending := rest }) c hl hx fun sid fltn hc =>
      hreset sid fltn (by simp [hc])
    exact ⟨hsid, hcfg, fun hread => hev fun payload hc => hread payload (by simp [hc])⟩

end Sys2Proof.Machine
end

section
namespace Sys2Proof.Machine

variable {s x t : State}

/-! ### Hardware reset (R18, R45, R91, R107, R123, R134, R146) -/

/-- The laws of a station whose blocks, TC and LP left out, are those of the hardware reset. -/
theorem laws_of_resetBlocks (hcfg : t.config = none) (htb : t.tb = .reset) (hmc : t.mc = .reset) (hpcu : t.pcu = .reset)
    (hlc : t.lc = .reset) (hmu : t.mu = .reset) (hpins : t.pins.resetn = true) :
    configLaw t ∧ standingStillLaw t ∧ outputLaw t ∧ dutyListLaw t ∧ roleLaw t ∧ electionLaw t ∧ countsLaw t ∧ mailLaw t ∧
      slotLaw t ∧ recordLaw t ∧ ownBeaconLaw t ∧ heldLaw t ∧ ∀ ch, stageLaw (channelOf t.pcu ch) := by
  have hslots : ∀ kind, slotOf t.lc.slots kind = none := fun kind => by rw [hlc]; cases kind <;> rfl
  refine ⟨?_, ?_, ?_, ?_, ?_, ?_, ?_, ?_, ?_, ?_, ?_, ?_, ?_⟩
  · simp [configLaw, hcfg, hmc, Membership.reset]
  · simp [standingStillLaw, htb, TimeBase.reset]
  · simp [outputLaw, gateOpen, hpcu, hmc, ChannelUnit.reset, Membership.reset, slotState]
  · simp [dutyListLaw, hpcu, ChannelUnit.reset]
  · simp [roleLaw, hmc, Membership.reset, slotState]
  · simp [electionLaw, hmc, Membership.reset]
  · simp [countsLaw, htb, hlc, TimeBase.reset, LineController.reset]
  · simp [mailLaw, hmu, hlc, MailUnit.reset, LineController.reset, TxSlots.empty]
  · intro kind f hf
    simp [hslots] at hf
  · simp [recordLaw, hmc, Membership.reset, slotState]
  · simp [ownBeaconLaw, hmc, hlc, Membership.reset, LineController.reset, TxSlots.empty]
  · intro hlow
    simp [hpins] at hlow
  · intro ch
    rw [hpcu]
    cases ch <;> rfl

theorem tripLaw_armed (h : t.tc = .reset) : tripLaw t := by
  simp [tripLaw, h, TripController.reset, anyCause]

/-- Settles O54: all blocks but TC stand at their reset values, and TC is ARMED, or TRIPPED_LOCAL by PIN. -/
theorem lawsHoldAtReset : Obligations.LawsHoldAtReset := by
  intro sid fltn s t h
  suffices ht : tripLaw t ∧ t.config = none ∧ t.tb = .reset ∧ t.mc = .reset ∧ t.pcu = .reset ∧ t.lc = .reset ∧
      t.mu = .reset ∧ t.pins.resetn = true by
    obtain ⟨htrip, hcfg, htb, hmc, hpcu, hlc, hmu, hpins⟩ := ht
    obtain ⟨h1, h2, h3⟩ := laws_of_resetBlocks hcfg htb hmc hpcu hlc hmu hpins
    exact ⟨h1, h2, htrip, h3⟩
  obtain rfl | h := h
  · exact ⟨tripLaw_armed rfl, rfl, rfl, rfl, rfl, rfl, rfl, rfl⟩
  · cases fltn with
    | true =>
      rw [hardwareReset_high] at h
      cases h
      exact ⟨tripLaw_armed rfl, rfl, rfl, rfl, rfl, rfl, rfl, rfl⟩
    | false =>
      rw [hardwareReset_low] at h
      cases h
      exact ⟨by simp [tripLaw, anyCause], rfl, rfl, rfl, rfl, rfl, rfl, rfl⟩

/-- With RESETN low a command but HARDWARE_RESET does nothing but take a pin's level (R95, R123, log 22). -/
theorem exec_low (c : Instr) (h : s.pins.resetn = false) (hreset : ∀ sid fltn, c ≠ .hardwareReset sid fltn) :
    ∃ pins : InputPins, exec c s = .next { s with pins := pins } ∧
      (c ≠ .fltnFall → c ≠ .fltnRise → c ≠ .tripnLow → c ≠ .tripnHigh → pins = s.pins) ∧
      (c = .fltnFall → pins = { s.pins with fltn := false }) ∧ (c = .fltnRise → pins = { s.pins with fltn := true }) ∧
      (c = .tripnLow → pins = { s.pins with tripn := false }) ∧ (c = .tripnHigh → pins = { s.pins with tripn := true }) := by
  cases c with
  | hardwareReset sid fltn => exact absurd rfl (hreset sid fltn)
  | fltnFall => exact ⟨_, goes_low (mapPins (fun p => { p with fltn := false }) s) _ h, by simp⟩
  | fltnRise => exact ⟨_, rfl, by simp⟩
  | tripnLow => exact ⟨_, goes_low (mapPins (fun p => { p with tripn := false }) s) _ h, by simp⟩
  | tripnHigh => exact ⟨_, goes_low (mapPins (fun p => { p with tripn := true }) s) _ h, by simp⟩
  | _ => exact ⟨s.pins, goes_low s _ h, by simp⟩

/-- Settles O2: the release is `released`, or `hardwareReset_low` with FLTN low, and with RESETN low nothing moves. -/
theorem hardwareReset : Obligations.HardwareReset := by
  refine ⟨fun sid s => ?_, fun sid s t h => ?_, fun s held hp hheld => ?_, fun c s => exec_low c⟩
  · refine ⟨released sid s, rfl, rfl, rfl, ?_, ?_, ?_, ?_, ?_, ?_, ?_, rfl, rfl, ?_⟩
    · exact ⟨rfl, rfl, rfl, rfl, rfl, rfl, rfl, rfl, rfl, rfl, rfl, rfl, rfl⟩
    · exact ⟨rfl, rfl, rfl, rfl, rfl, rfl, rfl, fun id => by simp [released, State.reset, Membership.reset, RosterEntry.blank]⟩
    · exact ⟨rfl, rfl, rfl, rfl, rfl, rfl, fun ch => by cases ch <;> rfl⟩
    · exact ⟨rfl, rfl, rfl, rfl⟩
    · exact ⟨rfl, fun kind => by cases kind <;> rfl, rfl, rfl, rfl, rfl⟩
    · exact ⟨rfl, rfl, rfl, rfl, rfl, fun id => by simp [released, State.reset, MailUnit.reset], rfl, rfl⟩
    · exact ⟨rfl, rfl, rfl, fun hs => by simp [released, LocalPort.released, hs],
        fun hs => by simp [released, LocalPort.released, hs]⟩
    · simp [attention, released, State.reset, LocalPort.released, LocalPort.reset]
  · rw [hardwareReset_high] at h
    cases h
    exact hardwareReset_low sid s
  · subst hheld
    have hstep : step s = .next (tick s) := by simp [step, hp]
    refine ⟨rfl, rfl, by simp [attention, LocalPort.reset], fun hlow => ?_, fun hlow hhigh => ?_⟩
    · have hn : (nextPins s).resetn = false := hlow
      rw [hstep, tick, hn]
      rfl
    · have hn : (nextPins s).resetn = true := hhigh
      rw [hstep, tick, hn, hlow]
      rfl

/-! ### LOAD_CONFIG -/

theorem answer_eq (status : Status) (x : State) : answer status x = { x with lp := answered (statusByte status) [] x.lp } := rfl

theorem exec_high {c : Instr} {u : State} (h : s.pins.resetn = true) (hc : exec c s = goes s u) : exec c s = .next u :=
  hc.trans (goes_high s u h)

theorem regate_eq_off (h : gateOpen x = false) : regate x = { x with pcu := { x.pcu with output := .off } } := by
  simp [regate, mapPcu, h]

/-- Settles O4: STATE, BAD_ARG, and the accepted record, whose station has no slot and so a closed gate. -/
theorem loadConfig : Obligations.LoadConfig := by
  intro payload s hr
  refine ⟨fun hs => ?_, fun hs hc => ?_, fun cfg hs hc => ?_⟩
  · exact exec_high hr (by simp only [exec, execLoadConfig, if_pos hs]; rfl)
  · exact exec_high hr (by simp only [exec, execLoadConfig, hs, hc, ne_eq, not_true, if_false]; rfl)
  · refine ⟨answer .ok (acceptConfig cfg s), exec_high hr (by simp [exec, execLoadConfig, hs, hc]), ?_, ?_⟩
    · rw [acceptConfig, setStation, regate_eq_off (by simp [gateOpen, slotState])]
      rfl
    · exact ⟨rfl, rfl, rfl, rfl, rfl, rfl, rfl, rfl, rfl, rfl, rfl⟩

end Sys2Proof.Machine
end

section
namespace Sys2Proof.Machine

variable {s x t : State}

/-! ### Leaving the line (R18, R33, R90, R134) -/

theorem gateOpen_unlocked (h : lockHeld x.tb.lock = false) : gateOpen x = false := by simp [gateOpen, h]

/-- An unlocked station closes the gate, and leaves REARM for ARMED at once (R87, R100). -/
theorem rearmIfUnlocked_regate (h : lockHeld x.tb.lock = false) : rearmIfUnlocked (regate x) = { x with
    pcu := { x.pcu with output := .off }, tc := unlockedTrip x.tc
    lp := { x.lp with events := x.lp.events ||| unlockedEvents x.tc } } := by
  have off (y : State) (hy : y.tb.lock = x.tb.lock) : regate y = { y with pcu := { y.pcu with output := .off } } :=
    regate_eq_off (gateOpen_unlocked (hy ▸ h))
  rw [off x rfl]
  unfold rearmIfUnlocked unlockedTrip unlockedEvents
  by_cases hr : x.tc.trip = .rearm
  · simp only [hr, h, decide_true, Bool.not_false, Bool.and_self, if_true]
    exact off _ rfl
  · simp [hr]

/-- Re-basing moves TB's output position and PCU's requests alone. -/
theorem rebase_blocks (x : State) : rebase x = { x with tb := (rebase x).tb, pcu := (rebase x).pcu } := by
  unfold rebase
  split
  · rfl
  · unfold refreshChannels
    split <;> rfl

theorem rebase_tb (x : State) : (rebase x).tb = { x.tb with
    outPos := (rebase x).tb.outPos, netStep := (rebase x).tb.netStep, inCarrier := (rebase x).tb.inCarrier
    startMark := (rebase x).tb.startMark } := by
  unfold rebase
  cases h : x.config <;> simp

/-- What TB is told on leaving the line (R18). -/
def freedTb (tb : TimeBase) : TimeBase :=
  { tb with
    lock := .free, inWindow := 0, missed := 0, residual := 0, syncLeft := 0, target := 0, current := 0
    phaseError := none, expired := false }

theorem freeTb_eq (x : State) : freeTb x = { x with
    tb := (rebase (mapTb freedTb x)).tb
    pcu := { (rebase (mapTb freedTb x)).pcu with output := .off }
    tc := unlockedTrip x.tc
    lp := { x.lp with events := x.lp.events ||| unlockedEvents x.tc } } := by
  have h : freeTb x = rearmIfUnlocked (regate (rebase (mapTb freedTb x))) := rfl
  rw [h, rearmIfUnlocked_regate (by simp [freedTb, lockHeld]), rebase_blocks]
  rfl

/-- With the current offset at 0 the output position is that of the shared phase, whatever the carrier length. -/
theorem freeTb_outputRebased (cfg : ConfigRecord) (x : State) (h : x.config = some cfg) :
    outputRebased cfg (freeTb x).tb := by
  rw [freeTb_eq]
  simp only [rebase, mapTb_config, h, refreshChannels_frame, mapTb_tb, outputRebased, countsPast, freedTb]
  refine ⟨Int.toNat_of_nonneg ?_, trivial, trivial⟩
  rw [Nat.cast_zero, sub_zero, ← Int.natCast_mod]
  exact Int.natCast_nonneg _

/-- Leaving the line before TB is told of it. -/
def leftBlocks (keepLeave : Bool) (to_ : StationState) (x : State) : State :=
  leaveMu (leavePcu (mapMc (leftMembership to_) (emptyMcSlots keepLeave x)))

theorem leaveLine_eq (keepLeave : Bool) (to_ : StationState) (x : State) :
    leaveLine keepLeave to_ x = freeTb (leftBlocks keepLeave to_ x) := rfl

section leaveLine
variable (keepLeave : Bool) (to_ : StationState) (x : State)

/-- The blocks that MC, PCU and MU leave to TB. -/
theorem leftBlocks_frame : hostKept x (leftBlocks keepLeave to_ x) ∧ (leftBlocks keepLeave to_ x).tb = x.tb ∧
    (leftBlocks keepLeave to_ x).tc = x.tc ∧ (leftBlocks keepLeave to_ x).lp = x.lp ∧
    (leftBlocks keepLeave to_ x).pcu =
      { x.pcu with run := false, output := .off, pendingDuty := none, due := none, timed := [] } ∧
    (leftBlocks keepLeave to_ x).mu = { x.mu with
      queue := [], inFlight := false, retryDue := false, receipts := [], filter := Vector.replicate 32 none } := by
  simp [leftBlocks, leaveMu, leavePcu, hostKept]

theorem leaveLine_phaseKept : phaseKept x (leaveLine keepLeave to_ x) := by
  rw [leaveLine_eq, freeTb_eq, phaseKept]
  dsimp only
  rw [rebase_tb]
  simp [freedTb, leftBlocks_frame]

theorem leaveLine_settingsKept : settingsKept x (leaveLine keepLeave to_ x) := by
  rw [leaveLine_eq, freeTb_eq, settingsKept]
  simp only [rebase_settings]
  rw [rebase_pcu]
  simp [leftBlocks_frame]

theorem leaveLine_tc : (leaveLine keepLeave to_ x).tc = unlockedTrip x.tc := by
  simp [leaveLine_eq, freeTb_eq, leftBlocks_frame]

theorem leaveLine_lp : eventsAdded (unlockedEvents x.tc) x (leaveLine keepLeave to_ x) := by
  simp [eventsAdded, leaveLine_eq, freeTb_eq, leftBlocks_frame]

/-- What leaving the line leaves of LC: MC's slots and the MAIL slot are empty, but for a LEAVE that R28 keeps, and the framer,
the transmitter and the line monitor stand. -/
theorem leaveLine_lc : (leaveLine keepLeave to_ x).lc = { x.lc with
    slots := { TxSlots.empty with trip := x.lc.slots.trip, leave := if keepLeave then x.lc.slots.leave else none }
    onLine := (leaveLine keepLeave to_ x).lc.onLine, attempt := (leaveLine keepLeave to_ x).lc.attempt
    ltx := (leaveLine keepLeave to_ x).lc.ltx } := by
  simp only [leaveLine_eq, freeTb_frame]
  cases keepLeave <;> rfl

theorem notReturnable_frame (kind : FrameKind) (own : Option OwnFrame) :
    (notReturnable kind own).map (·.frame) = own.map (·.frame) := by
  cases own with
  | none => rfl
  | some own => simp only [notReturnable, Option.map_some]; split <;> rfl

theorem staleOwn_frame (own : Option OwnFrame) : (staleOwn own).map (·.frame) = own.map (·.frame) := by
  cases own with
  | none => rfl
  | some own => simp only [staleOwn, Option.map_some]; split <;> rfl

theorem emptySlot_onLine (kind : FrameKind) (x : State) :
    (emptySlot kind x).lc.onLine = notReturnable kind x.lc.onLine := rfl

/-- A frame on the line stays on it, and stays the frame it is (R118). -/
theorem leaveLine_onLine_frame :
    (leaveLine keepLeave to_ x).lc.onLine.map (·.frame) = x.lc.onLine.map (·.frame) := by
  simp only [leaveLine_eq, freeTb_frame, leftBlocks, leaveMu, leavePcu, emptyMcSlots, removeBeacon]
  cases keepLeave <;> simp [emptySlot_onLine, notReturnable_frame, staleOwn_frame]

theorem leftTheLine_leaveLine : LeftTheLine to_ x (leaveLine keepLeave to_ x) := by
  have hmc := leaveLine_mc keepLeave to_ x
  have hmu : (leaveLine keepLeave to_ x).mu = (leftBlocks keepLeave to_ x).mu := by simp only [leaveLine_eq, freeTb_frame]
  obtain ⟨⟨h1, h2, h3, h4, h5, h6⟩, -, -, -, hpcu, hmail⟩ := leftBlocks_frame keepLeave to_ x
  have htb : (leaveLine keepLeave to_ x).tb = (rebase (mapTb freedTb (leftBlocks keepLeave to_ x))).tb := by
    rw [leaveLine_eq, freeTb_eq]
  rw [rebase_tb] at htb
  rw [hmail] at hmu
  have hlc := leaveLine_lc keepLeave to_ x
  constructor
  case station | role | record | election | timer => rw [hmc]; rfl
  case roster => intro id; rw [hmc]; simp [leftMembership]
  case attempts => rw [hmc]; exact ⟨rfl, rfl⟩
  case waits => rw [hmc]; exact ⟨rfl, rfl, rfl⟩
  case lock | steps => rw [htb]; exact ⟨rfl, rfl, rfl, rfl⟩
  case output => exact fun cfg hcfg => freeTb_outputRebased cfg _ (h6.trans hcfg)
  case duty =>
    rw [leaveLine_eq, freeTb_eq]
    dsimp only
    rw [rebase_pcu, mapTb_pcu, hpcu]
    exact ⟨rfl, rfl, rfl, rfl, rfl⟩
  case mail | inbound => rw [hmu]; exact ⟨rfl, rfl, rfl, rfl⟩
  case slots => rw [hlc]; exact ⟨rfl, rfl, rfl, rfl⟩
  case causes =>
    rw [leaveLine_tc]
    unfold unlockedTrip
    split <;> exact ⟨rfl, rfl⟩
  case host =>
    simp only [leaveLine_eq, hostKept, freeTb_frame]
    exact ⟨h1, h2, h3, h4, h5, h6⟩

end leaveLine

end Sys2Proof.Machine
end

section
namespace Sys2Proof.Machine

variable {s x t : State}

/-! ### RESTART (R141) -/

theorem hostKept.sid (h : hostKept s t) : t.sid = s.sid := h.2.2.2.1

theorem hostKept.pins (h : hostKept s t) : t.pins = s.pins := h.2.2.2.2.1

theorem hostKept.config (h : hostKept s t) : t.config = s.config := h.2.2.2.2.2

theorem hostKept_trans (h : hostKept s x) (k : hostKept x t) : hostKept s t := by
  obtain ⟨h1, h2, h3, h4, h5, h6⟩ := h
  obtain ⟨k1, k2, k3, k4, k5, k6⟩ := k
  exact ⟨k1.trans h1, k2.trans h2, k3.trans h3, k4.trans h4, k5.trans h5, k6.trans h6⟩

/-- What a station that has left the line may have changed after it, for it to have left the line still. -/
theorem leftTheLine_of_blocks {to_ : StationState} (h : LeftTheLine to_ s x) (hmc : t.mc = x.mc) (htb : t.tb = x.tb)
    (hmu : t.mu = x.mu) (htc : t.tc = x.tc) (host : hostKept x t)
    (hduty : t.pcu.run = false ∧ t.pcu.output = .off ∧ t.pcu.pendingDuty = none ∧ t.pcu.due = none ∧ t.pcu.timed = [])
    (hslots : t.lc.slots.beacon = none ∧ t.lc.slots.join = none ∧ t.lc.slots.status = none ∧ t.lc.slots.mail = none) :
    LeftTheLine to_ s t := by
  constructor
  case station => rw [hmc]; exact h.station
  case role => rw [hmc]; exact h.role
  case record => rw [hmc]; exact h.record
  case roster => rw [hmc]; exact h.roster
  case attempts => rw [hmc]; exact h.attempts
  case waits => rw [hmc]; exact h.waits
  case election => rw [hmc]; exact h.election
  case timer => rw [hmc]; exact h.timer
  case lock => rw [htb]; exact h.lock
  case steps => rw [htb]; exact h.steps
  case output => rw [htb]; exact h.output
  case duty => exact hduty
  case mail => rw [hmu]; exact h.mail
  case inbound => rw [hmu]; exact h.inbound
  case slots => exact hslots
  case causes => rw [htc]; exact h.causes
  case host => exact hostKept_trans h.host host

theorem hostKept_restartAll (s : State) : hostKept (leaveLine false .configured s) (restartAll s) := by
  simp [restartAll, hostKept]

theorem restartAll_lc (s : State) :
    (restartAll s).lc = (restartLc (leaveLine false .configured s)).lc := rfl

/-- LC after RESTART: the slots empty, and a frame on the line to complete with its outcome discarded (R118, R120, R123). -/
theorem restartLc_lc (x : State) : (restartLc x).lc = { x.lc with
    slots := .empty, attempt := none, txOn := true, failures := 0
    ltx := if x.lc.attempt.isSome then true else x.lc.ltx
    onLine := x.lc.onLine.map fun own => { own with returnable := false, restarted := true } } := by
  simp [restartLc, emptyAllSlots, Function.comp_def]

theorem restartAll_leftTheLine (s : State) : LeftTheLine .configured s (restartAll s) := by
  refine leftTheLine_of_blocks (leftTheLine_leaveLine false .configured s) ?_ ?_ ?_ ?_ (hostKept_restartAll s) ?_ ?_
  · simp [restartAll]
  · simp [restartAll]
  · simp [restartAll]
  · simp [restartAll]
  · simp only [restartAll, restartLc_frame]
    exact ⟨rfl, rfl, rfl, rfl, rfl⟩
  · rw [restartAll_lc, restartLc_lc]
    exact ⟨rfl, rfl, rfl, rfl⟩

theorem withoutPayload_nil (act : State → State) (x : State) : withoutPayload [] act x = act x := rfl

theorem withoutPayload_cons {payload : List Byte} (h : payload ≠ []) (act : State → State) (x : State) :
    withoutPayload payload act x = answer .badArg x := by
  cases payload with
  | nil => exact absurd rfl h
  | cons => rfl

/-- Settles O12: RESTART is leaving the line, by `leftTheLine_leaveLine`, with PCU and LC restarted after it. -/
theorem restartAll_blockByBlock : Obligations.RestartAll := by
  intro payload s hr
  refine ⟨fun hs => ?_, fun hs hp => ?_, fun hs => ?_⟩
  · exact exec_high hr (by simp only [exec, execRestart, if_pos hs]; rfl)
  · exact exec_high hr (by simp only [exec, execRestart, if_neg hs, withoutPayload_cons hp]; rfl)
  have hlc : (restartAll s).lc = _ := restartLc_lc (leaveLine false .configured s)
  have hline := leaveLine_lc false .configured s
  have hframe := leaveLine_onLine_frame false .configured s
  refine ⟨answer .ok (restartAll s), exec_high hr (by simp only [exec, execRestart, if_neg hs, withoutPayload_nil]), ?_⟩
  simp only [answer_frame, phaseKept]
  rw [hlc]
  refine ⟨?_, ?_, fun kind => by cases kind <;> rfl, rfl, rfl, rfl, ?_, ?_, ?_, ?_, ?_, ?_, restartAll_channels s, ?_, ?_⟩
  · have left := restartAll_leftTheLine s
    exact leftTheLine_of_blocks left rfl rfl rfl rfl ⟨rfl, rfl, rfl, rfl, rfl, rfl⟩ left.duty left.slots
  · simpa [restartAll, phaseKept] using leaveLine_phaseKept false .configured s
  · rw [hline]
  · rw [hline]
  · have hnone := congrArg Option.isSome hframe
    simp only [Option.isSome_map] at hnone
    rw [Option.map_eq_none_iff, ← Option.not_isSome_iff_eq_none, hnone, Option.not_isSome_iff_eq_none]
  · simpa [Function.comp_def] using hframe
  · intro own hown
    obtain ⟨_, _, rfl⟩ := Option.map_eq_some_iff.1 hown
    exact ⟨rfl, rfl⟩
  · simp [restartAll, restartPcu, ChannelUnit.reset]
  · simp [restartAll, leaveLine_tc]
  · rw [answer_eq, answeredAfter, ← leaveLine_lp false .configured s]
    simp [restartAll, statusByte]

end Sys2Proof.Machine
end

section
namespace Sys2Proof.Machine

variable {s x t : State}

/-! ### Roster entries, and what the loss of a peer does (R41, R129, R132) -/

theorem eventsBetween_refl (may : EventSet) (s : State) : eventsBetween 0 may s s := ⟨0, by simp, by simp⟩

theorem eventsBetween_trans {may : EventSet} (h : eventsBetween 0 may s x) (k : eventsBetween 0 may x t) :
    eventsBetween 0 may s t := by
  obtain ⟨a, ha, hx⟩ := h
  obtain ⟨b, hb, ht⟩ := k
  refine ⟨a ||| b, ?_, ?_⟩
  · rw [← ha, ← hb]
    ext i hi
    simp [Bool.and_or_distrib_right]
  · rw [ht, hx]
    simp [BitVec.or_assoc]

/-- A kind that may not be added stands. -/
theorem hasEvent_of_eventsBetween {may : EventSet} (h : eventsBetween 0 may s t) (e : Event) (he : hasEvent may e = false) :
    hasEvent t.lp.events e = hasEvent s.lp.events e := by
  obtain ⟨a, ha, ht⟩ := h
  have : a.getLsbD (eventBit e) = false := by
    rw [← ha, BitVec.getLsbD_and]
    simp [show may.getLsbD (eventBit e) = false from he]
  simp [ht, hasEvent, this]

/-- What a change of peers' roster entries may change: the roster, the mail of a peer lost, and the events of a loss. -/
structure PeersMoved (s t : State) : Prop where
  host : hostKept s t
  tb : t.tb = s.tb
  pcu : t.pcu = s.pcu
  tc : t.tc = s.tc
  mc : t.mc = { s.mc with roster := t.mc.roster }
  lc : t.lc = { s.lc with
    slots := { s.lc.slots with mail := t.lc.slots.mail }, onLine := t.lc.onLine, attempt := t.lc.attempt, ltx := t.lc.ltx }
  onLine : t.lc.onLine.map (·.frame) = s.lc.onLine.map (·.frame)
  mu : t.mu = { s.mu with
    queue := t.mu.queue, receipts := t.mu.receipts, filter := t.mu.filter, inFlight := t.mu.inFlight
    retryDue := t.mu.retryDue }
  lp : eventsBetween 0 lossEvents s t

theorem PeersMoved.refl (s : State) : PeersMoved s s :=
  ⟨⟨rfl, rfl, rfl, rfl, rfl, rfl⟩, rfl, rfl, rfl, rfl, rfl, rfl, rfl, eventsBetween_refl _ s⟩

theorem PeersMoved.trans (h : PeersMoved s x) (k : PeersMoved x t) : PeersMoved s t where
  host := hostKept_trans h.host k.host
  tb := k.tb.trans h.tb
  pcu := k.pcu.trans h.pcu
  tc := k.tc.trans h.tc
  mc := by rw [k.mc, h.mc]
  lc := by rw [k.lc, h.lc]
  onLine := k.onLine.trans h.onLine
  mu := by rw [k.mu, h.mu]
  lp := eventsBetween_trans h.lp k.lp

theorem peersMoved_mapMu {f : MailUnit → MailUnit} (x : State) (hf : f x.mu = { x.mu with
    queue := (f x.mu).queue, receipts := (f x.mu).receipts, filter := (f x.mu).filter, inFlight := (f x.mu).inFlight
    retryDue := (f x.mu).retryDue }) : PeersMoved x (mapMu f x) :=
  { PeersMoved.refl x with mu := hf, host := ⟨rfl, rfl, rfl, rfl, rfl, rfl⟩ }

theorem peersMoved_post (e : Event) (x : State) (he : eventMask e &&& lossEvents = eventMask e) : PeersMoved x (post e x) :=
  { PeersMoved.refl x with lp := ⟨eventMask e, he, by simp [post]⟩, host := ⟨rfl, rfl, rfl, rfl, rfl, rfl⟩ }

theorem peersMoved_fillMail (m : OutMail) (x : State) : PeersMoved x (fillSlot (mailFrame m) x) := by
  cases h : x.lc.txOn with
  | false => rw [fillSlot_off _ _ h]; exact .refl x
  | true =>
    exact { PeersMoved.refl x with
      lc := by simp [fillSlot, h, mailFrame, frameKind, setSlot]
      onLine := by simp [fillSlot, h, notReturnable_frame]
      host := ⟨rfl, rfl, rfl, rfl, rfl, rfl⟩ }

theorem peersMoved_emptyMail (x : State) : PeersMoved x (emptySlot .mail x) :=
  { PeersMoved.refl x with
    lc := rfl, onLine := notReturnable_frame _ _, host := ⟨rfl, rfl, rfl, rfl, rfl, rfl⟩ }

theorem peersMoved_completeHeads (fuel : Nat) (x : State) : PeersMoved x (completeHeads fuel x) := by
  induction fuel generalizing x with
  | zero => exact .refl x
  | succ n ih =>
    unfold completeHeads
    split
    · exact .refl x
    next head rest _ =>
      split
      · exact .refl x
      next outcome _ =>
        split
        · have left := (peersMoved_mapMu (f := fun mu =>
            { mu with queue := rest, receipts := mu.receipts ++ [receiptOf head outcome] }) x rfl).trans
            (peersMoved_post .receipt _ (by decide))
          dsimp only
          split
          · exact left
          · split
            · exact left.trans (peersMoved_fillMail _ _)
            · exact left.trans (ih _)
        · exact .refl x

theorem peersMoved_finishHead (o : MailOutcome) (x : State) : PeersMoved x (finishHead o x) :=
  ((peersMoved_mapMu _ rfl).trans (peersMoved_emptyMail _)).trans (peersMoved_completeHeads _ _)

theorem peersMoved_destinationGone (id : StationId) (x : State) : PeersMoved x (destinationGone id x) := by
  have forgotten := peersMoved_mapMu (f := fun mu => { clearFilter id mu with queue := loseBehind id mu.queue }) x
    (by unfold clearFilter; split <;> rfl)
  unfold destinationGone
  dsimp only
  split
  · exact forgotten
  · split
    · split
      · exact (forgotten.trans (peersMoved_mapMu _ rfl)).trans (peersMoved_emptyMail _)
      · exact forgotten.trans (peersMoved_finishHead _ _)
    · exact forgotten

theorem peersMoved_mapEntry (id : StationId) (f : RosterEntry → RosterEntry) (x : State) :
    PeersMoved x (mapEntry id f x) := by
  unfold mapEntry
  split
  · exact .refl x
  · exact { PeersMoved.refl x with mc := rfl, host := ⟨rfl, rfl, rfl, rfl, rfl, rfl⟩ }

theorem peersMoved_setEntryState (id : StationId) (state : EntryState) (fresh : Bool) (x : State) :
    PeersMoved x (setEntryState id state fresh x) := by
  have lost (c : Bool) (y : State) : PeersMoved y (postIf c .peerLost y) := by
    cases c
    · exact .refl y
    · exact peersMoved_post _ y (by decide)
  unfold setEntryState
  dsimp only
  split
  · exact .refl x
  · split
    · exact .refl x
    · have moved := (peersMoved_mapEntry id
        (fun e => { e with state := state, silence := if fresh then 0 else e.silence }) x).trans (lost (state == .lost) _)
      split
      · exact moved.trans (peersMoved_destinationGone _ _)
      · exact moved

theorem peersMoved_forEachId {f : StationId → State → State} (hf : ∀ id y, PeersMoved y (f id y)) (x : State) :
    PeersMoved x (forEachId f x) := by
  unfold forEachId
  generalize List.finRange 32 = ids
  induction ids generalizing x with
  | nil => exact .refl x
  | cons id ids ih => exact (hf id x).trans (ih _)

theorem peersMoved_adoptMask (mask : MemberMask) (from_ : Option StationId) (x : State) :
    PeersMoved x (adoptMask mask from_ x) :=
  peersMoved_forEachId (fun id y => peersMoved_setEntryState id _ _ y) x

/-! #### The roster, entry by entry -/

theorem destinationGone_mc (id : StationId) (x : State) : (destinationGone id x).mc = x.mc := by simp

theorem roster_set (roster : Vector RosterEntry 32) (e : RosterEntry) (id j : StationId) :
    (roster.set id.val e)[j.val] = if j = id then e else roster[j.val] := by
  simp only [Vector.getElem_set, Fin.ext_iff, eq_comm]

/-- A change of an entry's state changes that entry alone, and never the own one (R36). -/
theorem setEntryState_roster (id : StationId) (state : EntryState) (fresh : Bool) (x : State) (j : StationId) :
    (setEntryState id state fresh x).mc.roster[j.val] =
      if j = id ∧ id ≠ x.sid ∧ x.mc.roster[id.val].state ≠ state then
        { x.mc.roster[id.val] with state := state, silence := if fresh then 0 else x.mc.roster[id.val].silence }
      else x.mc.roster[j.val] := by
  unfold setEntryState
  by_cases hid : id = x.sid
  · simp [hid]
  · by_cases hst : x.mc.roster[id.val].state = state
    · simp [hst]
    · have hmc (y : State) (c : Prop) [Decidable c] : (if c then destinationGone id y else y).mc = y.mc := by
        split <;> simp
      simp only [if_neg hid, if_neg hst, hmc, postIf_frame, mapEntry, mapMc_mc, roster_set]
      simp [hid, hst]

/-- A walk over the IDs that changes each entry by itself gives each entry what its own step gives. -/
theorem forEachId_roster {f : StationId → State → State} {g : StationId → RosterEntry → RosterEntry} (own : StationId)
    (hf : ∀ id y, y.sid = own → (f id y).sid = own ∧
      ∀ j : StationId, (f id y).mc.roster[j.val] = if j = id then g id y.mc.roster[id.val] else y.mc.roster[j.val])
    (x : State) (hx : x.sid = own) (j : StationId) : (forEachId f x).mc.roster[j.val] = g j x.mc.roster[j.val] := by
  have walk (ids : List StationId) (hn : ids.Nodup) : ∀ y : State, y.sid = own →
      (ids.foldl (fun s i => f i s) y).mc.roster[j.val] =
        if j ∈ ids then g j y.mc.roster[j.val] else y.mc.roster[j.val] := by
    induction ids with
    | nil => intro y _; simp
    | cons id ids ih =>
      intro y hy
      obtain ⟨hid, hn⟩ := List.nodup_cons.1 hn
      obtain ⟨hs, hr⟩ := hf id y hy
      rw [List.foldl_cons, ih hn _ hs, hr]
      by_cases hj : j = id
      · subst hj; simp [hid]
      · simp [hj]
  exact (walk _ (List.nodup_finRange 32) x hx).trans (if_pos (List.mem_finRange j))

/-- An adopted mask changes each peer's entry as R41 says. -/
theorem adoptMask_roster (mask : MemberMask) (from_ : Option StationId) (x : State) (id : StationId) (hid : id ≠ x.sid) :
    (adoptMask mask from_ x).mc.roster[id.val] =
      adoptedEntry (inMask mask id) (from_ == some id) x.mc.roster[id.val] := by
  unfold adoptMask
  rw [forEachId_roster (g := fun j e => if j = x.sid then e else adoptedEntry (inMask mask j) (from_ == some j) e) x.sid
    (fun j y hy => ⟨by simp [hy], fun k => ?_⟩) x rfl id, if_neg hid]
  rw [setEntryState_roster, hy]
  by_cases hk : k = j
  · subst hk
    by_cases hs : k = x.sid
    · simp [hs]
    · rw [if_neg hs]
      generalize y.mc.roster[k.val] = e
      obtain ⟨state, silence, heard, report, error⟩ := e
      cases inMask mask k <;> by_cases hfrom : from_ = some k <;> cases state <;>
        simp [hs, hfrom, adoptedEntry, adoptedState]
  · simp [hk]

end Sys2Proof.Machine
end

section
namespace Sys2Proof.Machine

variable {s x t : State}

/-! ### Targets and lock states -/

theorem PeersMoved.onLine_none (h : PeersMoved s t) (hs : s.lc.onLine = none) : t.lc.onLine = none := by
  simpa [hs] using h.onLine

theorem giveTarget_none (place : Bool) (h : x.mc.record.bind (·.slot) = none) : giveTarget place x = x := by
  simp [giveTarget, h]

/-- A target given as a migrate request is held; a migration it ends is posted (R15, R64). -/
theorem giveTarget_false (slot : Slot) (h : x.mc.record.bind (·.slot) = some slot) : giveTarget false x =
    postIf (slot.target != x.tb.target && (x.tb.current != x.tb.target && slot.target == x.tb.current)) .migrated
      (mapTb (fun tb => { tb with target := slot.target }) x) := by
  by_cases ht : slot.target = x.tb.target
  · simp [giveTarget, h, ht, postIf, mapTb]
  · have hne : (slot.target != x.tb.target) = true := by simp [ht]
    simp only [giveTarget, h, Bool.false_eq_true, if_false, if_neg ht, migrateTarget, hne, Bool.true_and]

theorem gateOpen_eq (x : State) : gateOpen x = true ↔
    (x.mc.station = .member ∨ x.mc.station = .leaving) ∧ (x.tb.lock = .locked ∨ x.tb.lock = .holdover) ∧
      x.pcu.run = true ∧ x.tc.trip = .armed := by
  have hstation : slotState x.mc.station = true ↔ x.mc.station = .member ∨ x.mc.station = .leaving := by
    cases x.mc.station <;> simp [slotState]
  have hlock : lockHeld x.tb.lock = true ↔ x.tb.lock = .locked ∨ x.tb.lock = .holdover := by
    cases x.tb.lock <;> simp [lockHeld]
  simp [gateOpen, hstation, hlock, and_assoc]

/-- The gate, taken afresh, gives the output state that R87 and R88 say. -/
theorem regate_gatedOutput (x : State) : regate x = { x with pcu := { x.pcu with
    output := gatedOutput x.mc.station x.tb.lock x.pcu.run x.tc.trip x.pcu.output } } := by
  simp only [regate, mapPcu, gatedOutput, gateOpen_eq]

/-- What TB holds in LOCKED or HOLDOVER of its counts (R5). -/
def lockedTb (tb : TimeBase) : TimeBase := { tb with lock := .locked, inWindow := 2, expired := false }

/-- Entering LOCKED posts it, and does not touch the trip state (R5, R100). -/
theorem setLock_locked (x : State) :
    setLock .locked x = regate (postIf (x.tb.lock != .locked) .locked (mapTb lockedTb x)) := by
  have h : setLock .locked x = rearmIfUnlocked (regate (postIf (x.tb.lock != .locked) .locked (mapTb lockedTb x))) := by
    unfold setLock
    cases x.tb.lock <;> rfl
  rw [h, rearmIfUnlocked, if_neg]
  simp [lockedTb, lockHeld]

/-! ### FRAME_SUCCESS of a BEACON (R13, R49, R53, R60) -/

theorem clearLine_eq (x : State) : mapLc (fun lc => { lc with failures := 0 }) (clearLine x) =
    { x with lc := { offTheLine x.lc with failures := 0 } } := rfl

theorem exec_frameSuccess_beacon (own : OwnFrame) (b : Beacon) (ack refuse : Bool) (hr : s.pins.resetn = true)
    (ho : s.lc.onLine = some own) (hre : own.restarted = false) (hst : own.stale = false) (hf : own.frame = .beacon b) :
    exec (.frameSuccess ack refuse) s = .next (beaconSent b { s with lc := { offTheLine s.lc with failures := 0 } }) :=
  exec_high hr (by simp [exec, execFrameSuccess, ho, hre, hst, hf, clearLine_eq, giveOutcome])

/-- A candidate whose beacon has been sent, with its record filled and the mask adopted (R53). -/
def maskTaken (cfg : ConfigRecord) (b : Beacon) (x : State) : State :=
  adoptMask b.mask none (setRecord (some (referenceRecord cfg x.sid b.epoch b.mask)) (setRole .reference x))

theorem becomeReference_eq (cfg : ConfigRecord) (b : Beacon) (x : State) : becomeReference cfg b x =
    postIf (maskChanged x.mc.record b.mask) .membership
      (postIf (some x.sid != x.mc.record.bind (·.reference)) .referenceChanged
        (mapMc (fun mc => { mc with election := none })
          (lockAsReference (giveTarget false (maskTaken cfg b x))))) := by
  unfold becomeReference maskTaken setRecord setRole
  simp only [mapMc_sid, lockAsReference_frame, giveTarget_frame, adoptMask_frame]

/-- What taking the sent mask leaves: the role and the record are filled, and else only what a peer's entry touches moves. -/
theorem maskTaken_frame (cfg : ConfigRecord) (b : Beacon) (x : State) :
    PeersMoved (setRecord (some (referenceRecord cfg x.sid b.epoch b.mask)) (setRole .reference x)) (maskTaken cfg b x) :=
  peersMoved_adoptMask _ _ _

theorem maskTaken_roster (cfg : ConfigRecord) (b : Beacon) (x : State) (id : StationId) (hid : id ≠ x.sid) :
    (maskTaken cfg b x).mc.roster[id.val] = adoptedEntry (inMask b.mask id) false x.mc.roster[id.val] := by
  unfold maskTaken
  exact adoptMask_roster _ _ _ id (by simpa [setRecord, setRole] using hid)

/-- The target that a mask gives a station, and the one it holds without a slot in it (R62, R64). -/
def targetIn (cfg : ConfigRecord) (mask : MemberMask) (x : State) : Nat :=
  if inMask mask x.sid then (slotIn cfg mask x.sid).target else x.tb.target

/-- The target of the sent mask is given as a migrate request (R53, R64). -/
theorem giveTarget_maskTaken (cfg : ConfigRecord) (b : Beacon) (x : State) : ∃ c,
    giveTarget false (maskTaken cfg b x) =
      postIf c .migrated (mapTb (fun tb => { tb with target := targetIn cfg b.mask x }) (maskTaken cfg b x)) := by
  have moved := maskTaken_frame cfg b x
  have hrec : (maskTaken cfg b x).mc.record = some (referenceRecord cfg x.sid b.epoch b.mask) := by rw [moved.mc]; rfl
  have htb : (maskTaken cfg b x).tb = x.tb := moved.tb
  generalize maskTaken cfg b x = y at *
  cases hm : inMask b.mask x.sid with
  | true => exact ⟨_, (giveTarget_false (slotIn cfg b.mask x.sid) (by simp [hrec, referenceRecord, hm])).trans (by simp [targetIn, hm]; rfl)⟩
  | false =>
    refine ⟨false, (giveTarget_none _ (by simp [hrec, referenceRecord, hm])).trans ?_⟩
    simp [targetIn, hm, postIf, mapTb, ← htb]

/-- The station state's gate as MC leaves it to the reference's lock (R13, R87). -/
theorem lockAsReference_eq (x : State) : lockAsReference x =
    regate (postIf (x.tb.lock != .locked) .locked
      (mapTb (fun tb => { lockedTb tb with residual := 0, missed := 0 }) x)) :=
  setLock_locked _

theorem becomeReference_sent (cfg : ConfigRecord) (b : Beacon) (x : State) :
    let t := becomeReference cfg b x
    hostKept x t ∧ t.tb = { lockedTb x.tb with residual := 0, missed := 0, target := targetIn cfg b.mask x } ∧
      t.mc = { x.mc with
        role := .reference, record := some (referenceRecord cfg x.sid b.epoch b.mask), election := none
        roster := (maskTaken cfg b x).mc.roster } ∧
      t.pcu = { x.pcu with output := gatedOutput x.mc.station .locked x.pcu.run x.tc.trip x.pcu.output } ∧ t.tc = x.tc ∧
      t.lc = (maskTaken cfg b x).lc ∧
      ∀ e, e ≠ .migrated → hasEvent t.lp.events e = (hasEvent (maskTaken cfg b x).lp.events e ||
        (x.tb.lock != .locked && decide (e = .locked)) ||
        (some x.sid != x.mc.record.bind (·.reference) && decide (e = .referenceChanged)) ||
        (maskChanged x.mc.record b.mask && decide (e = .membership))) := by
  have moved := maskTaken_frame cfg b x
  obtain ⟨c, hg⟩ := giveTarget_maskTaken cfg b x
  dsimp only
  rw [becomeReference_eq, hg, lockAsReference_eq, regate_gatedOutput]
  obtain ⟨h1, h2, h3, h4, h5, h6⟩ := moved.host
  have htb := moved.tb
  have hpcu := moved.pcu
  have htc := moved.tc
  have hmc := moved.mc
  generalize maskTaken cfg b x = y at *
  simp only [setRecord, setRole, mapMc_tb, mapMc_pcu, mapMc_tc, mapMc_mc] at h1 h2 h3 h4 h5 h6 htb hpcu htc hmc
  simp only [hostKept, postIf_frame, mapMc_pending, mapMc_now, mapMc_stimulus, mapMc_sid, mapMc_config, mapMc_pins,
    mapMc_tb, mapMc_pcu, mapMc_tc, mapMc_lc, mapMc_mc, mapMc_lp, mapTb_pending, mapTb_now, mapTb_stimulus, mapTb_sid,
    mapTb_config, mapTb_pins, mapTb_tb, mapTb_pcu, mapTb_tc, mapTb_lc, mapTb_mc, hasEvent_postIf, mapTb_lp, htb, hpcu, htc]
  refine ⟨⟨h1, h2, h3, h4, h5, h6⟩, rfl, ?_, ?_, trivial, trivial, fun e he => ?_⟩
  · rw [hmc]
  · rw [hmc]; rfl
  · simp [he]

/-- A station that has left the line has done so from any state with the same mails, trips and host. -/
theorem leftTheLine_from {to_ : StationState} (h : LeftTheLine to_ x t) (hmu : x.mu = s.mu) (htc : x.tc = s.tc)
    (host : hostKept s x) : LeftTheLine to_ s t :=
  { h with
    output := fun cfg hcfg => h.output cfg (host.config.trans hcfg)
    inbound := hmu ▸ h.inbound
    causes := htc ▸ h.causes
    host := hostKept_trans host h.host }

theorem leaveDone_eq (x : State) : leaveDone x = post .left (leaveLine false .configured x) := rfl

theorem leftTheLine_leaveDone (x : State) : LeftTheLine .configured x (leaveDone x) := by
  have left := leftTheLine_leaveLine false .configured x
  exact leftTheLine_of_blocks left rfl rfl rfl rfl ⟨rfl, rfl, rfl, rfl, rfl, rfl⟩ left.duty left.slots

theorem leaveDone_lp (x : State) : eventsAdded (unlockedEvents x.tc ||| eventMask .left) x (leaveDone x) := by
  have h : (leaveDone x).lp = { (leaveLine false .configured x).lp with
    events := (leaveLine false .configured x).lp.events ||| eventMask .left } := rfl
  rw [eventsAdded, h, leaveLine_lp false .configured x]
  simp [BitVec.or_assoc]

theorem beaconSent_other (b : Beacon) (h : x.config = none ∨ (x.mc.role ≠ .candidate ∧
    ¬(x.mc.role = .reference ∧ x.mc.station = .leaving ∧ b.handover = true))) : beaconSent b x = x := by
  unfold beaconSent
  split
  · rfl
  next cfg hc =>
    obtain hn | ⟨hcand, hlast⟩ := h
    · simp [hn] at hc
    · rw [if_neg hcand, if_neg (by simpa [and_assoc] using hlast)]

theorem beaconSent_leaving (b : Beacon) (hcfg : x.config ≠ none) (hrole : x.mc.role = .reference)
    (hstation : x.mc.station = .leaving) (hhand : b.handover = true) : beaconSent b x = leaveDone x := by
  obtain ⟨cfg, hcfg⟩ := Option.ne_none_iff_exists'.1 hcfg
  simp [beaconSent, hcfg, hrole, hstation, hhand]

theorem beaconSent_candidate (cfg : ConfigRecord) (b : Beacon) (hcfg : x.config = some cfg)
    (hrole : x.mc.role = .candidate) : beaconSent b x = becomeReference cfg b x := by
  simp [beaconSent, hcfg, hrole]

/-- Settles O50: what `becomeReference_sent`, `leftTheLine_leaveDone` and the frame's end leave. -/
theorem beaconSent_success : Obligations.BeaconSent := by
  intro s base own b ack refuse hr hbase ho hre hst hf
  have hx := exec_frameSuccess_beacon own b ack refuse hr ho hre hst hf
  rw [← hbase] at hx
  have hhost : hostKept s base := by rw [hbase]; exact ⟨rfl, rfl, rfl, rfl, rfl, rfl⟩
  have hconfig : base.config = s.config := hhost.config
  have hmc : base.mc = s.mc := by rw [hbase]
  have htb : base.tb = s.tb := by rw [hbase]
  have hlp : base.lp = s.lp := by rw [hbase]
  have htc : base.tc = s.tc := by rw [hbase]
  have hpcu : base.pcu = s.pcu := by rw [hbase]
  have hsid : base.sid = s.sid := hhost.sid
  refine ⟨fun hno => ?_, fun hcfg hrole hstation hhand => ?_, fun cfg hcfg hrole => ?_⟩
  · rwa [beaconSent_other b (by rwa [hconfig, hmc])] at hx
  · rw [beaconSent_leaving b (hconfig ▸ hcfg) (hmc ▸ hrole) (hmc ▸ hstation) hhand] at hx
    have hleave : (leaveDone base).lc = (leaveLine false .configured base).lc := rfl
    have hleft : (leaveDone base).tc = (leaveLine false .configured base).tc := rfl
    refine ⟨_, hx, leftTheLine_from (leftTheLine_leaveDone base) (by rw [hbase]) htc hhost, ?_, ?_, ?_, ?_⟩
    · rw [phaseKept, ← htb]
      exact leaveLine_phaseKept false .configured base
    · rw [hleave, leaveLine_lc]; rfl
    · rw [hleft, leaveLine_tc, htc]
    · simpa [eventsAdded, hlp, htc] using leaveDone_lp base
  · rw [beaconSent_candidate cfg b (hconfig.trans hcfg) (hmc ▸ hrole)] at hx
    obtain ⟨host, tbAfter, mcAfter, pcuAfter, tcAfter, lcAfter, events⟩ := becomeReference_sent cfg b base
    have moved := maskTaken_frame cfg b base
    have hon : (maskTaken cfg b base).lc.onLine = none := moved.onLine_none (by rw [hbase]; rfl)
    have hfail : (maskTaken cfg b base).lc.failures = 0 := by
      rw [moved.lc, hbase]
      rfl
    have hkept (e : Event) (he : hasEvent lossEvents e = false) :
        hasEvent (maskTaken cfg b base).lp.events e = hasEvent s.lp.events e :=
      (hasEvent_of_eventsBetween moved.lp e he).trans (by rw [← hlp]; rfl)
    refine ⟨_, hx, hostKept_trans hhost host, ?_⟩
    unfold phaseKept settingsKept
    rw [tbAfter, mcAfter, pcuAfter, tcAfter, lcAfter, events _ (by decide), events _ (by decide), events _ (by decide),
      hkept _ (by decide), hkept _ (by decide), hkept _ (by decide), hon, hfail, htb, hmc, htc, hpcu, hsid]
    refine ⟨⟨rfl, rfl, rfl⟩, rfl, rfl, rfl, rfl, fun id hid => ?_, rfl, rfl, rfl, rfl, rfl, rfl, fun hm => ?_, fun hm => ?_, rfl,
      ⟨rfl, rfl, rfl, rfl⟩, rfl, rfl, rfl, fun _ => rfl, ?_, ?_, ?_⟩
    · rw [maskTaken_roster cfg b base id (hsid ▸ hid), hmc]
    · simp [targetIn, hsid, hm]
    · simp [targetIn, hsid, hm, htb]
    · simp [ne_comm (a := s.mc.record.bind _)]
    · simp [maskChanged]
    · simp

end Sys2Proof.Machine
end

section
namespace Sys2Proof.Machine

variable {s x t : State}

/-! ### Apply points (R75, R78, R79, R88) -/

/-- A record applied to the three channels at a value of the output counter. -/
def appliedPcu (n : Nat) (d : DutySettings) (p : ChannelUnit) : ChannelUnit :=
  { p with
    u := applyChannel n d.u p.u, v := applyChannel n d.v p.v, w := applyChannel n d.w p.w, hasApplied := true }

theorem recordApplied_appliedPcu (n : Nat) (d : DutySettings) (p : ChannelUnit) : recordApplied n d p (appliedPcu n d p) :=
  ⟨applyChannel_applied _ _ _, applyChannel_applied _ _ _, applyChannel_applied _ _ _⟩

theorem applySettings_eq (cfg : ConfigRecord) (d : DutySettings) (h : x.config = some cfg) :
    applySettings d x = { x with pcu := appliedPcu (counterNow cfg x) d x.pcu } := by
  simp [applySettings, h, mapPcu, appliedPcu]

theorem applyPending_none (h : x.pcu.pendingDuty = none) : applyPending x = x := by simp [applyPending, h]

theorem applyPending_eq (cfg : ConfigRecord) (d : DutySettings) (hc : x.config = some cfg)
    (h : x.pcu.pendingDuty = some d) :
    applyPending x = { x with pcu := { appliedPcu (counterNow cfg x) d x.pcu with pendingDuty := none } } := by
  simp [applyPending, h, applySettings_eq cfg d hc, mapPcu]

theorem applyDue_none (h : x.pcu.due = none) : applyDue x = x := by simp [applyDue, h]

theorem postIf_eq (c : Bool) (e : Event) (x : State) :
    postIf c e x = { x with lp := { x.lp with events := x.lp.events ||| eventIf (c = true) e } } := by
  cases c <;> simp [postIf, eventIf, post, mapLp]

theorem applyDue_eq (cfg : ConfigRecord) (d : DutySettings) (hc : x.config = some cfg) (h : x.pcu.due = some d) :
    applyDue x = { x with
      pcu := { appliedPcu (counterNow cfg x) d x.pcu with pendingDuty := none, due := none }
      lp := { x.lp with events :=
        x.lp.events ||| eventIf (x.pcu.pendingDuty ≠ none) .dutyDropped ||| eventMask .dutyDue } } := by
  have hsome : x.pcu.pendingDuty.isSome = true ↔ x.pcu.pendingDuty ≠ none := Option.isSome_iff_ne_none
  simp only [applyDue, h, applySettings_eq cfg d hc, mapPcu, postIf_eq, post, mapLp, hsome]

theorem enterActive_eq (x : State) : enterActive x = { x with pcu := { x.pcu with
    output := if x.pcu.output = .standby ∧ x.pcu.hasApplied = true ∧ gateOpen x = true then .active else x.pcu.output } } := by
  unfold enterActive
  by_cases h : x.pcu.output = .standby ∧ x.pcu.hasApplied = true ∧ gateOpen x = true
  · obtain ⟨ho, ha, hg⟩ := h
    simp [ho, ha, hg, mapPcu]
  · rw [if_neg h, if_neg (by simpa [and_assoc] using h)]

theorem takeDue_other (n : EpochNumber) (h : ∀ r, x.pcu.timed.head? = some r → r.epoch ≠ n) : takeDue n x = x := by
  unfold takeDue
  split
  · rfl
  next r rest hr => rw [if_neg (h r (by simp [hr]))]

theorem takeDue_first (r : TimedDuty) (rest : List TimedDuty) (h : x.pcu.timed = r :: rest) :
    takeDue r.epoch x = { x with
      pcu := { x.pcu with due := some r.settings, timed := rest }
      lp := { x.lp with events := x.lp.events ||| eventIf (x.pcu.due ≠ none) .dutyDropped } } := by
  have hsome : x.pcu.due.isSome = true ↔ x.pcu.due ≠ none := Option.isSome_iff_ne_none
  simp only [takeDue, h, if_true, postIf_eq, mapPcu, hsome]

/-- Settles O15: the apply points are `applyPending` and `applyDue`, the due record `takeDue`, the entry `enterActive`. -/
theorem applyPoints : Obligations.ApplyPoints := by
  refine ⟨fun s hr => ⟨fun hc => ?_, fun hp => ?_, fun cfg hc hno => ?_, fun hin => ?_, fun hd => ?_, fun cfg r hc hp => ?_,
    fun cfg r hc hd => ?_⟩, fun s n hr => ⟨fun hn => ?_, fun r rest ht he => ?_, ?_⟩⟩
  · refine ⟨exec_high hr ?_, exec_high hr ?_, exec_high hr ?_⟩ <;>
      simp [exec, execPeak, execPendingRecordApply, execDueRecordApply, running, hc]
  · refine ⟨exec_high hr ?_, exec_high hr ?_⟩
    · cases hc : s.config <;> simp [exec, execPeak, hc, applyPending_none hp]
    · simp [exec, execPendingRecordApply, applyPending_none hp]
  · exact exec_high hr (by obtain h | h := hno <;> simp [exec, execPeak, hc, h])
  · refine exec_high hr ?_
    simp only [exec, execPeak, hin, Bool.and_false, Bool.false_eq_true, if_false]
    split <;> rfl
  · exact exec_high hr (by simp [exec, execDueRecordApply, applyDue_none hd])
  · refine ⟨applyPending s, exec_high hr (by simp [exec, execPendingRecordApply, running, hc]), fun hm ha hi =>
      exec_high hr (by simp [exec, execPeak, hc, hm, ha, hi]), ?_, ?_⟩
    · rw [applyPending_eq cfg r hc hp]; rfl
    · rw [applyPending_eq cfg r hc hp]; exact recordApplied_appliedPcu _ _ _
  · refine ⟨applyDue s, exec_high hr (by simp [exec, execDueRecordApply, running, hc]), ?_, ?_⟩
    · rw [applyDue_eq cfg r hc hd]; rfl
    · rw [applyDue_eq cfg r hc hd]; exact recordApplied_appliedPcu _ _ _
  · exact exec_high hr (by simp only [exec, execTimedRecordDue, takeDue_other n hn])
  · exact exec_high hr (by subst he; simp only [exec, execTimedRecordDue, takeDue_first r rest ht])
  · exact exec_high hr (by simp only [exec, execOutputActiveEntry, enterActive_eq, gateOpen_eq])

end Sys2Proof.Machine
end

section
namespace Sys2Proof.Machine

variable {s x t : State}

/-! ### Compare matches, dead times and the output counter (R3, R82, R83) -/

theorem mapPcu_mapChannel (ch : Channel) (f : ChannelState → ChannelState) (x : State) :
    mapPcu (mapChannel ch f) x = { x with pcu := { x.pcu with
      u := (mapPcu (mapChannel ch f) x).pcu.u, v := (mapPcu (mapChannel ch f) x).pcu.v
      w := (mapPcu (mapChannel ch f) x).pcu.w } } := by
  cases ch <;> rfl

theorem channelOf_mapChannel_self (ch : Channel) (f : ChannelState → ChannelState) (p : ChannelUnit) :
    channelOf (mapChannel ch f p) ch = f (channelOf p ch) := by simp [channelOf_mapChannel]

/-- The hold count of a channel at D - 1 reaches D (R83). -/
theorem advanceHold_expires (c : ChannelState) :
    advanceHold (c.hold + 1) c = { c with
      hold := c.hold + 1, lastRequest := c.request, runHold := c.hold + 1, modeChanged := false } := by
  simp [advanceHold]

/-- The output counter of EDGE counts to L - 1 and holds there (R3). -/
theorem outputCounter_edge (cfg : ConfigRecord) (n : Int) (y : Nat) (h : cfg.mode = .edge) (hp : 0 < cfg.period) :
    outputCounter cfg y n = if y < cfg.period then y else cfg.period - 1 := by
  simp only [outputCounter, h]
  split <;> omega

/-- The output counter of CENTRE (R3). -/
theorem outputCounter_centre (cfg : ConfigRecord) (n : Int) (y : Nat) (h : cfg.mode = .centre) :
    outputCounter cfg y n = if (y : Int) ≤ cfg.period + max 0 (-n) then min y cfg.period
      else (2 * (cfg.period : Int) - n - y).toNat := by
  simp only [outputCounter, h]
  congr 1
  exact propext (by omega)

/-- Settles O17: a command of a channel is `mapChannel` of it, and the counter is that of its mode. -/
theorem channelStages : Obligations.ChannelStages := by
  refine ⟨fun s ch hr => ⟨fun hc => ?_, fun hm => ?_, fun cfg hc hh => ?_, fun cfg hc hm => ?_, fun cfg hc hh => ?_⟩,
    fun cfg y n hacc hn hy => ?_⟩
  · exact ⟨exec_high hr (by simp [exec, execCompareMatch, hc]), exec_high hr (by simp [exec, execDeadTimeExpiry, hc])⟩
  · exact exec_high hr (by cases hc : s.config <;> simp [exec, execCompareMatch, hc, hm])
  · exact exec_high hr (by simp [exec, execDeadTimeExpiry, hc, hh])
  · refine ⟨mapPcu (mapChannel ch (refreshChannel (counterNow cfg s))) s,
      exec_high hr (by simp [exec, execCompareMatch, hc, hm]), mapPcu_mapChannel _ _ _, fun other ho => ?_, ?_⟩
    · simp [channelOf_mapChannel, ho]
    · rw [mapPcu_pcu, channelOf_mapChannel_self]
      exact ⟨rfl, by simp [refreshChannel_request, requestOf, hm, counterNow], rfl, rfl, rfl, rfl⟩
  · refine ⟨mapPcu (mapChannel ch (advanceHold cfg.deadTime)) s,
      exec_high hr (by simp [exec, execDeadTimeExpiry, hc, hh]), mapPcu_mapChannel _ _ _, fun other ho => ?_, ?_⟩
    · simp [channelOf_mapChannel, ho]
    · rw [mapPcu_pcu, channelOf_mapChannel_self, ← hh, advanceHold_expires]
      simp [sideOn]
  · obtain ⟨hmode, -, hslew, -⟩ := hacc
    refine ⟨fun he => ?_, fun hc hneg => ?_, fun hc hpos => ?_⟩
    · exact outputCounter_edge cfg n y he (by omega)
    · have hl : carrierLength cfg = 2 * cfg.period := by simp [carrierLength, hc]
      rw [outputCounter_centre cfg n y hc]
      refine ⟨fun h1 => ?_, fun h1 h2 => ?_, fun h1 => ?_⟩ <;> split <;> omega
    · have hl : carrierLength cfg = 2 * cfg.period := by simp [carrierLength, hc]
      rw [outputCounter_centre cfg n y hc]
      refine ⟨fun h1 => ?_, fun h1 => ?_⟩ <;> split <;> omega

end Sys2Proof.Machine
end

section
namespace Sys2Proof.Machine

variable {s x t : State}

/-! ### Output carrier starts (R14, R15, R16, R75, R79, R88) -/

/-- The requests of the three channels formed at a value of the output counter. -/
def refreshedPcu (n : Nat) (p : ChannelUnit) : ChannelUnit :=
  { p with u := refreshChannel n p.u, v := refreshChannel n p.v, w := refreshChannel n p.w }

theorem refreshChannels_eq (cfg : ConfigRecord) (h : x.config = some cfg) :
    refreshChannels x = { x with pcu := refreshedPcu (counterNow cfg x) x.pcu } := by
  simp [refreshChannels, h, mapPcu, refreshedPcu]

/-- Requests just formed at a count are not formed otherwise by forming them again. -/
theorem refreshChannels_formed (cfg : ConfigRecord) (h : x.config = some cfg)
    (hp : refreshedPcu (counterNow cfg x) x.pcu = x.pcu) : refreshChannels x = x := by
  rw [refreshChannels_eq cfg h, hp]

theorem requestsFormed_refreshedPcu (n : Nat) (p : ChannelUnit) : requestsFormed n p (refreshedPcu n p) :=
  ⟨refreshChannel_applied _ _, refreshChannel_applied _ _, refreshChannel_applied _ _⟩

/-- The channels after an output carrier start, by the record that waits for it (R75, R79). -/
def startedPcu (n : Nat) (p : ChannelUnit) : ChannelUnit :=
  match p.due, p.pendingDuty with
  | some d, _ => { appliedPcu n d p with due := none, pendingDuty := none }
  | none, some d => { appliedPcu n d p with pendingDuty := none }
  | none, none => refreshedPcu n p

/-- The events of an output carrier start at PCU (R79). -/
def startedEvents (p : ChannelUnit) : EventSet :=
  eventIf (p.due ≠ none) .dutyDue ||| eventIf (p.due ≠ none ∧ p.pendingDuty ≠ none) .dutyDropped

theorem startPcu_eq (cfg : ConfigRecord) (h : x.config = some cfg) : startPcu x = enterActive { x with
    pcu := startedPcu (counterNow cfg x) x.pcu
    lp := { x.lp with events := x.lp.events ||| startedEvents x.pcu } } := by
  unfold startPcu startedPcu startedEvents
  congr 1
  cases hd : x.pcu.due with
  | some d =>
    rw [Option.isSome_some, if_pos rfl, applyDue_eq cfg d h hd]
    refine (refreshChannels_formed cfg ?_ ?_).trans ?_
    · exact h
    · rfl
    simp [eventIf, BitVec.or_assoc, BitVec.or_comm]
  | none =>
    rw [Option.isSome_none, if_neg Bool.false_ne_true]
    cases hp : x.pcu.pendingDuty with
    | some d =>
      rw [applyPending_eq cfg d h hp]
      refine (refreshChannels_formed cfg ?_ ?_).trans ?_
      · exact h
      · rfl
      simp [eventIf, appliedPcu, hd]
    | none =>
      rw [applyPending_none hp, refreshChannels_eq cfg h]
      simp [eventIf]

/-- The sync step is that of the residual's sign and the smaller of its magnitude and SLEW_MAX (R14). -/
theorem eq_syncStep (slewMax : Nat) (residual sync : Int) (hmag : sync.natAbs = min residual.natAbs slewMax)
    (hsign : 0 ≤ sync * residual) : sync = syncStep slewMax residual := by
  have hs : (0 ≤ sync ∧ 0 ≤ residual) ∨ (sync ≤ 0 ∧ residual ≤ 0) := mul_nonneg_iff.1 hsign
  unfold syncStep
  omega

/-- The distance to the target is the one of its class that is less than the carrier length (R15). -/
theorem eq_distance (l d : Nat) (x : Int) (hd : d < l) (hdvd : (l : Int) ∣ x - d) : d = (x % l).toNat := by
  have : x % l = d := (Int.emod_eq_emod_iff_emod_sub_eq_zero.2 (Int.emod_eq_zero_of_dvd hdvd)).trans
    (Int.emod_eq_of_lt (by omega) (by omega))
  omega

/-- TB's part of an output carrier start (R3, R14, R15, R16). -/
theorem startCarrier_eq (cfg : ConfigRecord) (sync o : Int) (d : Nat)
    (hmag : sync.natAbs = min x.tb.residual.natAbs cfg.slewMax) (hsign : 0 ≤ sync * x.tb.residual)
    (hd : d < carrierLength cfg) (hdvd : (carrierLength cfg : Int) ∣ (x.tb.target - x.tb.current - d : Int))
    (ho : o = (if 2 * d ≤ carrierLength cfg then ((min d (cfg.slewMax - sync.natAbs) : Nat) : Int)
      else -((min (carrierLength cfg - d) (cfg.slewMax - sync.natAbs) : Nat) : Int))) :
    startCarrier cfg x =
      postIf (o != 0 && ((x.tb.current + o) % carrierLength cfg).toNat == x.tb.target) .migrated (mapTb (fun tb =>
        { tb with
          residual := tb.residual - sync, syncLeft := sync, outPos := 0, netStep := sync - o, inCarrier := true
          current := ((x.tb.current + o) % carrierLength cfg).toNat
          sample := tb.sample.map fun m => { m with stepsSince := m.stepsSince + sync } }) x) := by
  obtain rfl := eq_syncStep _ _ _ hmag hsign
  have : o = offsetStep (carrierLength cfg) x.tb.current x.tb.target (cfg.slewMax - (syncStep cfg.slewMax x.tb.residual).natAbs) := by
    rw [ho, offsetStep, ← eq_distance _ d _ hd hdvd]
  rw [this]
  rfl

/-- At output position 0 the counter is 0, whatever the net step (R3). -/
theorem outputCounter_zero (cfg : ConfigRecord) (n : Int) : outputCounter cfg 0 n = 0 := by
  unfold outputCounter
  split <;> simp

theorem startedPcu_rest (n : Nat) (p : ChannelUnit) : startedPcu n p = { p with
    u := (startedPcu n p).u, v := (startedPcu n p).v, w := (startedPcu n p).w, pendingDuty := none, due := none
    hasApplied := (startedPcu n p).hasApplied } := by
  unfold startedPcu
  cases hd : p.due with
  | some d => rfl
  | none =>
    cases hp : p.pendingDuty with
    | some d => simp [appliedPcu, hd]
    | none => simp [refreshedPcu, hd, hp]

theorem startedPcu_output (n : Nat) (p : ChannelUnit) (output : OutputState) :
    { startedPcu n p with output := output } = { p with
      u := (startedPcu n p).u, v := (startedPcu n p).v, w := (startedPcu n p).w, pendingDuty := none, due := none
      hasApplied := (startedPcu n p).hasApplied, output := output } :=
  congrArg (fun q : ChannelUnit => { q with
    u := (startedPcu n p).u, v := (startedPcu n p).v, w := (startedPcu n p).w, hasApplied := (startedPcu n p).hasApplied
    output := output }) (startedPcu_rest n p)

theorem startedPcu_hasApplied (n : Nat) (p : ChannelUnit) :
    (startedPcu n p).hasApplied = true ↔ p.hasApplied = true ∨ p.due ≠ none ∨ p.pendingDuty ≠ none := by
  unfold startedPcu
  cases p.due <;> cases p.pendingDuty <;> simp [appliedPcu, refreshedPcu]

theorem startedPcu_due (n : Nat) (p : ChannelUnit) (d : DutySettings) (h : p.due = some d) :
    recordApplied n d p (startedPcu n p) := by
  simp only [startedPcu, h]
  exact recordApplied_appliedPcu n d p

theorem startedPcu_pending (n : Nat) (p : ChannelUnit) (d : DutySettings) (hd : p.due = none) (h : p.pendingDuty = some d) :
    recordApplied n d p (startedPcu n p) := by
  simp only [startedPcu, hd, h]
  exact recordApplied_appliedPcu n d p

theorem startedPcu_none (n : Nat) (p : ChannelUnit) (hd : p.due = none) (h : p.pendingDuty = none) :
    startedPcu n p = refreshedPcu n p := by
  simp only [startedPcu, hd, h]

/-- PCU at an output carrier start, whose output position is 0 (R75, R79, R83, R88). -/
theorem startPcu_start (cfg : ConfigRecord) (h : x.config = some cfg) (hpos : x.tb.outPos = 0) : startPcu x = { x with
    pcu := { startedPcu 0 x.pcu with
      output := if x.pcu.output = .standby ∧ (startedPcu 0 x.pcu).hasApplied = true ∧ gateOpen x = true then .active
        else x.pcu.output }
    lp := { x.lp with events := x.lp.events ||| startedEvents x.pcu } } := by
  have hn : counterNow cfg x = 0 := by rw [counterNow, hpos]; exact outputCounter_zero _ _
  have hrest := startedPcu_rest 0 x.pcu
  rw [startPcu_eq cfg h, enterActive_eq, hn]
  have hgate (y : State) (hmc : y.mc = x.mc) (htb : y.tb = x.tb) (htc : y.tc = x.tc) (hrun : y.pcu.run = x.pcu.run) :
      gateOpen y = gateOpen x := by simp [gateOpen, hmc, htb, htc, hrun]
  rw [hgate { x with pcu := startedPcu 0 x.pcu, lp := _ } rfl rfl rfl (by rw [hrest])]
  have hout : (startedPcu 0 x.pcu).output = x.pcu.output := by rw [hrest]
  simp only [hout]

/-- Settles O29: `startCarrier_eq` at TB, then `startPcu_start` at PCU. -/
theorem outputCarrierStart : Obligations.OutputCarrierStart := by
  refine ⟨fun s hr => ⟨fun hc => ?_, fun hc hm => ?_, fun hc hm => ?_⟩,
    fun s cfg sync o d hr hc hacc hmark hmag hsign hd hdvd ho => ?_⟩
  · exact exec_high hr (by simp [exec, execOutputCarrierStart, hc])
  · obtain ⟨cfg, hc⟩ := Option.ne_none_iff_exists'.1 hc
    exact exec_high hr (by simp [exec, execOutputCarrierStart, hc, hm, mapTb])
  · obtain ⟨cfg, hc⟩ := Option.ne_none_iff_exists'.1 hc
    exact ⟨by simp [rebase, hc, hm], fun target => by simp [placeTarget, rebase, hc, hm]⟩
  · have hcarrier := startCarrier_eq cfg sync o d hmag hsign hd hdvd ho
    have hx : exec .outputCarrierStart s =
        .next (startPcu (markStart (s.pcu.due.isSome || s.pcu.pendingDuty.isSome) (startCarrier cfg s))) :=
      exec_high hr (by simp [exec, execOutputCarrierStart, hc, hmark])
    have hstep := (startCarrier_tb cfg s).2
    rw [hcarrier, postIf_eq] at hx hstep
    rw [startPcu_start cfg (by simpa using hc) (by simp [markStart])] at hx
    refine ⟨_, hx, ⟨rfl, rfl, rfl, rfl, rfl, rfl⟩, rfl, rfl, rfl, rfl, rfl, hstep, ?_, fun m hm => ?_, ?_,
      startedPcu_due 0 s.pcu, startedPcu_pending 0 s.pcu, fun h1 h2 => ?_, startedPcu_hasApplied 0 s.pcu, rfl, ?_⟩
    · exact Int.toNat_of_nonneg (Int.emod_nonneg _ (by omega))
    · simp [markStart, hm]
    · exact startedPcu_output 0 s.pcu _
    · simp only [settingsKept, markStart, mapTb_pcu, startedPcu_none _ _ h1 h2]
      exact ⟨⟨rfl, rfl, rfl, rfl⟩, requestsFormed_refreshedPcu 0 s.pcu⟩
    · simp [eventsAdded, startedEvents, markStart, BitVec.or_assoc]

end Sys2Proof.Machine
end

section
namespace Sys2Proof.Machine

variable {s x t : State}

/-! ### Changes of the epoch number (R11, R80, R81) -/

theorem epochsAhead_self (n : EpochNumber) : epochsAhead n n = 0 := by simp [epochsAhead]

theorem ne_of_epochsAhead {a b : EpochNumber} (h : epochsAhead a b ≠ 0) : b ≠ a := by
  rintro rfl
  exact h (epochsAhead_self b)

theorem epochChanged_same (n : EpochNumber) (x : State) : epochChanged n n x = x := by simp [epochChanged]

theorem epochChanged_forward (old new : EpochNumber) (x : State) (h1 : 1 ≤ epochsAhead new old)
    (h2 : epochsAhead new old ≤ 32767) : epochChanged old new x = epochForward old new x := by
  have : forwardChange old new = true := by simp [forwardChange, h1, h2]
  rw [epochChanged, if_neg (ne_of_epochsAhead (by omega)), if_pos this]

theorem epochChanged_backward (old new : EpochNumber) (x : State) (h : 32768 ≤ epochsAhead new old) :
    epochChanged old new x = epochBackward new x := by
  have : ¬forwardChange old new = true := by simp [forwardChange]; omega
  rw [epochChanged, if_neg (ne_of_epochsAhead (by omega)), if_neg this]

/-- Whether a record is for one of the epochs that a forward change skips or ends in (R80). -/
def skippedBy (old new : EpochNumber) (r : TimedDuty) : Bool := decide (epochsAhead r.epoch old ≤ epochsAhead new old)

/-- Of a list with no record of the past, a forward change takes the records up to the new number (R80). -/
theorem epochForward_eq (old new : EpochNumber) (x : State) (h : ∀ r ∈ x.pcu.timed, 1 ≤ epochsAhead r.epoch old) :
    epochForward old new x = match (x.pcu.timed.filter (skippedBy old new)).getLast? with
      | none => x
      | some latest =>
        postIf (1 < (x.pcu.timed.filter (skippedBy old new)).length || x.pcu.due.isSome) .dutyDropped
          (mapPcu (fun p => { p with
            due := some latest.settings, timed := x.pcu.timed.filter fun r => !skippedBy old new r }) x) := by
  have hskip : x.pcu.timed.filter (fun r => 1 ≤ epochsAhead r.epoch old && epochsAhead r.epoch old ≤ epochsAhead new old) =
      x.pcu.timed.filter (skippedBy old new) :=
    List.filter_congr fun r hr => by simp [skippedBy, h r hr]
  have hleft : x.pcu.timed.filter (fun r => !(1 ≤ epochsAhead r.epoch old && epochsAhead r.epoch old ≤ epochsAhead new old)) =
      x.pcu.timed.filter (fun r => !skippedBy old new r) :=
    List.filter_congr fun r hr => by simp [skippedBy, h r hr]
  unfold epochForward
  simp only [hskip]
  cases (x.pcu.timed.filter (skippedBy old new)).getLast? with
  | none => rfl
  | some latest => simp only [mapPcu, hleft]

/-- A forward change with no record up to the new number does nothing (R80). -/
theorem epochForward_none (old new : EpochNumber) (x : State)
    (h : ∀ r ∈ x.pcu.timed, epochsAhead new old < epochsAhead r.epoch old) : epochForward old new x = x := by
  rw [epochForward_eq old new x fun r hr => by have := h r hr; omega]
  rw [List.filter_eq_nil_iff.2 fun r hr => by simpa [skippedBy] using h r hr]
  rfl

/-- Of an ascending list, a forward change takes the records up to the latest that it skips (R80). -/
theorem epochForward_taken (old new : EpochNumber) (x : State) (taken beyond : List TimedDuty) (latest : TimedDuty)
    (hpast : ∀ r ∈ x.pcu.timed, 1 ≤ epochsAhead r.epoch old)
    (hasc : x.pcu.timed.Pairwise fun a b => epochsAhead a.epoch old < epochsAhead b.epoch old)
    (hlist : x.pcu.timed = taken ++ latest :: beyond) (hlatest : epochsAhead latest.epoch old ≤ epochsAhead new old)
    (hbeyond : ∀ r ∈ beyond, epochsAhead new old < epochsAhead r.epoch old) : epochForward old new x = { x with
      pcu := { x.pcu with due := some latest.settings, timed := beyond }
      lp := { x.lp with events := x.lp.events ||| eventIf (taken ≠ [] ∨ x.pcu.due ≠ none) .dutyDropped } } := by
  have hbefore : ∀ r ∈ taken, skippedBy old new r = true := fun r hr => by
    have := (List.pairwise_append.1 (hlist ▸ hasc)).2.2 r hr latest (by simp)
    simp [skippedBy]; omega
  have hafter : ∀ r ∈ beyond, skippedBy old new r = false := fun r hr => by simpa [skippedBy] using hbeyond r hr
  have hself : skippedBy old new latest = true := by simpa [skippedBy] using hlatest
  have hskip : x.pcu.timed.filter (skippedBy old new) = taken ++ [latest] := by
    rw [hlist, List.filter_append, List.filter_eq_self.2 hbefore, List.filter_cons_of_pos hself,
      List.filter_eq_nil_iff.2 fun r hr => by simp [hafter r hr]]
  have hleft : x.pcu.timed.filter (fun r => !skippedBy old new r) = beyond := by
    rw [hlist, List.filter_append, List.filter_eq_nil_iff.2 fun r hr => by simp [hbefore r hr],
      List.filter_cons_of_neg (by simp [hself]), List.filter_eq_self.2 fun r hr => by simp [hafter r hr], List.nil_append]
  have hdrop : ((1 : Nat) < (taken ++ [latest]).length || x.pcu.due.isSome) = true ↔ taken ≠ [] ∨ x.pcu.due ≠ none := by
    simp [Option.isSome_iff_ne_none, List.length_pos_iff]
  rw [epochForward_eq old new x hpast, hskip, List.getLast?_append_cons, hleft]
  simp only [List.getLast?_singleton, postIf_eq, mapPcu, hdrop]

theorem eventIf_congr {a b : Prop} [Decidable a] [Decidable b] {e : Event} (h : a ↔ b) : eventIf a e = eventIf b e := by
  simp only [eventIf, h]

/-- The records that a backward change keeps (R81). -/
def keptAfter (new : EpochNumber) (list : List TimedDuty) : List TimedDuty :=
  list.filter fun r => 1 ≤ epochsAhead r.epoch new ∧ epochsAhead r.epoch new ≤ 255

theorem epochBackward_eq (new : EpochNumber) (x : State) : epochBackward new x = { x with
    pcu := { x.pcu with timed := keptAfter new x.pcu.timed }
    lp := { x.lp with
      events := x.lp.events ||| eventIf (keptAfter new x.pcu.timed ≠ x.pcu.timed) .dutyDropped } } := by
  have hkept : (fun r : TimedDuty => (1 ≤ epochsAhead r.epoch new && epochsAhead r.epoch new ≤ 255 : Bool)) =
      fun r => decide (1 ≤ epochsAhead r.epoch new ∧ epochsAhead r.epoch new ≤ 255) := by
    funext r; simp
  have hany : (x.pcu.timed.any fun r => !(1 ≤ epochsAhead r.epoch new && epochsAhead r.epoch new ≤ 255 : Bool)) = true ↔
      keptAfter new x.pcu.timed ≠ x.pcu.timed := by
    simp only [keptAfter, ne_eq, List.filter_eq_self, List.any_eq_true, not_forall, Bool.not_eq_true']
    simp
  simp only [epochBackward, postIf_eq, mapPcu_pcu, mapPcu_lp, eventIf_congr hany]
  simp only [mapPcu, hkept, keptAfter]

/-- A change of the epoch number moves PCU's due record and timed list, and may post an event. -/
theorem epochChanged_blocks (old new : EpochNumber) (x : State) : epochChanged old new x = { x with
    pcu := { x.pcu with timed := (epochChanged old new x).pcu.timed, due := (epochChanged old new x).pcu.due }
    lp := { x.lp with events := (epochChanged old new x).lp.events } } := by
  unfold epochChanged
  split
  · rfl
  · split
    · unfold epochForward
      dsimp only
      split
      · rfl
      · rw [postIf_eq]; rfl
    · rw [epochBackward_eq]

theorem epochForward_timed (old new : EpochNumber) (x : State) (h : ∀ r ∈ x.pcu.timed, 1 ≤ epochsAhead r.epoch old) :
    (epochForward old new x).pcu.timed =
      x.pcu.timed.filter (fun r => epochsAhead new old < epochsAhead r.epoch old) := by
  have hleft : x.pcu.timed.filter (fun r => !skippedBy old new r) =
      x.pcu.timed.filter (fun r => epochsAhead new old < epochsAhead r.epoch old) :=
    List.filter_congr fun r _ => by simp [skippedBy, ← decide_not]
  rw [epochForward_eq old new x h, ← hleft]
  split
  next hl =>
    rw [List.getLast?_eq_none_iff, List.filter_eq_nil_iff] at hl
    exact (List.filter_eq_self.2 fun r hr => by simp [hl r hr]).symm
  next => rw [postIf_eq]; rfl

/-- Settles O16: a forward change by `epochForward_none` or `epochForward_taken`, a backward one by `epochBackward_eq`. -/
theorem epochNumberChange : Obligations.EpochNumberChange := by
  rintro s n ⟨-, hasc, hdist, -⟩
  have hpast : ∀ r ∈ s.pcu.timed, 1 ≤ epochsAhead r.epoch s.tb.epoch := fun r hr => (hdist r hr).1
  have hset : setEpoch n s = mapTb (fun tb => { tb with epoch := n }) (epochChanged s.tb.epoch n s) :=
    epochChanged_mapTb _ _ _ s
  refine ⟨_, rfl, ?_, fun hn => ?_, fun h1 h2 => ?_, fun h => ?_⟩
  · rw [hset, epochChanged_blocks]
    rfl
  · rw [hset, hn, epochChanged_same]
    exact ⟨rfl, rfl⟩
  · rw [hset, epochChanged_forward _ _ _ h1 h2]
    refine ⟨?_, fun hall => ?_, fun taken latest beyond hlist hlatest hbeyond => ?_⟩
    · exact epochForward_timed _ _ s hpast
    · rw [epochForward_none _ _ _ hall]
      exact ⟨rfl, rfl⟩
    · rw [epochForward_taken _ _ s taken beyond latest hpast hasc hlist hlatest hbeyond]
      exact ⟨rfl, rfl⟩
  · rw [hset, epochChanged_backward _ _ _ h, epochBackward_eq]
    exact ⟨rfl, rfl, rfl⟩

end Sys2Proof.Machine
end

section
namespace Sys2Proof.Machine

variable {s x t : State}

/-! ### Elections and missed beacons (R5, R12, R51) -/

theorem inMask_maskOf (p : StationId → Bool) (id : StationId) : inMask (maskOf p) id = p id := by
  simp [inMask, maskOf]

theorem inMask_maskWithout (m : MemberMask) (r id : StationId) :
    inMask (maskWithout m r) id = (inMask m id && id != r) := inMask_maskOf _ id

/-- A peer's entry made LOST (R41, R129, R132). -/
theorem setEntryState_lost (r : StationId) (hr : r ≠ x.sid) (h : x.mc.roster[r.val].state ≠ .lost) :
    setEntryState r .lost false x = destinationGone r { x with
      mc := { x.mc with roster := x.mc.roster.set r.val { x.mc.roster[r.val] with state := .lost } }
      lp := { x.lp with events := x.lp.events ||| eventMask .peerLost } } := by
  simp [setEntryState, hr, h, mapEntry, postIf, post, mapMc, mapLp]

/-- What an election's start does to the old reference's entry (R51). -/
def referenceLost (x : State) : State :=
  match x.mc.record.bind (·.reference) with
  | some r => setEntryState r .lost false x
  | none => x

theorem peersMoved_referenceLost (x : State) : PeersMoved x (referenceLost x) := by
  unfold referenceLost
  split
  · exact peersMoved_setEntryState _ _ _ x
  · exact .refl x

/-- The election that starts: a MEMBER FOLLOWER stands (R51). -/
theorem startElection_eq (h : onLineState x.mc.station = true) (he : x.mc.election = none) : startElection x =
    if x.mc.station = .member ∧ x.mc.role = .follower then
      mapMc (fun mc => { mc with
        role := .candidate
        election := some
          { carriers := 0
            standing := x.mc.record.map fun record => standingIn record.mask (x.mc.record.bind (·.reference)) x.sid } })
        (referenceLost x)
    else mapMc (fun mc => { mc with election := some { carriers := 0, standing := none } }) (referenceLost x) := by
  have hmc := (peersMoved_referenceLost x).mc
  have hsid : (referenceLost x).sid = x.sid := (peersMoved_referenceLost x).host.sid
  have hstart : startElection x =
      if (referenceLost x).mc.station = .member && (referenceLost x).mc.role = .follower then
        mapMc (fun mc => { mc with
          role := .candidate
          election := some
            { carriers := 0
              standing := mc.record.map fun record =>
                standingIn record.mask (x.mc.record.bind (·.reference)) (referenceLost x).sid } })
          (referenceLost x)
      else mapMc (fun mc => { mc with election := some { carriers := 0, standing := none } }) (referenceLost x) := by
    unfold startElection
    rw [if_pos (by simp [h, he])]
    rfl
  rw [hstart]
  generalize referenceLost x = y at *
  have hst : y.mc.station = x.mc.station := by rw [hmc]
  have hro : y.mc.role = x.mc.role := by rw [hmc]
  have hrec : y.mc.record = x.mc.record := by rw [hmc]
  simp only [mapMc, hsid, hst, hro, hrec, Bool.and_eq_true, decide_eq_true_eq]

/-- Settles O37: `startElection_eq`, with the old reference lost by `setEntryState_lost`. -/
theorem electionStart : Obligations.ElectionStart := by
  rintro s hr ⟨href, -, -, -⟩
  refine ⟨fun hno => ?_, fun hrole hon he => ?_⟩
  · refine exec_high hr ?_
    simp only [exec, execElectionStart]
    obtain h | h | h := hno
    · simp [h]
    · simp [startElection, h]
    · simp [startElection, Option.isNone_eq_false_iff.2 (Option.isSome_iff_ne_none.2 h)]
  have hx : exec .electionStart s = .next (startElection s) := exec_high hr (by simp [exec, execElectionStart, hrole])
  have hmc := (peersMoved_referenceLost s).mc
  refine ⟨_, referenceLost s, hx, fun hn => ?_, fun r hrec hl => ?_, fun r hrec hl => ?_, ?_, fun hno => ?_,
    fun record hst hro hrec => ?_⟩
  · simp only [referenceLost, hn]
  · simp only [referenceLost, hrec]
    simp [setEntryState, hl]
  · have hne : r ≠ s.sid := fun hrs => hrole (href.2 (hrs ▸ hrec))
    simp only [referenceLost, hrec]
    exact setEntryState_lost r hne hl
  · rw [startElection_eq hon he]
    split <;> rfl
  · rw [startElection_eq hon he, if_neg (by tauto)]
    exact ⟨by rw [mapMc_mc, hmc], rfl⟩
  · rw [startElection_eq hon he, if_pos ⟨hst, hro⟩]
    refine ⟨match record.reference with | some r => maskWithout record.mask r | none => record.mask, fun id => ?_, rfl, ?_⟩
    · cases record.reference with
      | none => simp
      | some r => simp [inMask_maskWithout, eq_comm (a := id)]
    · simp only [mapMc_mc, hrec, Option.map_some, Option.bind_some]
      rfl

end Sys2Proof.Machine
end

section
namespace Sys2Proof.Machine

variable {s x t : State}

/-- What TB holds once it has entered ACQUIRE (R5). -/
def acquireTb (tb : TimeBase) : TimeBase := { tb with lock := .acquire, inWindow := 0, expired := false }

/-- Entering ACQUIRE closes the gate and rearms; it is a loss of lock from LOCKED and HOLDOVER (R5, R87, R100). -/
theorem setLock_acquire (x : State) : setLock .acquire x = { x with
    tb := acquireTb x.tb
    pcu := { x.pcu with output := .off }
    tc := unlockedTrip x.tc
    lp := { x.lp with events :=
      x.lp.events ||| eventIf (lockHeld x.tb.lock = true) .lockLost ||| unlockedEvents x.tc } } := by
  have h : setLock .acquire x = rearmIfUnlocked (regate (postIf (lockHeld x.tb.lock) .lockLost (mapTb acquireTb x))) := by
    unfold setLock
    cases x.tb.lock <;> rfl
  rw [h, postIf_eq, rearmIfUnlocked_regate rfl]
  rfl

/-- What TB holds once it has entered HOLDOVER (R5). -/
def holdoverTb (tb : TimeBase) : TimeBase := { tb with lock := .holdover, expired := false }

/-- Entering HOLDOVER posts it, and does not touch the trip state (R5, R100). -/
theorem setLock_holdover (x : State) :
    setLock .holdover x = regate (postIf (x.tb.lock != .holdover) .holdover (mapTb holdoverTb x)) := by
  have h : setLock .holdover x =
      rearmIfUnlocked (regate (postIf (x.tb.lock != .holdover) .holdover (mapTb holdoverTb x))) := by
    unfold setLock
    cases x.tb.lock <;> rfl
  rw [h, rearmIfUnlocked, if_neg]
  simp [holdoverTb, lockHeld]

theorem watchesWindow_iff (x : State) : watchesWindow x = true ↔ x.mc.role ≠ .reference ∧
    (x.tb.lock = .locked ∨ x.tb.lock = .holdover ∨
      (x.tb.lock = .acquire ∧ (x.mc.station = .member ∨ x.mc.station = .leaving)) ∨
      (x.tb.lock = .acquire ∧ x.tb.expired = true ∧ 1 ≤ x.tb.missed)) := by
  have hslot : slotState x.mc.station = true ↔ x.mc.station = .member ∨ x.mc.station = .leaving := by
    cases x.mc.station <;> simp [slotState]
  have hheld : lockHeld x.tb.lock = true ↔ x.tb.lock = .locked ∨ x.tb.lock = .holdover := by
    cases x.tb.lock <;> simp [lockHeld]
  simp only [watchesWindow, Bool.and_eq_true, Bool.or_eq_true, hslot, hheld, bne_iff_ne, beq_iff_eq, decide_eq_true_eq]
  tauto

/-- A window that ends with no beacon, before TB acts on the count (R12). -/
def missCounted (tb : TimeBase) : TimeBase :=
  { tb with missed := min 8 (tb.missed + 1), windowOpen := false, windowSeen := false }

theorem countMiss_expires (cfg : ConfigRecord) (h : cfg.holdoverEpochs ≤ min 8 (x.tb.missed + 1))
    (hl : lockHeld x.tb.lock = true) : countMiss cfg x = { x with
      tb := { acquireTb (missCounted x.tb) with residual := 0, expired := true }
      pcu := { x.pcu with output := .off }
      tc := unlockedTrip x.tc
      lp := { x.lp with events := x.lp.events ||| (eventMask .lockLost ||| unlockedEvents x.tc) } } := by
  have hc : countMiss cfg x = mapTb (fun tb => { tb with expired := true })
      (setLock .acquire (mapTb (fun tb => { missCounted tb with residual := 0 }) x)) := by
    unfold countMiss
    rw [if_pos (by simp [h, hl])]
    rfl
  have hl' : lockHeld ({ missCounted x.tb with residual := 0 } : TimeBase).lock = true := hl
  rw [hc, setLock_acquire]
  simp only [mapTb, hl', eventIf, if_true, BitVec.or_assoc]
  rfl

theorem countMiss_first (cfg : ConfigRecord) (h : ¬(cfg.holdoverEpochs ≤ min 8 (x.tb.missed + 1) ∧ lockHeld x.tb.lock = true))
    (h1 : min 8 (x.tb.missed + 1) = 1) (hl : x.tb.lock = .locked) : countMiss cfg x =
      regate (post .holdover (mapTb (fun tb => holdoverTb (missCounted tb)) x)) := by
  have hc : countMiss cfg x = setLock .holdover (mapTb missCounted x) := by
    unfold countMiss
    dsimp only
    rw [if_neg (by simpa using h), if_pos (by simp [h1, hl])]
    rfl
  rw [hc, setLock_holdover]
  simp [hl, missCounted, postIf, mapTb]

theorem countMiss_other (cfg : ConfigRecord) (h : ¬(cfg.holdoverEpochs ≤ min 8 (x.tb.missed + 1) ∧ lockHeld x.tb.lock = true))
    (h1 : ¬(min 8 (x.tb.missed + 1) = 1 ∧ x.tb.lock = .locked)) : countMiss cfg x = mapTb missCounted x := by
  unfold countMiss
  dsimp only
  rw [if_neg (by simpa using h), if_neg (by simp only [Bool.and_eq_true, decide_eq_true_eq]; exact h1)]
  rfl

/-- What countMiss leaves, whatever TB does on the count (R12). -/
theorem countMiss_kept (cfg : ConfigRecord) (x : State) :
    (countMiss cfg x).tb.missed = min 8 (x.tb.missed + 1) ∧ (countMiss cfg x).tb.windowOpen = false ∧
      (countMiss cfg x).tb.target = x.tb.target ∧ (countMiss cfg x).tb.current = x.tb.current ∧
      phaseKept x (countMiss cfg x) ∧ (countMiss cfg x).tb.syncLeft = x.tb.syncLeft := by
  by_cases h : cfg.holdoverEpochs ≤ min 8 (x.tb.missed + 1) ∧ lockHeld x.tb.lock = true
  · rw [countMiss_expires cfg h.1 h.2]
    exact ⟨rfl, rfl, rfl, rfl, ⟨rfl, rfl, rfl⟩, rfl⟩
  · by_cases h1 : min 8 (x.tb.missed + 1) = 1 ∧ x.tb.lock = .locked
    · rw [countMiss_first cfg h h1.1 h1.2]
      exact ⟨rfl, rfl, rfl, rfl, ⟨rfl, rfl, rfl⟩, rfl⟩
    · rw [countMiss_other cfg h h1]
      exact ⟨rfl, rfl, rfl, rfl, ⟨rfl, rfl, rfl⟩, rfl⟩

/-- Settles O38: the watch by `watchesWindow_iff`, and the miss by the three cases of `countMiss`. -/
theorem missedBeacons : Obligations.MissedBeacons := by
  intro s cfg hr hc hacc
  obtain ⟨-, -, -, -, ⟨-, hhold⟩, -⟩ := hacc
  dsimp only
  rw [← watchesWindow_iff]
  refine ⟨fun hno => ⟨exec_high hr ?_, exec_high hr ?_⟩, fun hw hseen => ?_⟩
  · have : ¬(watchesWindow s && !s.tb.windowSeen) = true := by
      obtain h | h := hno <;> simp [h]
    simp only [exec, execMissedBeacon, hc, if_neg this]
    rw [mapTb, hc]
  · have : ¬(watchesWindow s && !s.tb.windowSeen && lockHeld s.tb.lock && cfg.holdoverEpochs ≤ s.tb.missed + 1) = true := by
      obtain h | h := hno <;> simp [h]
    simp only [exec, execHoldoverExpiry, hc, if_neg this]
  have hx : exec .missedBeacon s = .next (missBeacon cfg s) := exec_high hr (by simp [exec, execMissedBeacon, hc, hw, hseen])
  have hreference := ((watchesWindow_iff s).1 hw).1
  obtain ⟨hmissed, hopen, htarget, hcurrent, hphase, hsync⟩ := countMiss_kept cfg s
  refine ⟨missBeacon cfg s, countMiss cfg s, hx, ?_, ?_, ?_, ?_, hmissed, hopen, htarget, hcurrent, hphase, hsync,
    fun hexp hl => ?_, fun hno => ?_, fun hne => ?_, fun he => ?_⟩
  · simp [hostKept]
  · simp
  · simp
  · simp
  · have hexec : exec .holdoverExpiry s = .next (missBeacon cfg s) := by
      have : cfg.holdoverEpochs ≤ s.tb.missed + 1 := by omega
      exact exec_high hr (by simp [exec, execHoldoverExpiry, hc, hw, hseen, hl, this])
    rw [countMiss_expires cfg hexp hl]
    exact ⟨rfl, rfl, rfl, rfl, rfl, rfl, hexec⟩
  · have hexec : exec .holdoverExpiry s = .next s := by
      have : ¬(watchesWindow s && !s.tb.windowSeen && lockHeld s.tb.lock && cfg.holdoverEpochs ≤ s.tb.missed + 1) = true := by
        simp only [Bool.and_eq_true, decide_eq_true_eq, not_and]
        exact fun h hn => hno ⟨by omega, h.2⟩
      exact exec_high hr (by simp only [exec, execHoldoverExpiry, hc, if_neg this])
    refine ⟨hexec, ?_⟩
    by_cases h1 : min 8 (s.tb.missed + 1) = 1 ∧ s.tb.lock = .locked
    · rw [countMiss_first cfg hno h1.1 h1.2, if_pos h1, eventIf, if_pos h1]
      exact ⟨rfl, rfl, rfl, rfl, rfl⟩
    · rw [countMiss_other cfg hno h1, if_neg h1, eventIf, if_neg h1]
      exact ⟨rfl, rfl, rfl, rfl, by simp [eventsAdded]⟩
  · rw [missBeacon, hmissed, if_neg hne]
  · have : (countMiss cfg s).mc.role ≠ .reference := by simpa using hreference
    rw [missBeacon, hmissed, if_pos he]
    exact exec_high (by simpa using hr) (by simp only [exec, execElectionStart, if_neg this])

end Sys2Proof.Machine
end

section
namespace Sys2Proof.Machine

variable {s x t : State}

/-! ### Markers (R6, R112) -/

/-- A place and an epoch number of a count of whole epochs and a rest. -/
theorem epoch_split (m k c : Int) (place : Nat) (hp : (place : Int) < m) (h : c = k * m + place) :
    c / m = k ∧ c % m = place := by
  have hm : 0 < m := by omega
  subst h
  constructor
  · rw [mul_comm, Int.mul_add_ediv_left _ _ hm.ne', Int.ediv_eq_zero_of_lt (by omega) hp, add_zero]
  · rw [mul_comm, Int.mul_add_emod_self_left, Int.emod_eq_of_lt (by omega) hp]

/-- The sample of a settled phase of k epochs and a place (R6). -/
theorem markerSample_eq (cfg : ConfigRecord) (tb : TimeBase) (k : Int) (place : Nat) (hp : place < epochCounts cfg)
    (h : settledCounts cfg tb = k * epochCounts cfg + place) : markerSample cfg tb =
      { epoch := tb.epoch + BitVec.ofInt 16 k, carrier := place / carrierLength cfg
        position := place % carrierLength cfg, ahead := k, stepsSince := 0, boundariesSince := 0 } := by
  obtain ⟨hk, hplace⟩ := epoch_split _ k _ place (by omega) h
  simp [markerSample, hk, hplace]

theorem sendingBeacon_false (h : ∀ own, x.lc.onLine = some own → frameKind own.frame ≠ .beacon) :
    sendingBeacon x = false := by
  unfold sendingBeacon
  split
  · rfl
  next own ho => simpa using h own ho

/-- Settles O39: the sample is `markerSample_eq`, and goes to the beacon sent or to the frame received. -/
theorem beaconMarker : Obligations.BeaconMarker := by
  refine fun s hr => ⟨fun hc => ?_, fun cfg k place hc hacc hp hplace => ?_⟩
  · exact exec_high hr (by simp only [exec, execBeaconMarker, hc, dropSample, mapTb])
  have hsample := markerSample_eq cfg s.tb k place hp hplace
  refine ⟨fun hno hstill => ?_, fun hno hstill => ?_, fun own b ho hb => ?_⟩
  · exact exec_high hr (by simp [exec, execBeaconMarker, hc, sendingBeacon_false hno, hstill, dropSample, mapTb])
  · exact exec_high hr (by simp [exec, execBeaconMarker, hc, sendingBeacon_false hno, hstill, mapTb, hsample])
  · have hsend : sendingBeacon s = true := by simp [sendingBeacon, ho, hb, frameKind]
    exact exec_high hr (by
      simp [exec, execBeaconMarker, hc, hsend, dropSample, mapTb, mapLc, ho, stampBeacon, hb, hsample])

end Sys2Proof.Machine
end

section
namespace Sys2Proof.Machine

variable {s x t : State}

/-! ### Measurement (R7 to R11) -/

/-- The wrapped error is the one of its class above -M/2 and up to M/2 (R7). -/
theorem wrapError_eq (m : Nat) (y e : Int) (h : (m : Int) ∣ y - e) (hlow : -(m : Int) < 2 * e) (hhigh : 2 * e ≤ m) :
    wrapError m y = e := by
  have hr : y % m = e % m := Int.emod_eq_emod_iff_emod_sub_eq_zero.2 (Int.emod_eq_zero_of_dvd h)
  unfold wrapError
  dsimp only
  rw [hr]
  by_cases he : 0 ≤ e
  · rw [Int.emod_eq_of_lt he (by omega), if_neg (by omega)]
  · have : e % m = e + m := by
      rw [← Int.add_emod_right, Int.emod_eq_of_lt (by omega) (by omega)]
    rw [this, if_pos (by omega)]
    omega

/-- The count of whole epochs in a position (R7). -/
theorem epochs_in (m k y : Int) (hlow : k * m ≤ y) (hhigh : y < (k + 1) * m) : y / m = k := by
  have hm : 0 < m := by
    have : (k + 1) * m = k * m + m := by ring
    omega
  have h1 : k ≤ y / m := (Int.le_ediv_iff_mul_le hm).2 hlow
  have h2 : y / m < k + 1 := (Int.ediv_lt_iff_lt_mul hm).2 hhigh
  omega

/-- What a change of the epoch number makes of the timed list and the due record, and whether it drops a record (R80, R81). -/
def epochPlan (old new : EpochNumber) (timed : List TimedDuty) (due : Option DutySettings) :
    List TimedDuty × Option DutySettings × Bool :=
  let skipped (r : TimedDuty) : Bool := 1 ≤ epochsAhead r.epoch old && epochsAhead r.epoch old ≤ epochsAhead new old
  let kept (r : TimedDuty) : Bool := 1 ≤ epochsAhead r.epoch new && epochsAhead r.epoch new ≤ 255
  if old = new then (timed, due, false)
  else if forwardChange old new then
    match (timed.filter skipped).getLast? with
    | none => (timed, due, false)
    | some latest =>
      (timed.filter fun r => !skipped r, some latest.settings, 1 < (timed.filter skipped).length || due.isSome)
  else (timed.filter kept, due, timed.any fun r => !kept r)

theorem epochPlan_same (n : EpochNumber) (timed : List TimedDuty) (due : Option DutySettings) :
    epochPlan n n timed due = (timed, due, false) := by simp [epochPlan]

/-- PCU after its plan for a change of the epoch number. -/
def plannedPcu (old new : EpochNumber) (p : ChannelUnit) : ChannelUnit :=
  { p with timed := (epochPlan old new p.timed p.due).1, due := (epochPlan old new p.timed p.due).2.1 }

/-- What PCU posts of a change of the epoch number. -/
def plannedEvents (old new : EpochNumber) (p : ChannelUnit) : EventSet :=
  eventIf ((epochPlan old new p.timed p.due).2.2 = true) .dutyDropped

theorem epochChanged_eq (old new : EpochNumber) (x : State) : epochChanged old new x = { x with
    pcu := plannedPcu old new x.pcu
    lp := { x.lp with events := x.lp.events ||| plannedEvents old new x.pcu } } := by
  unfold epochChanged plannedPcu plannedEvents epochPlan
  dsimp only
  split
  · simp [eventIf]
  · split
    · unfold epochForward
      dsimp only
      cases (x.pcu.timed.filter _).getLast? with
      | none => simp [eventIf]
      | some latest => simp only [postIf_eq]; rfl
    · simp only [epochBackward, postIf_eq]; rfl

theorem setEpoch_eq (n : EpochNumber) (x : State) : setEpoch n x = { x with
    tb := { x.tb with epoch := n }
    pcu := plannedPcu x.tb.epoch n x.pcu
    lp := { x.lp with events := x.lp.events ||| plannedEvents x.tb.epoch n x.pcu } } :=
  epochChanged_eq _ _ _

/-- TB after re-basing (R10, R15, R66). -/
def rebasedTb (cfg : ConfigRecord) (tb : TimeBase) : TimeBase :=
  { tb with
    outPos := (((tb.position + countsPast tb : Nat) - tb.current : Int) % (carrierLength cfg : Int)).toNat
    netStep := 0, inCarrier := false
    startMark := if tb.startMark = .due then .overtaken else tb.startMark }

theorem rebase_eq (cfg : ConfigRecord) (h : x.config = some cfg) : rebase x = { x with
    tb := rebasedTb cfg x.tb
    pcu := refreshedPcu (outputCounter cfg (rebasedTb cfg x.tb).outPos 0) x.pcu } := by
  have hreb : rebase x = refreshChannels (mapTb (rebasedTb cfg) x) := by
    simp only [rebase, h]
    rfl
  rw [hreb, refreshChannels_eq cfg (by simpa [mapTb] using h)]
  rfl

/-- TB after a jump onto a place, before it is re-based (R10). -/
def jumpedTb (cfg : ConfigRecord) (place : Nat) (tb : TimeBase) : TimeBase :=
  { tb with
    carrier := place / carrierLength cfg, position := place % carrierLength cfg, syncLeft := 0, residual := 0, missed := 0
    inWindow := 0, current := tb.target, boundary := if tb.boundary = .none then .none else .overtaken }

/-- PCU with the requests formed for a place that TB has jumped to, and its plan for the epoch number (R10, R11). -/
def jumpedPcu (cfg : ConfigRecord) (place : Nat) (n : EpochNumber) (tb : TimeBase) (p : ChannelUnit) : ChannelUnit :=
  plannedPcu tb.epoch n (refreshedPcu (outputCounter cfg (rebasedTb cfg (jumpedTb cfg place tb)).outPos 0) p)

theorem jump_eq (cfg : ConfigRecord) (e q : Int) (place : Nat) (adopted : EpochNumber) (h : x.config = some cfg)
    (hp : place < epochCounts cfg) (hq : settledCounts cfg x.tb + e = q * epochCounts cfg + place) :
    jump e adopted x = { x with
      tb := { rebasedTb cfg (jumpedTb cfg place x.tb) with epoch := adopted + BitVec.ofInt 16 q }
      pcu := jumpedPcu cfg place (adopted + BitVec.ofInt 16 q) x.tb x.pcu
      lp := { x.lp with events := x.lp.events ||| plannedEvents x.tb.epoch (adopted + BitVec.ofInt 16 q) x.pcu } } := by
  obtain ⟨hk, hplace⟩ := epoch_split _ q _ place (by omega) hq
  have hjump : jump e adopted x = setEpoch (adopted + BitVec.ofInt 16 q) (rebase (mapTb (jumpedTb cfg place) x)) := by
    simp only [jump, h, hk, hplace, Int.toNat_natCast]
    rfl
  rw [hjump, rebase_eq cfg (by simpa [mapTb] using h), setEpoch_eq]
  rfl

/-- A jump and the entry to ACQUIRE do not see each other (R5, R10). -/
theorem jump_setLock_acquire (cfg : ConfigRecord) (e q : Int) (place : Nat) (adopted : EpochNumber)
    (h : x.config = some cfg) (hp : place < epochCounts cfg)
    (hq : settledCounts cfg x.tb + e = q * epochCounts cfg + place) :
    jump e adopted (setLock .acquire x) = setLock .acquire (jump e adopted x) := by
  have hjump := jump_eq (x := setLock .acquire x) cfg e q place adopted (by simpa [setLock_acquire] using h) hp
    (by simpa [setLock_acquire, acquireTb, settledCounts, phaseCounts, countsPast] using hq)
  have hevents (a b c d : EventSet) : a ||| b ||| c ||| d = a ||| d ||| b ||| c := by ac_rfl
  rw [hjump, setLock_acquire, setLock_acquire, jump_eq cfg e q place adopted h hp hq]
  dsimp only
  rw [hevents]
  rfl

/-- TB jumps for an error, by its lock state (R8, R9). -/
def jumpsFor (cfg : ConfigRecord) (e : Int) (tb : TimeBase) : Prop :=
  tb.lock = .free ∨ (tb.lock = .acquire ∧ cfg.window < e.natAbs) ∨
    ((tb.lock = .locked ∨ tb.lock = .holdover) ∧ 4 * cfg.window < e.natAbs)

/-- A state after a measurement: TB, PCU's plan and channels, the output state, TC, and events (R7 to R11). -/
def measuredAs (tb : TimeBase) (p : ChannelUnit) (o : OutputState) (tc : TripController) (ev : EventSet) (s : State) : State :=
  { s with
    tb := tb
    pcu := { plannedPcu s.tb.epoch tb.epoch p with output := o }
    tc := tc
    lp := { s.lp with events := s.lp.events ||| plannedEvents s.tb.epoch tb.epoch s.pcu ||| ev } }

/-- A jump ends in ACQUIRE (R8, R9, R10). -/
theorem actOnError_jumps (cfg : ConfigRecord) (e q : Int) (place : Nat) (adopted : EpochNumber)
    (h : x.config = some cfg) (hp : place < epochCounts cfg)
    (hq : settledCounts cfg x.tb + e = q * epochCounts cfg + place) (hj : jumpsFor cfg e x.tb) :
    actOnError cfg e adopted x =
      if x.tb.lock = .acquire then jump e adopted x else setLock .acquire (jump e adopted x) := by
  unfold actOnError
  obtain hl | ⟨hl, he⟩ | ⟨hl | hl, he⟩ := hj
  · simp [hl]
  · simp [hl, he]
  · simp [hl, he, jump_setLock_acquire cfg e q place adopted h hp hq]
  · simp [hl, he, jump_setLock_acquire cfg e q place adopted h hp hq]

/-- An error that TB does not jump for becomes the residual, and the second in ACQUIRE gives LOCKED (R8, R9). -/
theorem actOnError_measures (cfg : ConfigRecord) (e : Int) (adopted : EpochNumber) (hj : ¬jumpsFor cfg e x.tb) :
    actOnError cfg e adopted x =
      if x.tb.lock ≠ .acquire ∨ 1 ≤ x.tb.inWindow then
        setLock .locked (setEpoch adopted (mapTb (fun tb => { tb with
          residual := e, inWindow := if tb.lock = .acquire then tb.inWindow + 1 else tb.inWindow }) x))
      else setEpoch adopted (mapTb (fun tb => { tb with residual := e, inWindow := tb.inWindow + 1 }) x) := by
  unfold jumpsFor at hj
  unfold actOnError
  cases hl : x.tb.lock
  case free => exact absurd (.inl hl) hj
  case acquire =>
    have he : ¬cfg.window < e.natAbs := fun h => hj (.inr (.inl ⟨hl, h⟩))
    simp only [if_neg he, setEpoch_eq, mapTb, hl, ne_eq, not_true_eq_false, false_or, if_true]
    by_cases hw : 1 ≤ x.tb.inWindow
    · rw [if_pos (by omega), if_pos hw]
    · rw [if_neg (by omega), if_neg hw]
  case locked =>
    have he : ¬4 * cfg.window < e.natAbs := fun h => hj (.inr (.inr ⟨.inl hl, h⟩))
    simp only [if_neg he, mapTb, hl]
    rfl
  case holdover =>
    have he : ¬4 * cfg.window < e.natAbs := fun h => hj (.inr (.inr ⟨.inr hl, h⟩))
    simp only [if_neg he, mapTb, hl]
    rfl

/-- TB as it acts on an error: the sample used up, the beacon handed over (R6, R7, R12). -/
def handedTb (e : Int) (tb : TimeBase) : TimeBase :=
  { tb with missed := 0, windowSeen := tb.windowSeen || tb.windowOpen, sample := none, phaseError := some e }

/-- TB after a jump onto a place (R8, R9, R10). -/
def landedTb (cfg : ConfigRecord) (e : Int) (place : Nat) (n : EpochNumber) (expired : Bool) (tb : TimeBase) : TimeBase :=
  { rebasedTb cfg (jumpedTb cfg place (handedTb e tb)) with
    epoch := n, lock := .acquire, inWindow := 0, expired := expired }

/-- A jump leaves no boundary of the count to take (R10, log 3). -/
theorem countsPast_jumpedTb (cfg : ConfigRecord) (place : Nat) (tb : TimeBase) :
    countsPast (jumpedTb cfg place tb) = 0 := by
  have h : (jumpedTb cfg place tb).boundary = .none ∨ (jumpedTb cfg place tb).boundary = .overtaken := by
    by_cases hb : tb.boundary = .none <;> simp [jumpedTb, hb]
  obtain h | h := h <;> simp [countsPast, h]

theorem landedTb_outPos (cfg : ConfigRecord) (e : Int) (place : Nat) (n : EpochNumber) (expired : Bool) (tb : TimeBase)
    (h : 0 < carrierLength cfg) : ((landedTb cfg e place n expired tb).outPos : Int) =
      (((landedTb cfg e place n expired tb).position : Int) - tb.target) % carrierLength cfg := by
  have hpast := countsPast_jumpedTb cfg place (handedTb e tb)
  simp only [landedTb, rebasedTb, hpast, Nat.add_zero]
  exact Int.toNat_of_nonneg (Int.emod_nonneg _ (by omega))

theorem landedTb_rebased (cfg : ConfigRecord) (e : Int) (place : Nat) (n : EpochNumber) (expired : Bool) (tb : TimeBase)
    (h : 0 < carrierLength cfg) : outputRebased cfg (landedTb cfg e place n expired tb) := by
  have hpast : countsPast (landedTb cfg e place n expired tb) = 0 := countsPast_jumpedTb cfg place (handedTb e tb)
  refine ⟨?_, rfl, rfl⟩
  rw [landedTb_outPos cfg e place n expired tb h, hpast]
  rfl

theorem measured_jump (cfg : ConfigRecord) (e q : Int) (place : Nat) (adopted : EpochNumber)
    (h : s.config = some cfg) (hp : place < epochCounts cfg)
    (hq : settledCounts cfg s.tb + e = q * epochCounts cfg + place) (hj : jumpsFor cfg e s.tb) :
    ∃ expired counter o tc ev, actOnError cfg e adopted (mapTb (handedTb e) s) =
        measuredAs (landedTb cfg e place (adopted + BitVec.ofInt 16 q) expired s.tb) (refreshedPcu counter s.pcu) o tc ev s ∧
      counter = outputCounter cfg (landedTb cfg e place (adopted + BitVec.ofInt 16 q) expired s.tb).outPos 0 ∧
      (s.tb.lock = .acquire → o = s.pcu.output ∧ tc = s.tc ∧ ev = 0) ∧
      (s.tb.lock ≠ .acquire → o = .off ∧ tc = unlockedTrip s.tc ∧
        ev = eventIf (lockHeld s.tb.lock = true) .lockLost ||| unlockedEvents s.tc) := by
  have hact : actOnError cfg e adopted (mapTb (handedTb e) s) = if s.tb.lock = .acquire
      then jump e adopted (mapTb (handedTb e) s) else setLock .acquire (jump e adopted (mapTb (handedTb e) s)) :=
    actOnError_jumps cfg e q place adopted h hp hq hj
  have hjump := jump_eq (x := mapTb (handedTb e) s) cfg e q place adopted h hp hq
  by_cases hl : s.tb.lock = .acquire
  · have hlanded (n : EpochNumber) : landedTb cfg e place n s.tb.expired s.tb =
        { rebasedTb cfg (jumpedTb cfg place (handedTb e s.tb)) with epoch := n } := by
      simp only [landedTb, rebasedTb, jumpedTb, handedTb, hl]
    refine ⟨s.tb.expired, _, s.pcu.output, s.tc, 0, ?_, rfl, fun _ => ⟨rfl, rfl, rfl⟩, fun h => absurd hl h⟩
    rw [hact, if_pos hl, hjump, measuredAs, hlanded, show (0 : EventSet) = 0#23 from rfl, BitVec.or_zero]
    rfl
  · refine ⟨false, _, .off, unlockedTrip s.tc, _, ?_, rfl, fun h => absurd h hl, fun _ => ⟨rfl, rfl, rfl⟩⟩
    rw [hact, if_neg hl, hjump, setLock_acquire, measuredAs, ← BitVec.or_assoc]
    rfl

theorem measured_locks (cfg : ConfigRecord) (e : Int) (adopted : EpochNumber) (hj : ¬jumpsFor cfg e s.tb)
    (hl : s.tb.lock ≠ .acquire ∨ 1 ≤ s.tb.inWindow) :
    actOnError cfg e adopted (mapTb (handedTb e) s) = measuredAs
      { handedTb e s.tb with residual := e, epoch := adopted, lock := .locked, inWindow := 2, expired := false } s.pcu
      (gatedOutput s.mc.station .locked s.pcu.run s.tc.trip s.pcu.output) s.tc (eventIf (s.tb.lock ≠ .locked) .locked) s := by
  rw [actOnError_measures (x := mapTb (handedTb e) s) cfg e adopted hj, if_pos (by exact hl), setLock_locked, regate_gatedOutput, postIf_eq, setEpoch_eq,
    measuredAs]
  have hev : eventIf ((s.tb.lock != .locked) = true) .locked = eventIf (s.tb.lock ≠ .locked) .locked :=
    eventIf_congr (by simp)
  rw [← hev]
  rfl

theorem measured_counts (cfg : ConfigRecord) (e : Int) (adopted : EpochNumber) (hj : ¬jumpsFor cfg e s.tb)
    (hl : ¬(s.tb.lock ≠ .acquire ∨ 1 ≤ s.tb.inWindow)) :
    actOnError cfg e adopted (mapTb (handedTb e) s) = measuredAs
      { handedTb e s.tb with residual := e, epoch := adopted, inWindow := s.tb.inWindow + 1 } s.pcu
      s.pcu.output s.tc 0 s := by
  rw [actOnError_measures (x := mapTb (handedTb e) s) cfg e adopted hj, if_neg (by exact hl), setEpoch_eq, measuredAs, show (0 : EventSet) = 0#23 from rfl, BitVec.or_zero]
  rfl

theorem hasEvent_or (a b : EventSet) (e : Event) : hasEvent (a ||| b) e = (hasEvent a e || hasEvent b e) :=
  BitVec.getLsbD_or

theorem hasEvent_eventMask (e f : Event) : hasEvent (eventMask e) f = decide (f = e) := by
  simp only [hasEvent, eventMask_getLsbD e _ (eventBit_lt f), eventBit_inj]

theorem hasEvent_eventIf (c : Prop) [Decidable c] (e f : Event) :
    hasEvent (eventIf c e) f = (decide c && decide (f = e)) := by
  unfold eventIf
  split
  next h => simp [h, hasEvent_eventMask]
  next h => simp [h, hasEvent]

theorem hasEvent_unlockedEvents (tc : TripController) (e : Event) (he : e ≠ .rearmed) :
    hasEvent (unlockedEvents tc) e = false := by
  have : unlockedEvents tc = eventIf (tc.trip = .rearm) .rearmed := rfl
  simp [this, hasEvent_eventIf, he]

/-- What a measurement leaves unchanged, and what it hands PCU (R11). -/
theorem measuredAs_frame (tb : TimeBase) (p : ChannelUnit) (o : OutputState) (tc : TripController) (ev : EventSet)
    (hp : p = s.pcu ∨ ∃ n, p = refreshedPcu n s.pcu) (hev : hasEvent ev .dutyDropped = false)
    (ht : t = measuredAs tb p o tc ev s) : hostKept s t ∧ t.mc = s.mc ∧ t.lc = s.lc ∧ t.mu = s.mu ∧
      t.pcu.timed = (setEpoch tb.epoch s).pcu.timed ∧ t.pcu.due = (setEpoch tb.epoch s).pcu.due ∧
      hasEvent t.lp.events .dutyDropped = hasEvent (setEpoch tb.epoch s).lp.events .dutyDropped ∧
      (tb.epoch = s.tb.epoch → t.pcu.timed = s.pcu.timed ∧ t.pcu.due = s.pcu.due) ∧
      settingsKept s t ∧ t.pcu.run = s.pcu.run ∧ t.pcu.pendingDuty = s.pcu.pendingDuty := by
  have hlist : p.timed = s.pcu.timed ∧ p.due = s.pcu.due ∧ p.hasApplied = s.pcu.hasApplied ∧ p.run = s.pcu.run ∧
      p.pendingDuty = s.pcu.pendingDuty ∧ p.u.setting = s.pcu.u.setting ∧ p.v.setting = s.pcu.v.setting ∧
      p.w.setting = s.pcu.w.setting := by
    obtain rfl | ⟨n, rfl⟩ := hp <;> simp [refreshedPcu, refreshChannel_setting]
  obtain ⟨htimed, hdue, happlied, hrun, hpending, hu, hv, hw⟩ := hlist
  rw [setEpoch_eq, ht]
  simp only [measuredAs, plannedPcu, htimed, hdue, settingsKept, hostKept, happlied, hrun, hpending, hu, hv, hw, true_and,
    and_true]
  refine ⟨?_, fun he => ?_⟩
  · rw [hasEvent_or (_ ||| _), hev, Bool.or_false]
  · rw [he, epochPlan_same]
    exact ⟨rfl, rfl⟩

theorem hasEvent_measuredAs (tb : TimeBase) (p : ChannelUnit) (o : OutputState) (tc : TripController) (ev : EventSet)
    (e : Event) (he : e ≠ .dutyDropped) : hasEvent (measuredAs tb p o tc ev s).lp.events e =
      (hasEvent s.lp.events e || hasEvent ev e) := by
  simp only [measuredAs, plannedEvents, hasEvent_or, hasEvent_eventIf, he, decide_false, Bool.and_false, Bool.or_false]

/-- Settles O42: the measured error is the one named by `wrapError_eq`, and TB acts on it as `measured_jump`,
`measured_locks` or `measured_counts` says. -/
theorem measurement : Obligations.Measurement := by
  refine fun b s => ⟨fun hc => by simp only [measureBeacon, hc], fun hc hm => ?_,
    fun cfg m e0 e k q place hc hacc hm => ?_⟩
  · obtain ⟨cfg, hc⟩ := Option.ne_none_iff_exists'.1 hc
    simp only [measureBeacon, hc, hm, handOver, mapTb]
  intro counts sent jumps locks adopted hd0 hlow0 hhigh0 hd hlow hhigh hk hk' hplace hq
  have hsent : beaconCounts cfg b = sent := by simp [beaconCounts, sent]
  have he0 : markerError cfg b m = e0 := wrapError_eq _ _ _ (by rw [hsent]; exact hd0) hlow0 hhigh0
  have he : measuredError cfg b m = e := wrapError_eq _ _ _ (by rw [he0]; exact hd) hlow hhigh
  have hadopted : adoptedEpoch cfg b m = adopted := by
    rw [adoptedEpoch, he0, hsent, epochs_in _ _ _ hk hk']
  have hmeasure : measureBeacon b s = actOnError cfg e adopted (mapTb (handedTb e) s) := by
    simp only [measureBeacon, hc, hm, he, hadopted]
    rfl
  have hlength : 0 < carrierLength cfg := Nat.pos_of_ne_zero fun h => by
    have : epochCounts cfg = 0 := by simp [epochCounts, h]
    omega
  refine ⟨_, hmeasure, ?_⟩
  by_cases hj : jumps
  · obtain ⟨expired, counter, o, tc, ev, ht, hcounter, hsame, hlost⟩ :=
      measured_jump cfg e q place adopted hc (by omega) hq hj
    have hev : hasEvent ev .dutyDropped = false ∧ hasEvent ev .locked = false ∧
        (hasEvent ev .lockLost = true ↔ lockHeld s.tb.lock = true) := by
      by_cases hl : s.tb.lock = .acquire
      · obtain ⟨-, -, rfl⟩ := hsame hl
        simp [hl, lockHeld, hasEvent]
      · obtain ⟨-, -, rfl⟩ := hlost hl
        simp [hasEvent_or, hasEvent_eventIf, hasEvent_unlockedEvents]
    obtain ⟨hdropped, hlocked, hlockLost⟩ := hev
    obtain ⟨hhost, hmc, hlc, hmu, htimed, hdue, hduty, hsame', hset, hrun, hpend⟩ :=
      measuredAs_frame _ _ o tc ev (.inr ⟨_, rfl⟩) hdropped ht
    rw [ht] at hhost hmc hlc hmu htimed hdue hduty hsame' hset hrun hpend ⊢
    refine ⟨hhost, hmc, hlc, hmu, rfl, rfl, rfl, rfl, rfl, rfl, fun _ => ?_, fun h => absurd hj h,
      fun h => absurd hj h.1, fun h => absurd hj h, htimed, hdue, hduty, hsame', hset, hrun, hpend, ?_, ?_, ?_, ?_, ?_⟩
    · exact ⟨rfl, rfl, rfl, rfl, rfl, rfl, rfl, rfl, landedTb_rebased cfg e place _ _ s.tb hlength,
        landedTb_outPos cfg e place _ _ s.tb hlength, hcounter ▸ requestsFormed_refreshedPcu _ _⟩
    · intro hlaw
      have hoff : gatedOutput s.mc.station .acquire s.pcu.run tc.trip s.pcu.output = .off := by simp [gatedOutput]
      refine Eq.trans ?_ hoff.symm
      by_cases hl : s.tb.lock = .acquire
      · exact (hsame hl).1.trans (hlaw.1.2 (gateOpen_unlocked (by simp [hl, lockHeld])))
      · exact (hlost hl).1
    · exact fun h => absurd h (by simp [measuredAs, landedTb, lockHeld])
    · exact fun _ h => (hlost fun hl => by simp [hl, lockHeld] at h).2.1
    · rw [hasEvent_measuredAs _ _ _ _ _ _ (by decide), hlocked]; simp [locks, hj]
    · rw [hasEvent_measuredAs _ _ _ _ _ _ (by decide)]; simp [hlockLost, hj]
  · by_cases hl : locks
    · have ht := measured_locks cfg e adopted hj hl.2
      obtain ⟨hhost, hmc, hlc, hmu, htimed, hdue, hduty, hsame', hset, hrun, hpend⟩ :=
        measuredAs_frame _ _ _ _ _ (.inl rfl) (by simp [hasEvent_eventIf]) ht
      rw [ht] at hhost hmc hlc hmu htimed hdue hduty hsame' hset hrun hpend ⊢
      refine ⟨hhost, hmc, hlc, hmu, rfl, rfl, rfl, rfl, rfl, rfl, fun h => absurd h hj, fun _ => ?_,
        fun _ => ⟨rfl, rfl⟩, fun _ h => absurd hl h, htimed, hdue, hduty, hsame', hset, hrun, hpend, ?_, ?_, ?_, ?_, ?_⟩
      · exact ⟨rfl, rfl, rfl, rfl, rfl, rfl, rfl, rfl, rfl, fun ch => by cases ch <;> rfl⟩
      · exact fun _ => rfl
      · exact fun _ => rfl
      · exact fun h => absurd h hj
      · rw [hasEvent_measuredAs _ _ _ _ _ _ (by decide)]; simp [hasEvent_eventIf, hl]
      · rw [hasEvent_measuredAs _ _ _ _ _ _ (by decide)]; simp [hasEvent_eventIf, hj]
    · have hlock : s.tb.lock = .acquire := by
        by_contra h
        exact hl ⟨hj, .inl h⟩
      have ht := measured_counts cfg e adopted hj fun h => hl ⟨hj, h⟩
      obtain ⟨hhost, hmc, hlc, hmu, htimed, hdue, hduty, hsame', hset, hrun, hpend⟩ :=
        measuredAs_frame _ _ _ _ _ (.inl rfl) (by simp [hasEvent]) ht
      rw [ht] at hhost hmc hlc hmu htimed hdue hduty hsame' hset hrun hpend ⊢
      refine ⟨hhost, hmc, hlc, hmu, rfl, rfl, rfl, rfl, rfl, rfl, fun h => absurd h hj, fun _ => ?_,
        fun h => absurd h hl, fun _ _ => ⟨hlock, rfl⟩, htimed, hdue, hduty, hsame', hset, hrun, hpend, ?_, ?_, ?_, ?_, ?_⟩
      · exact ⟨rfl, rfl, rfl, rfl, rfl, rfl, rfl, rfl, rfl, fun ch => by cases ch <;> rfl⟩
      · refine fun hlaw => (hlaw.1.2 (gateOpen_unlocked (by simp [hlock, lockHeld]))).trans ?_
        simp [gatedOutput, measuredAs, handedTb, hlock]
      · exact fun _ => rfl
      · exact fun h => absurd h hj
      · rw [hasEvent_measuredAs _ _ _ _ _ _ (by decide)]; simp [hl, hasEvent]
      · rw [hasEvent_measuredAs _ _ _ _ _ _ (by decide)]; simp [hj, hasEvent]

end Sys2Proof.Machine
end

section
namespace Sys2Proof.Machine

variable {s x t : State}

/-! ### LISTEN_TIMER_EXPIRY (R13, R15, R22, R46) -/

theorem maskSingle_eq (id : StationId) : maskSingle id = BitVec.twoPow 32 id.val := by
  apply BitVec.eq_of_getLsbD_eq
  intro i hi
  have h := inMask_maskOf (· == id) ⟨i, hi⟩
  simp only [inMask] at h
  rw [maskSingle, h, BitVec.getLsbD_twoPow, decide_eq_true id.isLt, Bool.true_and, Bool.eq_iff_iff,
    beq_iff_eq, decide_eq_true_iff, Fin.ext_iff]
  exact eq_comm

/-- The only ID of a mask has rank 0 and target 0 (R62). -/
theorem slotIn_maskSingle (cfg : ConfigRecord) (id : StationId) :
    slotIn cfg (maskSingle id) id = { rank := 0, target := 0 } := by
  have hrank : maskRank (maskSingle id) id = 0 := by
    rw [maskRank, List.length_eq_zero_iff, List.filter_eq_nil_iff]
    intro j hj
    have : j = id := by simpa [maskIds, maskSingle, inMask_maskOf] using hj
    simp [this]
  simp [slotIn, hrank]

theorem referenceRecord_single (cfg : ConfigRecord) (id : StationId) (n : EpochNumber) :
    referenceRecord cfg id n (maskSingle id) =
      { epoch := n, mask := BitVec.twoPow 32 id.val, reference := some id, slot := some { rank := 0, target := 0 }
        handover := false } := by
  have hin : inMask (maskSingle id) id = true := by rw [maskSingle, inMask_maskOf]; simp
  rw [referenceRecord, if_pos hin, slotIn_maskSingle, maskSingle_eq]

/-- Adopting the own mask among peers that are all absent does nothing (R41). -/
theorem adoptMask_absent (id : StationId) (x : State) (hid : id = x.sid)
    (h : ∀ j : StationId, j ≠ x.sid → x.mc.roster[j.val].state = .absent) : adoptMask (maskSingle id) none x = x := by
  unfold adoptMask forEachId
  refine List.foldlRecOn (motive := fun y => y = x) _ _ rfl fun y hy j _ => ?_
  subst hy
  dsimp only
  unfold setEntryState
  split
  · rfl
  next hj =>
    have hout : inMask (maskSingle id) j = false := by
      rw [maskSingle, inMask_maskOf, hid]
      simpa using hj
    simp [hout, h j hj, adoptedState]

/-- MC of a station that founds, before the roster adopts the mask (R46). -/
def foundingAt (cfg : ConfigRecord) (x : State) : State :=
  { x with
    mc := { x.mc with
      station := .member, role := .reference, listenTimer := none
      record := some (referenceRecord cfg x.sid 0 (maskSingle x.sid)) }
    pcu := { x.pcu with output := gatedOutput .member x.tb.lock x.pcu.run x.tc.trip x.pcu.output } }

theorem foundLocked_eq (cfg : ConfigRecord) (x : State) :
    foundLocked cfg x = lockAsReference (setEpoch 0 (adoptMask (maskSingle x.sid) none (foundingAt cfg x))) := by
  have h : foundingAt cfg x = setRecord (some (referenceRecord cfg x.sid 0 (maskSingle x.sid)))
      (setRole .reference (setStation .member (mapMc (fun mc => { mc with listenTimer := none }) x))) := by
    rw [setStation, regate_gatedOutput]
    rfl
  rw [h]
  unfold foundLocked
  simp only [setRole, mapMc_sid, setStation, regate_frame]

/-- TB of a station that founds (R13, R15, R46, R66). -/
def foundedTb (cfg : ConfigRecord) (tb : TimeBase) : TimeBase :=
  rebasedTb cfg { lockedTb tb with epoch := 0, residual := 0, missed := 0, target := 0, current := 0, syncLeft := 0 }

/-- A reference takes epoch 0, LOCKED and the target 0 as a place request (R13, R46, R64). -/
theorem placed_eq (cfg : ConfigRecord) (y : State) (h : y.config = some cfg) (r : EpochRecord)
    (hr : y.mc.record = some r) (hslot : r.slot = some { rank := 0, target := 0 }) :
    giveTarget true (lockAsReference (setEpoch 0 y)) = { y with
      tb := foundedTb cfg y.tb
      pcu := refreshedPcu (outputCounter cfg (foundedTb cfg y.tb).outPos 0) { plannedPcu y.tb.epoch 0 y.pcu with
        output := gatedOutput y.mc.station .locked y.pcu.run y.tc.trip y.pcu.output }
      lp := { y.lp with events :=
        y.lp.events ||| plannedEvents y.tb.epoch 0 y.pcu ||| eventIf (y.tb.lock ≠ .locked) .locked } } := by
  have hev : eventIf ((y.tb.lock != .locked) = true) .locked = eventIf (y.tb.lock ≠ .locked) .locked :=
    eventIf_congr (by simp)
  have hlock : lockAsReference (setEpoch 0 y) = { y with
      tb := { lockedTb y.tb with epoch := 0, residual := 0, missed := 0 }
      pcu := { plannedPcu y.tb.epoch 0 y.pcu with
        output := gatedOutput y.mc.station .locked y.pcu.run y.tc.trip y.pcu.output }
      lp := { y.lp with events :=
        y.lp.events ||| plannedEvents y.tb.epoch 0 y.pcu ||| eventIf (y.tb.lock ≠ .locked) .locked } } := by
    rw [lockAsReference_eq, regate_gatedOutput, postIf_eq, setEpoch_eq, ← hev]
    rfl
  rw [hlock, giveTarget]
  simp only [hr, Option.bind_some, hslot, if_true]
  rw [placeTarget, rebase_eq cfg (by simpa [mapTb] using h)]
  rfl

/-- Kinds of two sets are within the union of the bounds of both. -/
theorem or_within {a b l d : EventSet} (ha : a &&& l = a) (hb : b &&& d = b) : (a ||| b) &&& (d ||| l) = a ||| b := by
  ext i hi
  have h1 : (a[i] && l[i]) = a[i] := by rw [← BitVec.getElem_and, ha]
  have h2 : (b[i] && d[i]) = b[i] := by rw [← BitVec.getElem_and, hb]
  simp only [BitVec.getElem_and, BitVec.getElem_or]
  revert h1 h2
  cases a[i] <;> cases b[i] <;> simp +contextual

theorem plannedEvents_within (old new : EpochNumber) (p : ChannelUnit) :
    plannedEvents old new p &&& eventMask .dutyDropped = plannedEvents old new p := by
  unfold plannedEvents eventIf
  split <;> simp

/-- With the offsets at 0 the output position is that of the shared phase, whatever the carrier length (R15, R66). -/
theorem foundedTb_rebased (cfg : ConfigRecord) (tb : TimeBase) : outputRebased cfg (foundedTb cfg tb) := by
  have hpos (n l : Nat) : (((n : Int) - (0 : Nat)) % l).toNat = ((n : Int) - (0 : Nat)) % l := by
    refine Int.toNat_of_nonneg ?_
    rw [Nat.cast_zero, sub_zero, ← Int.natCast_mod]
    exact Int.natCast_nonneg _
  exact ⟨hpos _ _, rfl, rfl⟩

/-- PCU of a station that founds (R11, R66, R88). -/
def foundedPcu (cfg : ConfigRecord) (y : State) : ChannelUnit :=
  refreshedPcu (outputCounter cfg (foundedTb cfg y.tb).outPos 0) { plannedPcu y.tb.epoch 0 y.pcu with
    output := gatedOutput y.mc.station .locked y.pcu.run y.tc.trip y.pcu.output }

/-- What founding makes of the state whose roster has adopted the own mask (R46). -/
theorem found_fields (cfg : ConfigRecord) (x y : State) (h : x.config = some cfg)
    (hy : y = adoptMask (maskSingle x.sid) none (foundingAt cfg x)) (moved : PeersMoved (foundingAt cfg x) y) :
    hostKept y (found cfg x) ∧ (found cfg x).mc = { y.mc with beaconDeadline := true } ∧
      (found cfg x).tb = foundedTb cfg y.tb ∧ (found cfg x).pcu = foundedPcu cfg y ∧ (found cfg x).tc = y.tc ∧
      (found cfg x).lc = (fillSlot (.beacon (beaconFrame cfg (maskSingle x.sid) false)) y).lc ∧ (found cfg x).mu = y.mu ∧
      (found cfg x).lp = { y.lp with
        events := y.lp.events ||| plannedEvents y.tb.epoch 0 y.pcu ||| eventIf (y.tb.lock ≠ .locked) .locked |||
          eventMask .joined ||| eventMask .membership } := by
  have hslot : (referenceRecord cfg x.sid 0 (maskSingle x.sid)).slot = some { rank := 0, target := 0 } := by
    rw [referenceRecord_single]
  have hrecord : y.mc.record = some (referenceRecord cfg x.sid 0 (maskSingle x.sid)) := by rw [moved.mc]; rfl
  rw [found_eq, foundLocked_eq, ← hy, placed_eq cfg y (moved.host.config.trans h) _ hrecord hslot]
  exact ⟨⟨rfl, rfl, rfl, rfl, rfl, rfl⟩, rfl, rfl, rfl, rfl, rfl, rfl, rfl⟩

/-- Founding forms the requests at the re-based output position, and hands PCU the change to epoch 0 (R11, R66). -/
theorem foundedPcu_eq (cfg : ConfigRecord) (y : State) (p : ChannelUnit) (o : OutputState) (hp : y.pcu = { p with output := o }) :
    requestsFormed (outputCounter cfg (foundedTb cfg y.tb).outPos 0) p (foundedPcu cfg y) ∧
      (foundedPcu cfg y).timed = (plannedPcu y.tb.epoch 0 p).timed ∧ (foundedPcu cfg y).due = (plannedPcu y.tb.epoch 0 p).due ∧
      (foundedPcu cfg y).run = p.run ∧ (foundedPcu cfg y).pendingDuty = p.pendingDuty ∧
      (foundedPcu cfg y).hasApplied = p.hasApplied ∧ (foundedPcu cfg y).u.setting = p.u.setting ∧
      (foundedPcu cfg y).v.setting = p.v.setting ∧ (foundedPcu cfg y).w.setting = p.w.setting ∧
      (foundedPcu cfg y).output = gatedOutput y.mc.station .locked p.run y.tc.trip o := by
  unfold foundedPcu
  rw [hp]
  exact ⟨requestsFormed_refreshedPcu _ p, rfl, rfl, rfl, rfl, rfl, rfl, rfl, rfl, rfl⟩

/-- Settles O30: the state is `placed_eq` of the one whose roster has adopted the own mask. -/
theorem listenExpiryFounds : Obligations.ListenExpiryFounds := by
  refine fun s hr => ⟨fun h => ?_, fun cfg beacon hc hst ht hlaw hb => ?_⟩
  · refine exec_high hr ?_
    simp only [exec, execListenTimerExpiry]
    cases hc : s.config with
    | none => rfl
    | some cfg =>
      have : ¬(s.mc.station = .listening && s.mc.listenTimer.isSome) = true := by
        simpa [hc, Option.isSome_iff_ne_none, or_iff_not_imp_left] using h
      simp only [if_neg this]
  have hfound : exec .listenTimerExpiry s = .next (found cfg s) := exec_high hr (by
    simp [exec, execListenTimerExpiry, hc, hst, Option.isSome_iff_ne_none.2 ht])
  have hbeacon : beacon = .beacon (beaconFrame cfg (maskSingle s.sid) false) := by rw [hb, maskSingle_eq]; rfl
  obtain ⟨y, hy⟩ : ∃ y, y = adoptMask (maskSingle s.sid) none (foundingAt cfg s) := ⟨_, rfl⟩
  have moved : PeersMoved (foundingAt cfg s) y := hy ▸ peersMoved_adoptMask _ _ _
  have hroster := adoptMask_roster (maskSingle s.sid) none (foundingAt cfg s)
  have habsent := adoptMask_absent s.sid (foundingAt cfg s) rfl
  rw [← hy] at hroster habsent
  obtain ⟨host, hmc, htb, hpcu, htc, hlc, hmu, hlp⟩ := found_fields cfg s y hc hy moved
  generalize found cfg s = t at *
  have hmoved := moved.mc
  have hstation : y.mc.station = .member := by rw [hmoved]; rfl
  obtain ⟨hrequests, htimed, hdue, hrun, hpending, happlied, hu, hv, hw, hout⟩ :=
    foundedPcu_eq cfg y s.pcu (gatedOutput .member s.tb.lock s.pcu.run s.tc.trip s.pcu.output) moved.pcu
  have hytb : y.tb = s.tb := moved.tb
  have hytc : y.tc = s.tc := moved.tc
  obtain ⟨w, hwithin, hylp⟩ : eventsBetween 0 lossEvents s y := moved.lp
  rw [hytb] at htb hrequests htimed hdue hlp
  rw [← hpcu] at hrequests htimed hdue hrun hpending happlied hu hv hw hout
  have hplan : plannedEvents s.tb.epoch 0 y.pcu = plannedEvents s.tb.epoch 0 s.pcu := by rw [moved.pcu]; rfl
  rw [hplan] at hlp
  refine ⟨t, hfound, hostKept_trans moved.host host, ?aMc, ?aRoster, by rw [htb]; rfl, by rw [htb]; rfl, by rw [htb]; rfl,
    by rw [htb]; rfl, by rw [htb]; rfl, by rw [htb]; rfl, by rw [htb]; rfl, by rw [htb]; rfl, by rw [htb]; rfl,
    by rw [htb]; rfl, htb ▸ foundedTb_rebased cfg s.tb, htb ▸ hrequests, ⟨happlied, hu, hv, hw⟩, hrun, hpending,
    by rw [setEpoch_eq]; exact htimed, by rw [setEpoch_eq]; exact hdue, ?aDropped, ?aOutput, htc.trans hytc, ?aSlot, ?aEvents,
    ?aAbsent⟩
  case aMc =>
    rw [hmc, hmoved]
    simp only [foundingAt, referenceRecord_single]
  case aRoster =>
    intro id hid
    have hout : inMask (maskSingle s.sid) id = false := by rw [maskSingle, inMask_maskOf]; simpa using hid
    have := hroster id hid
    rw [hout] at this
    rw [hmc]
    exact this
  case aDropped =>
    have hw : hasEvent y.lp.events .dutyDropped = hasEvent s.lp.events .dutyDropped :=
      hasEvent_of_eventsBetween moved.lp .dutyDropped (by decide)
    rw [hlp, setEpoch_eq]
    simp [hasEvent_or, hw, hasEvent_eventIf, hasEvent_eventMask]
  case aOutput =>
    have hoff : s.pcu.output = .off := hlaw.1.2 (by simp [gateOpen, hst, slotState])
    rw [hout, hstation, hytc, hoff]
    simp only [gatedOutput]
    split <;> simp
  case aSlot =>
    have htx : y.lc.txOn = s.lc.txOn := by rw [moved.lc]; rfl
    have hold : y.lc.slots.beacon = s.lc.slots.beacon := by rw [moved.lc]; rfl
    rw [hlc, hbeacon, slotsFilled, ← htx]
    cases hon : y.lc.txOn <;> simp [fillSlot, hon, frameKind, setSlot, hold]
  case aEvents =>
    refine ⟨w ||| plannedEvents s.tb.epoch 0 s.pcu, or_within hwithin (plannedEvents_within _ _ _), ?_⟩
    rw [hlp, hylp]
    simp only [LocalPort.mk.injEq, true_and, and_true, BitVec.or_zero, show (0 : EventSet) = 0#23 from rfl]
    ac_rfl
  case aAbsent =>
    intro habs
    have hyat : y = foundingAt cfg s := habsent habs
    rw [hmc, hmu, hlc, hlp, hbeacon, hyat]
    exact ⟨rfl, rfl, rfl, by simp [foundingAt, hasEvent_or, plannedEvents, hasEvent_eventIf, hasEvent_eventMask]⟩

end Sys2Proof.Machine
end

section
namespace Sys2Proof.Machine

variable {s x t : State}

/-! ### What MC does at a boundary, as the other blocks see it (R2, log 31) -/

/-- The fields of TB that a boundary moves, and that nothing does after TB's part of it (R2, R4, R7, R12). -/
def boundaryKept (s t : State) : Prop :=
  hostKept s t ∧ t.tb.carrier = s.tb.carrier ∧ t.tb.position = s.tb.position ∧ t.tb.epoch = s.tb.epoch ∧ t.tb.epo = s.tb.epo ∧
    t.tb.windowOpen = s.tb.windowOpen ∧ t.tb.windowSeen = s.tb.windowSeen ∧ t.tb.sample = s.tb.sample

theorem boundaryKept_refl (s : State) : boundaryKept s s := ⟨⟨rfl, rfl, rfl, rfl, rfl, rfl⟩, rfl, rfl, rfl, rfl, rfl, rfl, rfl⟩

theorem boundaryKept_trans (h : boundaryKept s x) (k : boundaryKept x t) : boundaryKept s t := by
  obtain ⟨h0, h1, h2, h3, h4, h5, h6, h7⟩ := h
  obtain ⟨k0, k1, k2, k3, k4, k5, k6, k7⟩ := k
  exact ⟨hostKept_trans h0 k0, k1.trans h1, k2.trans h2, k3.trans h3, k4.trans h4, k5.trans h5, k6.trans h6, k7.trans h7⟩

theorem boundaryKept_leaveLine (keepLeave : Bool) (to_ : StationState) (x : State) :
    boundaryKept x (leaveLine keepLeave to_ x) := by
  refine ⟨by simp [hostKept], ?_⟩
  rw [leaveLine_eq, freeTb_eq]
  dsimp only
  rw [rebase_tb]
  simp [freedTb, leftBlocks_frame]

/-- A state of the same pins and the same TB but for its target has all that a boundary moves. -/
theorem boundaryKept_of_tb (host : hostKept s t) (htb : t.tb = { s.tb with target := t.tb.target }) : boundaryKept s t := by
  refine ⟨host, ?_⟩
  rw [htb]
  exact ⟨rfl, rfl, rfl, rfl, rfl, rfl, rfl⟩

theorem boundaryKept_leaveDone (x : State) : boundaryKept x (leaveDone x) :=
  boundaryKept_trans (boundaryKept_leaveLine _ _ x) (boundaryKept_of_tb ⟨rfl, rfl, rfl, rfl, rfl, rfl⟩ rfl)

theorem boundaryKept_joinFails (x : State) : boundaryKept x (joinFails x) :=
  boundaryKept_trans (boundaryKept_leaveLine false .configured x)
    (boundaryKept_of_tb (by simp [joinFails, hostKept]) (by
      have h : (joinFails x).tb = (leaveLine false .configured x).tb := by simp [joinFails]
      rw [h]))

/-- The kinds of event that MC can post at a boundary while the station stays on the line (R40, R48, R68). -/
def memberEvents : EventSet := lossEvents ||| eventMask .migrated ||| eventMask .membership

/-- What MC can change at a boundary while the station stays on the line, as PCU and TC see it. -/
structure MemberMoved (s t : State) : Prop where
  host : hostKept s t
  tb : t.tb = { s.tb with target := t.tb.target }
  pcu : t.pcu = s.pcu
  tc : t.tc = s.tc
  station : t.mc.station = s.mc.station
  lp : eventsBetween 0 memberEvents s t

theorem MemberMoved.refl (s : State) : MemberMoved s s :=
  ⟨⟨rfl, rfl, rfl, rfl, rfl, rfl⟩, rfl, rfl, rfl, rfl, eventsBetween_refl _ s⟩

theorem MemberMoved.trans (h : MemberMoved s x) (k : MemberMoved x t) : MemberMoved s t where
  host := hostKept_trans h.host k.host
  tb := by rw [k.tb, h.tb]
  pcu := k.pcu.trans h.pcu
  tc := k.tc.trans h.tc
  station := k.station.trans h.station
  lp := eventsBetween_trans h.lp k.lp

theorem MemberMoved.kept (h : MemberMoved s t) : boundaryKept s t := boundaryKept_of_tb h.host h.tb

/-- A step of MC alone that posts nothing. -/
theorem memberMoved_of_eq (host : hostKept s t) (htb : t.tb = s.tb) (hpcu : t.pcu = s.pcu) (htc : t.tc = s.tc)
    (hst : t.mc.station = s.mc.station) (hlp : t.lp = s.lp) : MemberMoved s t :=
  ⟨host, by rw [htb], hpcu, htc, hst, 0, by simp, by simp [hlp]⟩

theorem memberMoved_of_peers (h : PeersMoved s t) : MemberMoved s t where
  host := h.host
  tb := by rw [h.tb]
  pcu := h.pcu
  tc := h.tc
  station := by rw [h.mc]
  lp := by
    obtain ⟨a, ha, ht⟩ := h.lp
    refine ⟨a, ?_, ht⟩
    rw [← ha, BitVec.and_assoc]
    rfl

theorem memberMoved_mapMc {f : Membership → Membership} (x : State) (hf : (f x.mc).station = x.mc.station) :
    MemberMoved x (mapMc f x) := memberMoved_of_eq ⟨rfl, rfl, rfl, rfl, rfl, rfl⟩ rfl rfl rfl hf rfl

theorem memberMoved_mapLc (f : LineController → LineController) (x : State) : MemberMoved x (mapLc f x) :=
  memberMoved_of_eq ⟨rfl, rfl, rfl, rfl, rfl, rfl⟩ rfl rfl rfl rfl rfl

theorem memberMoved_mapMu (f : MailUnit → MailUnit) (x : State) : MemberMoved x (mapMu f x) :=
  memberMoved_of_eq ⟨rfl, rfl, rfl, rfl, rfl, rfl⟩ rfl rfl rfl rfl rfl

theorem memberMoved_postIf (c : Bool) (e : Event) (x : State) (he : eventMask e &&& memberEvents = eventMask e) :
    MemberMoved x (postIf c e x) := by
  rw [postIf_eq]
  refine ⟨⟨rfl, rfl, rfl, rfl, rfl, rfl⟩, rfl, rfl, rfl, rfl, eventIf (c = true) e, ?_, by simp⟩
  cases c
  · simp [eventIf]
  · simpa [eventIf] using he

theorem memberMoved_fillSlot (f : TxFrame) (x : State) : MemberMoved x (fillSlot f x) := memberMoved_mapLc _ x

theorem memberMoved_fillBeacon (cfg : ConfigRecord) (mask : MemberMask) (handover : Bool) (x : State) :
    MemberMoved x (fillBeacon cfg mask handover x) := (memberMoved_fillSlot _ x).trans (memberMoved_mapMc _ rfl)

theorem memberMoved_fillJoin (x : State) : MemberMoved x (fillJoin x) := by
  unfold fillJoin
  split
  · exact .refl x
  · exact (memberMoved_mapMc _ rfl).trans (memberMoved_fillSlot _ _)

theorem memberMoved_fillStatus (c : Nat) (x : State) : MemberMoved x (fillStatus c x) := by
  unfold fillStatus
  split
  next cfg record _ _ =>
    split
    · split
      · exact (memberMoved_fillSlot _ x).trans (memberMoved_mapMc _ rfl)
      · exact .refl x
    · exact .refl x
  · exact .refl x

theorem memberMoved_giveTarget (x : State) : MemberMoved x (giveTarget false x) := by
  unfold giveTarget
  split
  · exact .refl x
  next slot _ =>
    rw [if_neg (by simp)]
    split
    · exact .refl x
    · have moved := memberMoved_postIf (x.tb.current != x.tb.target && slot.target == x.tb.current) .migrated
        (mapTb (fun tb => { tb with target := slot.target }) x) (by decide)
      have given : MemberMoved x (mapTb (fun tb => { tb with target := slot.target }) x) :=
        ⟨⟨rfl, rfl, rfl, rfl, rfl, rfl⟩, rfl, rfl, rfl, rfl, eventsBetween_refl _ x⟩
      exact given.trans moved

theorem peersMoved_countSilence (n : Nat) (x : State) : PeersMoved x (countSilence n x) := by
  unfold countSilence
  split
  · refine peersMoved_forEachId (fun id y => ?_) x
    unfold countSilenceOf
    split
    · exact .refl y
    · dsimp only
      split
      · split
        · exact (peersMoved_mapEntry _ _ _).trans (peersMoved_setEntryState _ _ _ _)
        · exact peersMoved_mapEntry _ _ _
      · exact .refl y
  · exact .refl x

theorem memberMoved_referenceBoundary (cfg : ConfigRecord) (x : State) : MemberMoved x (referenceBoundary cfg x) := by
  obtain ⟨y, hy⟩ : ∃ y, y = adoptMask (buildMask x) none x := ⟨_, rfl⟩
  have adopted : MemberMoved x y := hy ▸ memberMoved_of_peers (peersMoved_adoptMask _ _ x)
  have recorded (r : Option EpochRecord) : MemberMoved y (setRecord r y) := memberMoved_mapMc _ rfl
  unfold referenceBoundary
  dsimp only
  rw [← hy]
  exact (((adopted.trans (recorded _)).trans (memberMoved_giveTarget _)).trans
    (memberMoved_postIf _ _ _ (by decide))).trans (memberMoved_fillBeacon _ _ _ _)

theorem memberMoved_memberBoundary (cfg : ConfigRecord) (x : State) : MemberMoved x (memberBoundary cfg x) := by
  unfold memberBoundary candidateFill
  split
  · exact memberMoved_referenceBoundary cfg x
  · split
    · split
      · exact memberMoved_fillBeacon _ _ _ x
      · exact .refl x
    · exact .refl x

/-- The leave ends at the fourth boundary, and only then (R59). -/
theorem handoverBoundary_moved (cfg : ConfigRecord) (x : State) : boundaryKept x (handoverBoundary cfg x) ∧
    (¬3 ≤ x.mc.leaveAttempts → MemberMoved x (handoverBoundary cfg x)) := by
  have counted : MemberMoved x (mapMc (fun mc => { mc with leaveAttempts := mc.leaveAttempts + 1 }) x) :=
    memberMoved_mapMc _ rfl
  by_cases h : 3 ≤ x.mc.leaveAttempts
  · refine ⟨?_, fun hn => absurd h hn⟩
    rw [handoverBoundary, if_pos (by simpa using h)]
    exact boundaryKept_trans counted.kept (boundaryKept_leaveDone _)
  · have moved : MemberMoved x (handoverBoundary cfg x) := by
      rw [handoverBoundary, if_neg (by simpa using h)]
      exact (counted.trans (memberMoved_mapMc _ rfl)).trans (memberMoved_fillBeacon _ _ _ _)
    exact ⟨moved.kept, fun _ => moved⟩

/-- The leave ends at the fourth boundary, and only then (R32). -/
theorem leaveBoundary_moved (x : State) : boundaryKept x (leaveBoundary x) ∧
    (¬3 ≤ x.mc.leaveAttempts → MemberMoved x (leaveBoundary x)) := by
  have counted : MemberMoved x (mapMc (fun mc => { mc with leaveAttempts := mc.leaveAttempts + 1 }) x) :=
    memberMoved_mapMc _ rfl
  by_cases h : 3 ≤ x.mc.leaveAttempts
  · refine ⟨?_, fun hn => absurd h hn⟩
    rw [leaveBoundary, if_pos (by simpa using h)]
    exact boundaryKept_trans counted.kept (boundaryKept_leaveDone _)
  · have moved : MemberMoved x (leaveBoundary x) := by
      rw [leaveBoundary, if_neg (by simpa using h)]
      split
      · exact counted
      · exact counted.trans (memberMoved_fillSlot _ _)
    exact ⟨moved.kept, fun _ => moved⟩

/-- The join sequence ends at the second boundary of the fourth try's wait, and only then (R25, R26). -/
theorem waitBoundary_moved (x : State) : boundaryKept x (waitBoundary x) ∧
    (¬(3 ≤ x.mc.joinAttempts ∧ x.mc.admission = { accepted := true, boundaries := 1 }) → MemberMoved x (waitBoundary x)) := by
  have counted : MemberMoved x (mapMc (fun mc => { mc with
      admission := { mc.admission with boundaries := mc.admission.boundaries + 1 } }) x) := memberMoved_mapMc _ rfl
  unfold waitBoundary
  split
  next hw =>
    dsimp only
    split
    next htwo =>
      unfold countTry
      dsimp only
      have tried := counted.trans (memberMoved_mapMc (f := fun mc => { mc with joinAttempts := mc.joinAttempts + 1 }) _ rfl)
      split
      next hfour =>
        refine ⟨boundaryKept_trans tried.kept (boundaryKept_joinFails _), fun hno => absurd ?_ hno⟩
        simp only [Bool.and_eq_true, decide_eq_true_eq] at hw
        obtain ⟨hacc, -⟩ := hw
        simp only [mapMc_mc] at htwo hfour
        refine ⟨by omega, ?_⟩
        cases h : x.mc.admission
        simp only [h] at hacc htwo
        simp [hacc]
        omega
      next hfour => exact ⟨(tried.trans (memberMoved_fillJoin _)).kept, fun _ => tried.trans (memberMoved_fillJoin _)⟩
    · exact ⟨counted.kept, fun _ => counted⟩
  · exact ⟨(MemberMoved.refl x).kept, fun _ => .refl x⟩

/-- The join sequence ends at the second boundary of the fourth try's wait, and only then (R25, R26). -/
theorem joinBoundary_moved (x : State) : boundaryKept x (joinBoundary x) ∧
    (¬(3 ≤ x.mc.joinAttempts ∧ x.mc.admission = { accepted := true, boundaries := 1 }) → MemberMoved x (joinBoundary x)) := by
  have refilled : MemberMoved x (if x.mc.joinRefillDue then fillJoin x else x) := by
    split
    · exact memberMoved_fillJoin x
    · exact .refl x
  have hmc : (if x.mc.joinRefillDue then fillJoin x else x).mc.joinAttempts = x.mc.joinAttempts ∧
      (if x.mc.joinRefillDue then fillJoin x else x).mc.admission = x.mc.admission := by
    unfold fillJoin
    repeat' split
    all_goals exact ⟨rfl, rfl⟩
  obtain ⟨kept, moved⟩ := waitBoundary_moved (if x.mc.joinRefillDue then fillJoin x else x)
  rw [hmc.1, hmc.2] at moved
  exact ⟨boundaryKept_trans refilled.kept kept, fun h => refilled.trans (moved h)⟩

/-- MC ends a leave or a join sequence, and so leaves the line, at this boundary (R25, R26, R32, R59). -/
def leavesAtBoundary (mc : Membership) : Prop :=
  (mc.station = .leaving ∧ 3 ≤ mc.leaveAttempts) ∨
    (mc.station = .joining ∧ 3 ≤ mc.joinAttempts ∧ mc.admission = { accepted := true, boundaries := 1 })

theorem boundaryMc_moved (cfg : ConfigRecord) (x : State) : boundaryKept x (boundaryMc cfg x) ∧
    (¬leavesAtBoundary x.mc → MemberMoved x (boundaryMc cfg x)) := by
  have cleared : MemberMoved x (mapMc (fun mc => { mc with statusFilled := false }) x) := memberMoved_mapMc _ rfl
  have silent := peersMoved_countSilence cfg.lossEpochs (mapMc (fun mc => { mc with statusFilled := false }) x)
  have hmc := silent.mc
  have before := cleared.trans (memberMoved_of_peers silent)
  unfold boundaryMc leavesAtBoundary
  dsimp only
  generalize countSilence cfg.lossEpochs (mapMc (fun mc => { mc with statusFilled := false }) x) = y at *
  have hstation : y.mc.station = x.mc.station := by rw [hmc]; rfl
  have hleave : y.mc.leaveAttempts = x.mc.leaveAttempts := by rw [hmc]; rfl
  have hjoin : y.mc.joinAttempts = x.mc.joinAttempts := by rw [hmc]; rfl
  have hadm : y.mc.admission = x.mc.admission := by rw [hmc]; rfl
  have finish {z : State} {P : Prop} (h : boundaryKept y z ∧ (P → MemberMoved y z)) :
      boundaryKept x (fillStatus 0 z) ∧ (P → MemberMoved x (fillStatus 0 z)) :=
    ⟨boundaryKept_trans before.kept (boundaryKept_trans h.1 (memberMoved_fillStatus 0 z).kept),
      fun hP => (before.trans (h.2 hP)).trans (memberMoved_fillStatus 0 z)⟩
  rw [← hstation, ← hleave, ← hjoin, ← hadm]
  refine finish ?_
  split
  next hs =>
    obtain ⟨kept, moved⟩ := joinBoundary_moved y
    exact ⟨kept, fun h => moved fun hj => h (.inr ⟨hs, hj⟩)⟩
  next hs => exact ⟨(memberMoved_memberBoundary cfg y).kept, fun _ => memberMoved_memberBoundary cfg y⟩
  next hs =>
    split
    · obtain ⟨kept, moved⟩ := handoverBoundary_moved cfg y
      exact ⟨kept, fun h => moved fun hl => h (.inl ⟨hs, hl⟩)⟩
    · obtain ⟨kept, moved⟩ := leaveBoundary_moved y
      exact ⟨kept, fun h => moved fun hl => h (.inl ⟨hs, hl⟩)⟩
  · exact ⟨(MemberMoved.refl y).kept, fun _ => .refl y⟩

/-- Off the line and in LISTENING a boundary does nothing more at MC (R19, R29, R40). -/
theorem boundaryMc_offLine (cfg : ConfigRecord) (h : groupState x.mc.station = false) :
    boundaryMc cfg x = mapMc (fun mc => { mc with statusFilled := false }) x := by
  have hstatus (y : State) (hy : slotState y.mc.station = false) : fillStatus 0 y = y := by
    simp only [fillStatus, hy, Bool.false_and, Bool.false_eq_true, if_false]
    repeat' split
    all_goals rfl
  have hsilence : countSilence cfg.lossEpochs (mapMc (fun mc => { mc with statusFilled := false }) x) =
      mapMc (fun mc => { mc with statusFilled := false }) x := if_neg (by simp [h])
  have hslot : slotState x.mc.station = false := by
    cases hs : x.mc.station <;> simp [hs, slotState, groupState] at h ⊢
  unfold boundaryMc
  simp only [hsilence, mapMc_mc]
  split
  next hs => simp [hs, groupState] at h
  next hs => simp [hs, groupState] at h
  next hs => simp [hs, groupState] at h
  · exact hstatus _ hslot

end Sys2Proof.Machine
end

section
namespace Sys2Proof.Machine

variable {s x y t : State}

/-! ### EPOCH_BOUNDARY (R1, R2, R4, R7, R12, R22, R50, R78, R79, R100) -/

/-- A state in which PCU and TC are still to take the boundary of s (R2). -/
structure BeforePcu (s y : State) : Prop where
  config : y.config = s.config
  pcu : y.pcu = s.pcu
  tc : y.tc = s.tc
  station : y.mc.station = s.mc.station
  lock : y.tb.lock = s.tb.lock
  epoch : y.tb.epoch = s.tb.epoch + 1
  startMark : y.tb.startMark = s.tb.startMark
  outPos : y.tb.outPos = s.tb.outPos
  netStep : y.tb.netStep = s.tb.netStep
  events : ∀ e ∈ [Event.dutyDue, .dutyDropped, .rearmed], hasEvent y.lp.events e = hasEvent s.lp.events e

/-- What a boundary makes of PCU, the gate apart, and what it posts of it (R78, R79, R88). -/
structure RecordTaken (s : State) (p : ChannelUnit) (ev : EventSet) : Prop where
  run : p.run = s.pcu.run
  quiet : hasEvent ev .rearmed = false
  notDue : ¬recordComesDue s → p = s.pcu ∧ ev = 0
  becomesDue : ∀ r rest, s.pcu.timed = r :: rest → r.epoch = s.tb.epoch + 1 → (∀ a, s.tb.startMark ≠ .taken a) →
    p = { s.pcu with due := some r.settings, timed := rest } ∧ ev = eventIf (s.pcu.due ≠ none) .dutyDropped
  appliedAtOnce : ∀ r rest a, s.pcu.timed = r :: rest → r.epoch = s.tb.epoch + 1 → s.tb.startMark = .taken a →
    (∀ cfg, s.config = some cfg → p = { appliedPcu (outputCounter cfg s.tb.outPos s.tb.netStep) r.settings s.pcu with
      pendingDuty := none, due := none, timed := rest, output := p.output }) ∧
      ev = eventIf (s.pcu.due ≠ none) .dutyDropped ||| eventIf (a = true) .dutyDropped |||
        eventIf (s.pcu.pendingDuty ≠ none) .dutyDropped ||| eventMask .dutyDue
  enters : recordComesDue s → (∃ a, s.tb.startMark = .taken a) → s.pcu.output = .standby → gateOpen s = true →
    p.output = .active
  stays : ¬(recordComesDue s ∧ (∃ a, s.tb.startMark = .taken a) ∧ s.pcu.output = .standby ∧ gateOpen s = true) →
    p.output = s.pcu.output

theorem boundaryPcu_other (h : ∀ r, x.pcu.timed.head? = some r → r.epoch ≠ x.tb.epoch) : boundaryPcu x = x := by
  unfold boundaryPcu
  split
  · rfl
  next r rest hr => rw [if_neg (h r (by simp [hr]))]

theorem boundaryPcu_due (r : TimedDuty) (rest : List TimedDuty) (h : x.pcu.timed = r :: rest) (he : r.epoch = x.tb.epoch) :
    boundaryPcu x = dueAfterStart { x with
      pcu := { x.pcu with due := some r.settings, timed := rest }
      lp := { x.lp with events := x.lp.events ||| eventIf (x.pcu.due ≠ none) .dutyDropped } } := by
  rw [boundaryPcu, h]
  dsimp only
  rw [if_pos he, ← he, takeDue_first r rest h]

theorem dueAfterStart_other (h : ∀ a, x.tb.startMark ≠ .taken a) : dueAfterStart x = x := by
  unfold dueAfterStart
  split
  next a ha => exact absurd ha (h a)
  · rfl

theorem dueAfterStart_eq (cfg : ConfigRecord) (d : DutySettings) (a : Bool) (hc : x.config = some cfg)
    (h : x.pcu.due = some d) (ha : x.tb.startMark = .taken a) :
    dueAfterStart x = { x with
      pcu := { appliedPcu (counterNow cfg x) d x.pcu with
        pendingDuty := none, due := none
        output := if x.pcu.output = .standby ∧ gateOpen x = true then .active else x.pcu.output }
      lp := { x.lp with
        events := x.lp.events ||| eventIf (a = true) .dutyDropped ||| eventIf (x.pcu.pendingDuty ≠ none) .dutyDropped |||
          eventMask .dutyDue } } := by
  have hd : x.pcu.due.isSome = true := by simp [h]
  simp only [dueAfterStart, ha, hd, if_true]
  rw [applyDue_eq (x := postIf a .dutyDropped x) cfg d (by simpa using hc) (by simpa using h), enterActive_eq, postIf_eq]
  simp [appliedPcu, gateOpen, counterNow]

/-- PCU once a boundary has applied a record at a start taken before it (R79, R88). -/
def dueStarted (n : Nat) (d : DutySettings) (rest : List TimedDuty) (o : OutputState) (p : ChannelUnit) : ChannelUnit :=
  { appliedPcu n d p with pendingDuty := none, due := none, timed := rest, output := o }

theorem boundaryPcu_started (cfg : ConfigRecord) (r : TimedDuty) (rest : List TimedDuty) (a : Bool) (hc : x.config = some cfg)
    (h : x.pcu.timed = r :: rest) (he : r.epoch = x.tb.epoch) (ha : x.tb.startMark = .taken a) :
    boundaryPcu x = { x with
      pcu := dueStarted (counterNow cfg x) r.settings rest
        (if x.pcu.output = .standby ∧ gateOpen x = true then .active else x.pcu.output) x.pcu
      lp := { x.lp with
        events := x.lp.events ||| (eventIf (x.pcu.due ≠ none) .dutyDropped ||| eventIf (a = true) .dutyDropped |||
          eventIf (x.pcu.pendingDuty ≠ none) .dutyDropped ||| eventMask .dutyDue) } } := by
  rw [boundaryPcu_due r rest h he, dueAfterStart_eq (x := { x with
    pcu := { x.pcu with due := some r.settings, timed := rest }
    lp := { x.lp with events := x.lp.events ||| eventIf (x.pcu.due ≠ none) .dutyDropped } }) cfg r.settings a hc rfl ha]
  simp only [← BitVec.or_assoc]
  rfl

/-- PCU's part of a boundary (R78, R79). -/
theorem recordTaken_boundaryPcu (cfg : ConfigRecord) (hc : s.config = some cfg) (h : BeforePcu s y) : ∃ p ev,
    boundaryPcu y = { y with pcu := p, lp := { y.lp with events := y.lp.events ||| ev } } ∧ RecordTaken s p ev := by
  have hgate : gateOpen y = gateOpen s := by simp only [gateOpen, h.station, h.lock, h.pcu, h.tc]
  have hcounter : counterNow cfg y = outputCounter cfg s.tb.outPos s.tb.netStep := by rw [counterNow, h.outPos, h.netStep]
  by_cases hdue : recordComesDue s
  · obtain ⟨r, hhead, he⟩ := id hdue
    obtain ⟨rest, hlist⟩ : ∃ rest, s.pcu.timed = r :: rest := List.head?_eq_some_iff.1 hhead
    have hylist : y.pcu.timed = r :: rest := by rw [h.pcu, hlist]
    have hyepoch : r.epoch = y.tb.epoch := by rw [h.epoch, he]
    have hcons {r' : TimedDuty} {rest' : List TimedDuty} (hl : s.pcu.timed = r' :: rest') : r = r' ∧ rest = rest' := by
      simpa [hlist] using hl
    by_cases htaken : ∃ a, s.tb.startMark = .taken a
    · obtain ⟨a, ha⟩ := htaken
      have hstarted := boundaryPcu_started (x := y) cfg r rest a (h.config.trans hc) hylist hyepoch (h.startMark.trans ha)
      rw [h.pcu, hgate, hcounter] at hstarted
      refine ⟨_, _, hstarted, rfl, by simp [hasEvent_or, hasEvent_eventIf, hasEvent_eventMask], fun hno => absurd hdue hno, fun _ _ _ _ hno => absurd ha (hno a), fun r' rest' a' hl _ ha' => ?_,
        fun _ _ ho hg => if_pos ⟨ho, hg⟩, fun hno => if_neg fun hg => hno ⟨hdue, ⟨a, ha⟩, hg⟩⟩
      obtain ⟨rfl, rfl⟩ := hcons hl
      obtain rfl : a = a' := by simpa [ha] using ha'
      refine ⟨fun cfg' hc' => ?_, rfl⟩
      obtain rfl : cfg = cfg' := by simpa [hc] using hc'
      rfl
    · have hbefore : ∀ a, y.tb.startMark ≠ .taken a := fun a ha => htaken ⟨a, h.startMark ▸ ha⟩
      have hpcu := (boundaryPcu_due (x := y) r rest hylist hyepoch).trans (dueAfterStart_other hbefore)
      rw [h.pcu] at hpcu
      refine ⟨_, _, hpcu, rfl, by simp [hasEvent_eventIf], fun hno => absurd hdue hno, fun r' rest' hl _ _ => ?_, fun _ _ a _ _ ha => absurd ⟨a, ha⟩ htaken,
        fun _ ha => absurd ha htaken, fun _ => rfl⟩
      obtain ⟨rfl, rfl⟩ := hcons hl
      exact ⟨rfl, rfl⟩
  · have hother : boundaryPcu y = y := boundaryPcu_other fun r hr he =>
      hdue ⟨r, h.pcu ▸ hr, he.trans h.epoch⟩
    have hno {r : TimedDuty} {rest : List TimedDuty} (hl : s.pcu.timed = r :: rest) : r.epoch ≠ s.tb.epoch + 1 := fun he =>
      hdue ⟨r, by simp [hl], he⟩
    refine ⟨s.pcu, 0, ?_, rfl, by simp [hasEvent], fun _ => ⟨rfl, rfl⟩, fun _ _ hl he => absurd he (hno hl), fun _ _ _ hl he => absurd he (hno hl),
      fun hd => absurd hd hdue, fun _ => rfl⟩
    rw [hother, ← h.pcu]
    simp

/-- TC's part of a boundary: REARM is left for ARMED in LOCKED and HOLDOVER (R100). -/
theorem boundaryTc_rearms (hr : x.tc.trip = .rearm) (hl : lockHeld x.tb.lock = true) : boundaryTc x = { x with
    tc := { x.tc with trip := .armed, origins := [] }
    pcu := { x.pcu with output := gatedOutput x.mc.station x.tb.lock x.pcu.run .armed x.pcu.output }
    lp := { x.lp with events := x.lp.events ||| eventMask .rearmed } } := by
  rw [boundaryTc, if_pos (by simp [hr, hl]), enterArmed, regate_gatedOutput]
  rfl

theorem boundaryTc_stays (h : x.tc.trip ≠ .rearm ∨ lockHeld x.tb.lock = false) : boundaryTc x = x := by
  rw [boundaryTc, if_neg]
  obtain h | h := h <;> simp [h]

/-- What PCU and TC make of a boundary is what R78, R79 and R100 say. -/
theorem boundaryAtPcuAndTc_of (cfg : ConfigRecord) (hc : s.config = some cfg) (p : ChannelUnit) (ev ev' : EventSet) (o : OutputState) (taken : RecordTaken s p ev)
    (hpcu : t.pcu = { p with output := o })
    (hevents : ∀ e ∈ [Event.dutyDue, .dutyDropped, .rearmed],
      hasEvent t.lp.events e = (hasEvent s.lp.events e || hasEvent ev e || hasEvent ev' e))
    (hev' : hasEvent ev' .dutyDue = false ∧ hasEvent ev' .dutyDropped = false)
    (hkept : s.tc.trip ≠ .rearm ∨ lockHeld s.tb.lock = false → o = p.output ∧ t.tc = s.tc ∧ hasEvent ev' .rearmed = false)
    (hrearms : s.tc.trip = .rearm → lockHeld s.tb.lock = true →
      t.tc = { s.tc with trip := .armed, origins := [] } ∧ hasEvent ev' .rearmed = true ∧
        o = gatedOutput s.mc.station s.tb.lock s.pcu.run .armed .off) : BoundaryAtPcuAndTc s t := by
  obtain ⟨hdue', hdropped'⟩ := hev'
  have hdue := hevents .dutyDue (by simp)
  have hdropped := hevents .dutyDropped (by simp)
  have hrearmed := hevents .rearmed (by simp)
  rw [hdue', Bool.or_false] at hdue
  rw [hdropped', Bool.or_false] at hdropped
  rw [taken.quiet, Bool.or_false] at hrearmed
  constructor
  case run => rw [hpcu]; exact taken.run
  case notDue =>
    intro hno
    obtain ⟨rfl, rfl⟩ := taken.notDue hno
    rw [hpcu, hdue, hdropped]
    exact ⟨rfl, rfl, rfl, ⟨by rw [hpcu], by rw [hpcu], by rw [hpcu], by rw [hpcu]⟩, by simp [hasEvent], by simp [hasEvent]⟩
  case becomesDue =>
    intro r rest hl he hno
    obtain ⟨rfl, rfl⟩ := taken.becomesDue r rest hl he hno
    rw [hpcu, hdue, hdropped]
    exact ⟨rfl, rfl, rfl, ⟨by rw [hpcu], by rw [hpcu], by rw [hpcu], by rw [hpcu]⟩, by simp [hasEvent_eventIf],
      by simp [hasEvent_eventIf]⟩
  case appliedAtOnce =>
    intro r rest a hl he ha
    obtain ⟨hp, rfl⟩ := taken.appliedAtOnce r rest a hl he ha
    have happlied : t.pcu = dueStarted (outputCounter cfg s.tb.outPos s.tb.netStep) r.settings rest o s.pcu := by
      rw [hpcu, hp cfg hc]
      rfl
    rw [happlied, hdue, hdropped]
    refine ⟨rfl, rfl, rfl, rfl, rfl, rfl, rfl, fun cfg' hc' => ?_, by simp [hasEvent_or, hasEvent_eventMask], ?_⟩
    · obtain rfl : cfg = cfg' := by simpa [hc] using hc'
      exact recordApplied_appliedPcu _ _ s.pcu
    · simp [hasEvent_or, hasEvent_eventIf, hasEvent_eventMask, or_assoc]
  case outputEnters =>
    intro hr hd ha ho hg
    rw [hpcu]
    exact (hkept (.inl hr)).1.trans (taken.enters hd ha ho hg)
  case outputKept =>
    intro hr hno
    rw [hpcu]
    exact (hkept (.inl hr)).1.trans (taken.stays hno)
  case rearms =>
    intro hr hl
    obtain ⟨htc, hposted, ho⟩ := hrearms hr hl
    rw [hpcu, hrearmed, hposted]
    exact ⟨htc, by simp, ho⟩
  case stays =>
    intro hno
    obtain ⟨-, htc, hposted⟩ := hkept hno
    rw [hrearmed, hposted]
    exact ⟨htc, by simp⟩

theorem boundaryAtPcuAndTc_taken (cfg : ConfigRecord) (hc : s.config = some cfg) (hlaw : outputLaw s) (h : BeforePcu s y)
    (hpcu : t.pcu = (boundaryTc (boundaryPcu y)).pcu) (htc : t.tc = (boundaryTc (boundaryPcu y)).tc)
    (hlp : t.lp = (boundaryTc (boundaryPcu y)).lp) : BoundaryAtPcuAndTc s t := by
  obtain ⟨p, ev, hp, taken⟩ := recordTaken_boundaryPcu cfg hc h
  by_cases hr : s.tc.trip = .rearm ∧ lockHeld s.tb.lock = true
  · have hoff : s.pcu.output = .off := hlaw.1.2 (by simp [gateOpen, hr.1])
    have hpoff : p.output = .off := by
      rw [taken.stays (fun hno => by simp [hoff] at hno), hoff]
    have hz := boundaryTc_rearms (x := boundaryPcu y) (by rw [hp]; simp [h.tc, hr.1]) (by rw [hp]; simp [h.lock, hr.2])
    rw [hz, hp] at hpcu htc hlp
    refine boundaryAtPcuAndTc_of cfg hc p ev (eventMask .rearmed) _ taken hpcu (fun e he => ?_)
      ⟨by simp [hasEvent_eventMask], by simp [hasEvent_eventMask]⟩ (fun hno => ?_) fun _ _ => ⟨?_, ?_, ?_⟩
    · simp [hlp, hasEvent_or, h.events e he]
    · obtain hno | hno := hno <;> simp [hr] at hno
    · simp [htc, h.tc]
    · simp [hasEvent_eventMask]
    · simp [h.station, h.lock, taken.run, hpoff]
  · have hno : s.tc.trip ≠ .rearm ∨ lockHeld s.tb.lock = false := by
      by_cases ht : s.tc.trip = .rearm
      · exact .inr (by simpa [ht] using hr)
      · exact .inl ht
    have hz := boundaryTc_stays (x := boundaryPcu y) (by rw [hp]; simpa [h.tc, h.lock] using hno)
    rw [hz, hp] at hpcu htc hlp
    refine boundaryAtPcuAndTc_of cfg hc p ev 0 p.output taken hpcu (fun e he => ?_) ⟨by simp [hasEvent], by simp [hasEvent]⟩
      (fun _ => ⟨rfl, htc.trans h.tc, by simp [hasEvent]⟩) fun h1 h2 => absurd ⟨h1, h2⟩ hr
    rw [hlp, hasEvent_or, h.events e he, show hasEvent 0 e = false by simp [hasEvent], Bool.or_false]

/-- PCU and TC leave TB as they find it, whatever they do at a boundary. -/
theorem boundaryTc_pcu_kept (x : State) : hostKept x (boundaryTc (boundaryPcu x)) ∧ (boundaryTc (boundaryPcu x)).tb = x.tb ∧
    (boundaryTc (boundaryPcu x)).mc = x.mc ∧ (boundaryTc (boundaryPcu x)).lc = x.lc ∧ (boundaryTc (boundaryPcu x)).mu = x.mu := by
  simp [hostKept]

/-- The shared carrier start that a boundary commanded by itself is (R22, R50, R51, log 2). -/
theorem boundaryCarrier_eq (s : State) : boundaryCarrier s = { s with
    lc := (pastDeadline s).lc
    mc := { s.mc with
      beaconDeadline := deadlineLeft s
      listenTimer := if s.tb.boundary = .none then s.mc.listenTimer.map (· + 1) else s.mc.listenTimer
      election := if s.tb.boundary = .none then s.mc.election.map (fun e => { e with carriers := e.carriers + 1 })
        else s.mc.election } } := by
  unfold boundaryCarrier pastDeadline deadlineLeft
  by_cases hb : s.tb.boundary = .none
  · cases hd : s.mc.beaconDeadline <;> simp [hb, hd, mapMc, countCarrier, removeBeacon, emptySlot, mapLc]
  · simp [hb]

theorem boundaryFounds_iff (cfg : ConfigRecord) (s : State) : boundaryFounds cfg s = true ↔
    s.tb.boundary = .none ∧ s.mc.station = .listening ∧
      s.mc.listenTimer.map (· + 1) = some (cfg.listenEpochs * epochCarriers cfg + 2 * s.sid.val) := by
  rw [boundaryFounds, listenEnds, boundaryCarrier_eq]
  simp only [Bool.and_eq_true, decide_eq_true_eq, beq_iff_eq, listenLimit]
  refine and_congr_right fun hb => and_congr_right fun _ => ?_
  rw [if_pos hb]

theorem retryHead_blocks (x : State) : hostKept x (retryHead x) ∧ (retryHead x).tb = x.tb ∧ (retryHead x).mc = x.mc ∧
    (retryHead x).pcu = x.pcu ∧ (retryHead x).tc = x.tc ∧ (retryHead x).lp = x.lp := by simp [hostKept]

theorem retryHead_idle (h : x.mu.retryDue = false) : retryHead x = x := by
  unfold retryHead
  split
  · rfl
  next m ms _ => rw [if_neg (by simp [h])]

/-- The state of a boundary once TB has taken it, before MC does (R2). -/
def boundaryTimed (cfg : ConfigRecord) (s : State) : State := mapTb (boundaryTb cfg) (boundaryCarrier s)

theorem boundaryTimed_kept (cfg : ConfigRecord) (s : State) : hostKept s (boundaryTimed cfg s) ∧
    (boundaryTimed cfg s).tb = boundaryTb cfg s.tb ∧ (boundaryTimed cfg s).pcu = s.pcu ∧ (boundaryTimed cfg s).tc = s.tc ∧
    (boundaryTimed cfg s).lp = s.lp ∧ (boundaryTimed cfg s).mu = s.mu ∧ (boundaryTimed cfg s).lc = (pastDeadline s).lc := by
  rw [boundaryTimed, boundaryCarrier_eq]
  exact ⟨⟨rfl, rfl, rfl, rfl, rfl, rfl⟩, rfl, rfl, rfl, rfl, rfl, rfl⟩

theorem boundaryTimed_mc (cfg : ConfigRecord) (s : State) : (boundaryTimed cfg s).mc = { s.mc with
    beaconDeadline := deadlineLeft s
    listenTimer := if s.tb.boundary = .none then s.mc.listenTimer.map (· + 1) else s.mc.listenTimer
    election := if s.tb.boundary = .none then s.mc.election.map (fun e => { e with carriers := e.carriers + 1 })
      else s.mc.election } := by
  rw [boundaryTimed, boundaryCarrier_eq]
  rfl

theorem takeBoundary_eq (cfg : ConfigRecord) (s : State) :
    takeBoundary cfg s = retryHead (boundaryTc (boundaryPcu (boundaryMc cfg (boundaryTimed cfg s)))) := rfl

/-- TB's part of a boundary is all that the boundary does to the shared phase (R2, R4, R7, R12). -/
theorem takeBoundary_kept (cfg : ConfigRecord) (s : State) : boundaryKept (boundaryTimed cfg s) (takeBoundary cfg s) := by
  have same {x z : State} (host : hostKept x z) (htb : z.tb = x.tb) : boundaryKept x z := boundaryKept_of_tb host (by rw [htb])
  obtain ⟨kept, -⟩ := boundaryMc_moved cfg (boundaryTimed cfg s)
  obtain ⟨host, htb, -, -, -⟩ := boundaryTc_pcu_kept (boundaryMc cfg (boundaryTimed cfg s))
  obtain ⟨host', htb', -⟩ := retryHead_blocks (boundaryTc (boundaryPcu (boundaryMc cfg (boundaryTimed cfg s))))
  exact boundaryKept_trans kept (boundaryKept_trans (same host htb) (same host' htb'))

theorem takeBoundary_pcuAndTc (cfg : ConfigRecord) (hc : s.config = some cfg) (hlaw : outputLaw s)
    (hstays : ¬leavesAtBoundary s.mc) : BoundaryAtPcuAndTc s (takeBoundary cfg s) := by
  obtain ⟨-, moved⟩ := boundaryMc_moved cfg (boundaryTimed cfg s)
  obtain ⟨⟨-, -, -, -, -, hcfg⟩, htb, hpcu, htc, hlp, -, -⟩ := boundaryTimed_kept cfg s
  have hmc := boundaryTimed_mc cfg s
  obtain ⟨⟨-, -, -, -, -, kcfg⟩, ktb, kpcu, ktc, kst, klp⟩ := moved (by rw [hmc]; exact hstays)
  rw [takeBoundary_eq]
  generalize boundaryMc cfg (boundaryTimed cfg s) = y at *
  generalize boundaryTimed cfg s = x at *
  have htbs {α : Type} (f : TimeBase → α) (hf : ∀ tb n, f { tb with target := n } = f tb) : f y.tb = f (boundaryTb cfg s.tb) := by
    rw [ktb, hf, htb]
  have before : BeforePcu s y := by
    refine ⟨kcfg.trans hcfg, kpcu.trans hpcu, ktc.trans htc, kst.trans (by rw [hmc]), htbs (·.lock) fun _ _ => rfl,
      htbs (·.epoch) fun _ _ => rfl, htbs (·.startMark) fun _ _ => rfl, htbs (·.outPos) fun _ _ => rfl,
      htbs (·.netStep) fun _ _ => rfl, fun e he => ?_⟩
    rw [hasEvent_of_eventsBetween klp e, hlp]
    simp only [List.mem_cons, List.not_mem_nil, or_false] at he
    obtain rfl | rfl | rfl := he <;> decide
  obtain ⟨-, -, -, rpcu, rtc, rlp⟩ := retryHead_blocks (boundaryTc (boundaryPcu y))
  exact boundaryAtPcuAndTc_taken cfg hc hlaw before rpcu rtc rlp

theorem takeBoundary_offLine (cfg : ConfigRecord) (h : groupState s.mc.station = false) :
    (takeBoundary cfg s).mc = { (boundaryTimed cfg s).mc with statusFilled := false } ∧
      (s.mu.retryDue = false → (takeBoundary cfg s).lc = (pastDeadline s).lc ∧ (takeBoundary cfg s).mu = s.mu) := by
  obtain ⟨-, -, -, -, -, hmu, hlc⟩ := boundaryTimed_kept cfg s
  rw [takeBoundary_eq, boundaryMc_offLine (x := boundaryTimed cfg s) cfg (by rw [boundaryTimed_mc]; exact h)]
  obtain ⟨-, -, kmc, klc, kmu⟩ :=
    boundaryTc_pcu_kept (mapMc (fun mc => { mc with statusFilled := false }) (boundaryTimed cfg s))
  generalize boundaryTc (boundaryPcu (mapMc _ (boundaryTimed cfg s))) = z at *
  obtain ⟨-, -, rmc, -, -, -⟩ := retryHead_blocks z
  refine ⟨by rw [rmc, kmc]; rfl, fun hretry => ?_⟩
  rw [retryHead_idle (by rw [kmu]; exact (congrArg (·.retryDue) hmu).trans hretry), klc, kmu]
  exact ⟨hlc, hmu⟩

/-- Settles O28: the boundary of each block in turn, `boundaryTb`, `boundaryMc_moved`, `boundaryAtPcuAndTc_taken`. -/
theorem boundaryTime : Obligations.BoundaryTime := by
  refine fun s hr => ⟨fun hc => ?_, fun hc hb => ?_, fun cfg hc hb => ?_⟩
  · exact exec_high hr (by simp only [exec, execEpochBoundary, hc])
  · obtain ⟨cfg, hc⟩ := Option.ne_none_iff_exists'.1 hc
    exact exec_high hr (by simp only [exec, execEpochBoundary, hc, hb, if_true, mapTb])
  intro founds
  have hfounds : boundaryFounds cfg s = true ↔ founds := boundaryFounds_iff cfg s
  obtain ⟨host, hcar, hpos, hepoch, hepo, hopen, hseen, hsample⟩ := takeBoundary_kept cfg s
  obtain ⟨hhost, htb, -⟩ := boundaryTimed_kept cfg s
  rw [htb] at hcar hpos hepoch hepo hopen hseen hsample
  have hkept := hostKept_trans hhost host
  refine ⟨takeBoundary cfg s, fun hno => ?_, fun hyes => ?_, hkept, hcar, fun hn => ?_, fun past hp => ?_, hepoch, ?_, hopen,
    hseen, fun hn => ?_, fun m hm => ?_, fun hlaw hleave hjoin => ?_, fun hgroup => ?_⟩
  · exact exec_high hr (by simp only [exec, execEpochBoundary, hc, if_neg hb, if_neg (mt hfounds.1 hno)])
  · obtain ⟨hnone, hlisten, htimer⟩ := id hyes
    obtain ⟨hmc, -⟩ := takeBoundary_offLine (s := s) cfg (by rw [hlisten]; rfl)
    rw [boundaryTimed_mc] at hmc
    have hres : (takeBoundary cfg s).pins.resetn = true := by rw [hkept.pins]; exact hr
    have hcfg : (takeBoundary cfg s).config = some cfg := by rw [hkept.config]; exact hc
    have hst : (takeBoundary cfg s).mc.station = .listening := by rw [hmc]; exact hlisten
    have hruns : (takeBoundary cfg s).mc.listenTimer.isSome = true := by rw [hmc]; simp [hnone, htimer]
    refine ⟨found cfg (takeBoundary cfg s), fillStatus 0 (found cfg (takeBoundary cfg s)), exec_high hres ?_, ?_, exec_high hr ?_⟩
    · simp only [exec, execListenTimerExpiry, hcfg, hst, hruns, decide_true, Bool.and_self, if_true]
    · exact exec_high (by simpa using hres) rfl
    · simp only [exec, execEpochBoundary, hc, if_neg hb, if_pos (hfounds.2 hyes)]
  · rw [hpos]; simp [boundaryTb, boundaryPosition, hn]
  · rw [hpos]; simp [boundaryTb, boundaryPosition, hp]
  · rw [hepo]; cases hl : s.tb.lock <;> simp [boundaryTb, lockHeld, hl]
  · rw [hsample]; simp [boundaryTb, hn]
  · rw [hsample]; simp [boundaryTb, hm]
  · exact takeBoundary_pcuAndTc cfg hc hlaw fun h => h.elim hleave hjoin
  · obtain ⟨hmc, hrest⟩ := takeBoundary_offLine cfg hgroup
    rw [hmc, boundaryTimed_mc]
    exact ⟨rfl, hrest⟩

end Sys2Proof.Machine
end

section
namespace Sys2Proof.Machine

variable {s x y t : State}

/-! ### One count of the Time Base (R2, R3, R16, R22, R51) -/

theorem advanceOf_eq (n : Int) (advance : Nat) (h : (advance : Int) = 1 + n.sign) : advanceOf n = advance := by
  unfold advanceOf
  obtain hn | rfl | hn := lt_trichotomy n 0
  · rw [Int.sign_eq_neg_one_of_neg hn] at h
    rw [if_neg (by omega), if_pos hn]
    omega
  · simp at h ⊢
    omega
  · rw [Int.sign_eq_one_of_pos hn] at h
    rw [if_pos hn]
    omega

theorem syncAfter_eq (n : Int) : syncAfter n = n - n.sign := by
  unfold syncAfter
  obtain hn | rfl | hn := lt_trichotomy n 0
  · rw [Int.sign_eq_neg_one_of_neg hn, if_neg (by omega), if_pos hn]
    omega
  · simp
  · rw [Int.sign_eq_one_of_pos hn, if_pos hn]

theorem isFillPoint_iff (standing : Standing) (n : Nat) :
    isFillPoint standing n = true ↔ ∃ j : Nat, n = 2 + 2 * standing.rank + 2 * standing.count * j := by
  simp only [isFillPoint, Bool.and_eq_true, decide_eq_true_eq, beq_iff_eq]
  constructor
  · rintro ⟨hle, hmod⟩
    obtain ⟨j, hj⟩ := Nat.dvd_of_mod_eq_zero hmod
    exact ⟨j, by omega⟩
  · rintro ⟨j, rfl⟩
    refine ⟨by omega, ?_⟩
    rw [Nat.add_sub_cancel_left]
    exact Nat.mul_mod_right _ j

theorem mem_boundaryAndStart (now : Nat) (boundary start : Bool) (rest : List Instr) (i : Instr) :
    i ∈ boundaryAndStart now boundary start rest ↔
      (boundary = true ∧ i = .epochBoundary) ∨ i ∈ rest ∨ (start = true ∧ i = .outputCarrierStart) := by
  unfold boundaryAndStart
  split
  next h =>
    have hstart : start = true := by simp_all
    simp only [List.mem_append, List.mem_singleton, mem_rowIf, hstart, true_and]
    tauto
  · simp only [List.mem_append, mem_rowIf]
    tauto

theorem mem_carrierRows (cfg : ConfigRecord) (c : Nat) (x : State) (i : Instr) : i ∈ carrierRows cfg c x ↔
    (listenEnds cfg x = true ∧ i = .listenTimerExpiry) ∨ (c ≠ 0 ∧ fillPointNow x.mc = true ∧ i = .candidateFillPoint) ∨
      ((c ≠ 0 ∨ listenEnds cfg x = true) ∧ i = .statusFill c) ∨ (c = 2 ∧ x.tb.windowOpen = true ∧ i = .missedBeacon) := by
  simp [carrierRows, mem_rowIf, and_assoc]

/-- A count of the Time Base and MC, before the channels' part of it (R2, R3, R22, R51). -/
def counted (cfg : ConfigRecord) (x : State) : State :=
  let y := mapTb (fun tb => advanceOutput cfg (advancePhase cfg tb)) x
  if (carrierReached cfg x.tb).isSome then mapMc countCarrier y else y

theorem timeTick_eq (cfg : ConfigRecord) (x : State) : timeTick cfg x =
    (rowIf ((carrierReached cfg x.tb).isSome && x.mc.beaconDeadline) .beaconDeadline ++
        boundaryAndStart (counted cfg x).now (carrierReached cfg x.tb == some 0) ((counted cfg x).tb.startMark == .due)
          ((carrierReached cfg x.tb).elim [] fun c => carrierRows cfg c (counted cfg x)) ++
        rowIf (atPeak cfg (counted cfg x).tb) .peak ++
        (allChannels.filter fun ch => matchNow (counterNow cfg (counted cfg x)) (channelOf (counted cfg x).pcu ch)).map
          .compareMatch,
      (channelTick cfg (counted cfg x)).2) := by
  cases h : carrierReached cfg x.tb <;> simp [timeTick, counted, channelTick, h]

theorem counted_frame (cfg : ConfigRecord) (x : State) : (counted cfg x).pcu = x.pcu ∧ (counted cfg x).sid = x.sid := by
  unfold counted
  dsimp only
  split <;> exact ⟨rfl, rfl⟩

/-- The commands that one count of a running station brings of its time base (R2, R3, R12, R22, R50, R82). -/
theorem mem_timePart (s : State) (cfg : ConfigRecord) (h : s.config = some cfg) (i : Instr) :
    i ∈ (timePart (pinTick s).2).1 ↔
      ((carrierReached cfg s.tb).isSome = true ∧ s.mc.beaconDeadline = true ∧ i = .beaconDeadline) ∨
      (carrierReached cfg s.tb = some 0 ∧ i = .epochBoundary) ∨
      (∃ c, carrierReached cfg s.tb = some c ∧ i ∈ carrierRows cfg c (timed s)) ∨
      ((timed s).tb.startMark = .due ∧ i = .outputCarrierStart) ∨
      (atPeak cfg (timed s).tb = true ∧ i = .peak) ∨
      ∃ ch, matchNow (counterNow cfg (timed s)) (channelOf s.pcu ch) = true ∧ i = .compareMatch ch := by
  obtain ⟨x, hx⟩ : ∃ x, x = mapTb freshCount (pinTick s).2 := ⟨_, rfl⟩
  have hpart : timePart (pinTick s).2 = timeTick cfg x := by
    rw [hx, timePart]
    simp [h]
  have hfields : x.mc = s.mc ∧ x.pcu = s.pcu ∧ carrierReached cfg x.tb = carrierReached cfg s.tb := by
    rw [hx]
    refine ⟨by simp, by simp, ?_⟩
    simp [carrierReached, freshCount]
  obtain ⟨hmc, hpcu, hreached⟩ := hfields
  have htimed : timed s = (channelTick cfg (counted cfg x)).2 := by rw [timed, hpart, timeTick_eq]
  have hcounted : (timed s).tb = (counted cfg x).tb ∧ (timed s).mc = (counted cfg x).mc ∧ (timed s).sid = (counted cfg x).sid := by
    rw [htimed]
    exact ⟨rfl, rfl, rfl⟩
  obtain ⟨ttb, tmc, tsid⟩ := hcounted
  have hcarrier (c : Nat) : i ∈ carrierRows cfg c (timed s) ↔ i ∈ carrierRows cfg c (counted cfg x) := by
    simp only [mem_carrierRows, listenEnds, ttb, tmc, tsid]
  have hcounter : counterNow cfg (timed s) = counterNow cfg (counted cfg x) := by rw [counterNow, counterNow, ttb]
  have hchannels (ch : Channel) : ch ∈ allChannels := by cases ch <;> simp [allChannels]
  rw [hpart, timeTick_eq]
  simp only [List.mem_append, mem_rowIf, mem_boundaryAndStart, List.mem_map, List.mem_filter, hchannels, true_and, hreached,
    hmc, (counted_frame cfg x).1, hpcu, ttb, hcarrier, hcounter, Bool.and_eq_true, beq_iff_eq, and_assoc, or_assoc,
    @eq_comm Instr _ i]
  cases carrierReached cfg s.tb <;> simp

end Sys2Proof.Machine
end

section
namespace Sys2Proof.Machine

variable {s x y t : State}

/-! ### One count of a running station (R2, R3, R12, R16, R22, R29, R50, R51, R52, R75, R82, R83) -/

/-- A command of the time base falls on a count exactly when the time base's part of it brings it. -/
theorem mem_runningTick_time (i : Instr) (s : State) (h : rowGroup i = 1) (hi : i ≠ .mailCompletion) :
    i ∈ (runningTick s).pending ↔ i ∈ (timePart (pinTick s).2).1 := by
  have hpin : i ∉ (pinTick s).1 := fun hm => by simpa [h] using pinTick_rows s i hm
  have hline (y : State) : i ∉ (lineTick y).1 := fun hm => by simpa [h] using lineTick_rows y i hm
  have hport (y : State) : i ∉ (portTick y).1 := fun hm => by simpa [h] using portTick_rows y i hm
  simp only [mem_runningTick, hpin, hline, hport, hi, and_false, false_or, or_false]

theorem carrierReached_none (cfg : ConfigRecord) (tb : TimeBase) (h : tb.position + advanceOf tb.syncLeft < carrierLength cfg) :
    carrierReached cfg tb = none := if_pos h

theorem carrierReached_next (cfg : ConfigRecord) (tb : TimeBase) (h : carrierLength cfg ≤ tb.position + advanceOf tb.syncLeft)
    (hc : tb.carrier + 1 < epochCarriers cfg) : carrierReached cfg tb = some (tb.carrier + 1) := by
  rw [carrierReached, if_neg (by omega), if_pos hc]

theorem carrierReached_boundary (cfg : ConfigRecord) (tb : TimeBase)
    (h : carrierLength cfg ≤ tb.position + advanceOf tb.syncLeft) (hc : epochCarriers cfg ≤ tb.carrier + 1) :
    carrierReached cfg tb = some 0 := by
  rw [carrierReached, if_neg (by omega), if_neg (by omega)]

/-- Where the phase stands after a count, by the carrier it reaches (R2). -/
theorem advancePhase_place (cfg : ConfigRecord) (tb : TimeBase) :
    (carrierReached cfg tb = none → (advancePhase cfg tb).carrier = tb.carrier ∧
      (advancePhase cfg tb).position = tb.position + advanceOf tb.syncLeft) ∧
    (∀ c, carrierReached cfg tb = some (c + 1) → (advancePhase cfg tb).carrier = c + 1 ∧
      (advancePhase cfg tb).position = tb.position + advanceOf tb.syncLeft - carrierLength cfg) ∧
    (carrierReached cfg tb = some 0 → (advancePhase cfg tb).carrier = tb.carrier ∧
      (advancePhase cfg tb).position = tb.position ∧ (advancePhase cfg tb).boundary = .due (advanceOf tb.syncLeft)) := by
  refine ⟨fun h => ?_, fun c h => ?_, fun h => ?_⟩ <;> simp [advancePhase, h]

/-- What a count of the shared phase leaves to the output position (R3, R16). -/
theorem advancePhase_rest (cfg : ConfigRecord) (tb : TimeBase) :
    advancePhase cfg tb = { tb with
      syncLeft := syncAfter tb.syncLeft, carrier := (advancePhase cfg tb).carrier, position := (advancePhase cfg tb).position
      boundary := (advancePhase cfg tb).boundary } := by
  unfold advancePhase
  dsimp only
  split <;> rfl

/-- The output position counts on, or its interval ends (R3, R16). -/
theorem advanceOutput_cases (cfg : ConfigRecord) (tb : TimeBase) :
    ((tb.outPos + 1 : Int) < carrierLength cfg - tb.netStep →
      advanceOutput cfg tb = { tb with outPos := tb.outPos + 1 }) ∧
    ((carrierLength cfg - tb.netStep : Int) ≤ tb.outPos + 1 →
      advanceOutput cfg tb = { tb with outPos := 0, netStep := 0, startMark := .due }) := by
  unfold advanceOutput outCarrierLength
  exact ⟨fun h => if_neg (by omega), fun h => if_pos (by omega)⟩

/-- A count of the output position moves nothing else of TB (R3). -/
theorem advanceOutput_rest (cfg : ConfigRecord) (tb : TimeBase) :
    advanceOutput cfg tb = { tb with
      outPos := (advanceOutput cfg tb).outPos, netStep := (advanceOutput cfg tb).netStep
      startMark := (advanceOutput cfg tb).startMark } := by
  unfold advanceOutput
  split <;> rfl

theorem fillPointNow_countCarrier (mc : Membership) : fillPointNow (countCarrier mc) = true ↔
    ∃ e standing, ∃ j : Nat, mc.election = some e ∧ e.standing = some standing ∧
      e.carriers + 1 = 2 + 2 * standing.rank + 2 * standing.count * j := by
  unfold fillPointNow countCarrier
  cases he : mc.election with
  | none => simp
  | some e =>
    cases hs : e.standing with
    | none => simp [hs]
    | some standing => simp [hs, isFillPoint_iff]

theorem matchNow_iff (n : Nat) (c : ChannelState) : matchNow n c = true ↔
    c.setting.mode = .pwm ∧ c.request ≠ if n < c.setting.compare then .high else .low := by
  unfold matchNow requestOf
  rw [Bool.and_eq_true, beq_iff_eq, bne_iff_ne]
  refine and_congr_right fun hm => ?_
  rw [hm]
  exact ne_comm

/-- One count of the channels leaves the rest of PCU (R83). -/
theorem timed_pcu (cfg : ConfigRecord) (h : s.config = some cfg) :
    (timed s).pcu = { s.pcu with u := (timed s).pcu.u, v := (timed s).pcu.v, w := (timed s).pcu.w } := by
  unfold timed timePart
  simp only [mapTb_config, pinTick_frame, h, timeTick, channelTick]
  split <;> simp

/-- The commands of a running station's time base on one count (R2, R3, R12, R22, R50, R82). -/
theorem mem_count (cfg : ConfigRecord) (hc : s.config = some cfg) :
    (Instr.epochBoundary ∈ (runningTick s).pending ↔ carrierReached cfg s.tb = some 0) ∧
    (Instr.beaconDeadline ∈ (runningTick s).pending ↔
      (carrierReached cfg s.tb).isSome = true ∧ s.mc.beaconDeadline = true) ∧
    (Instr.listenTimerExpiry ∈ (runningTick s).pending ↔
      (carrierReached cfg s.tb).isSome = true ∧ listenEnds cfg (timed s) = true) ∧
    (Instr.missedBeacon ∈ (runningTick s).pending ↔ carrierReached cfg s.tb = some 2 ∧ (timed s).tb.windowOpen = true) ∧
    (∀ c, Instr.statusFill c ∈ (runningTick s).pending ↔
      carrierReached cfg s.tb = some c ∧ (c ≠ 0 ∨ listenEnds cfg (timed s) = true)) ∧
    (Instr.candidateFillPoint ∈ (runningTick s).pending ↔
      (∃ c, carrierReached cfg s.tb = some c ∧ c ≠ 0) ∧ fillPointNow (timed s).mc = true) ∧
    (Instr.outputCarrierStart ∈ (runningTick s).pending ↔ (timed s).tb.startMark = .due) ∧
    (Instr.peak ∈ (runningTick s).pending ↔ atPeak cfg (timed s).tb = true) ∧
    (∀ ch, Instr.compareMatch ch ∈ (runningTick s).pending ↔
      matchNow (counterNow cfg (timed s)) (channelOf s.pcu ch) = true) := by
  have hrows (i : Instr) (hg : rowGroup i = 1) (hi : i ≠ .mailCompletion) :=
    (mem_runningTick_time i s hg hi).trans (mem_timePart s cfg hc i)
  refine ⟨?_, ?_, ?_, ?_, fun c => ?_, ?_, ?_, ?_, fun ch => ?_⟩ <;>
    rw [hrows _ rfl (by simp)] <;> simp [mem_carrierRows, Option.isSome_iff_exists, ← and_assoc]

/-- One count of the Time Base, field by field (R2, R3, R16). -/
theorem timed_tb (cfg : ConfigRecord) (hc : s.config = some cfg) :
    (timed s).tb.syncLeft = s.tb.syncLeft - s.tb.syncLeft.sign ∧
      (timed s).tb.carrier = (advancePhase cfg (freshCount s.tb)).carrier ∧
      (timed s).tb.position = (advancePhase cfg (freshCount s.tb)).position ∧
      (timed s).tb.boundary = (advancePhase cfg (freshCount s.tb)).boundary ∧
      ((s.tb.outPos + 1 : Int) < carrierLength cfg - s.tb.netStep →
        (timed s).tb.outPos = s.tb.outPos + 1 ∧ (timed s).tb.netStep = s.tb.netStep ∧ (timed s).tb.startMark = .none) ∧
      ((carrierLength cfg - s.tb.netStep : Int) ≤ s.tb.outPos + 1 →
        (timed s).tb.outPos = 0 ∧ (timed s).tb.netStep = 0 ∧ (timed s).tb.startMark = .due) := by
  obtain ⟨htb, -⟩ := timed_running s cfg hc
  have hphase := advancePhase_rest cfg (freshCount s.tb)
  have hrest := advanceOutput_rest cfg (advancePhase cfg (freshCount s.tb))
  obtain ⟨hon, hend⟩ := advanceOutput_cases cfg (advancePhase cfg (freshCount s.tb))
  rw [htb]
  have hold : (advancePhase cfg (freshCount s.tb)).outPos = s.tb.outPos ∧
      (advancePhase cfg (freshCount s.tb)).netStep = s.tb.netStep ∧
      (advancePhase cfg (freshCount s.tb)).startMark = .none ∧
      (advancePhase cfg (freshCount s.tb)).syncLeft = syncAfter s.tb.syncLeft := by
    rw [hphase]
    exact ⟨rfl, rfl, rfl, rfl⟩
  obtain ⟨hpos, hnet, hmark, hsync⟩ := hold
  rw [hpos, hnet] at hon hend
  refine ⟨?_, by rw [hrest], by rw [hrest], by rw [hrest], fun h => ?_, fun h => ?_⟩
  · rw [hrest, ← syncAfter_eq]
    exact hsync
  · rw [hon h]
    exact ⟨rfl, rfl, hmark⟩
  · rw [hend h]
    exact ⟨rfl, rfl, rfl⟩

/-- MC counts the shared carrier starts of a running station (R22, R51). -/
theorem timed_mc (cfg : ConfigRecord) (hc : s.config = some cfg) :
    (timed s).mc = if (carrierReached cfg s.tb).isSome then countCarrier s.mc else s.mc := (timed_running s cfg hc).2

theorem listenEnds_timed (cfg : ConfigRecord) (hc : s.config = some cfg) (h : (carrierReached cfg s.tb).isSome = true) :
    listenEnds cfg (timed s) = true ↔ s.mc.station = .listening ∧
      s.mc.listenTimer.map (· + 1) = some (cfg.listenEpochs * epochCarriers cfg + 2 * s.sid.val) := by
  rw [listenEnds, timed_mc cfg hc, if_pos h, (timed_frame s).1]
  simp [countCarrier, listenLimit]

/-- Settles O27: the queue is that of `mem_count`, the phase that of `advancePhase_place`, the rest that of `timed_tb`. -/
theorem oneCountOfPhase : Obligations.OneCountOfPhase := by
  intro s cfg hone hc
  obtain ⟨-, -, hlock, hepoch, hresidual, hcurrent, htarget, hepo, hin, hwindow⟩ := advance_frame cfg s.tb
  rw [← (timed_running s cfg hc).1] at hlock hepoch hresidual hcurrent htarget hepo hin hwindow
  obtain ⟨mBoundary, mDeadline, mExpiry, mMissed, mStatus, mFill, mStart, mPeak, mMatch⟩ := mem_count (s := s) cfg hc
  obtain ⟨hsync, hcarrier, hposition, hboundary, hon, hend⟩ := timed_tb (s := s) cfg hc
  obtain ⟨pNone, pNext, pBoundary⟩ := advancePhase_place cfg (freshCount s.tb)
  have hmc := timed_mc (s := s) cfg hc
  refine ⟨runningTick s, step_of_oneCount s hone, ?_⟩
  rw [runningTick_tb, runningTick_mc, runningTick_pcu]
  refine ⟨hsync, hepoch, hlock, hresidual, hcurrent, htarget, hepo, hin, runningTick_config s, runningTick_sid s, ?_,
    timed_pcu cfg hc, runningTick_tc s, runningTick_events s, fun advance hadvance => ?_, fun h => ?_, fun h => ?_, ?_,
    fun ch => ⟨?_, ?_⟩⟩
  · rw [hmc]
    split <;> rfl
  · have hadv := advanceOf_eq s.tb.syncLeft advance hadvance
    refine ⟨fun h => ?_, fun h hlast => ?_, fun h hlast => ?_, fun h => ?_⟩
    · have hr := carrierReached_none cfg s.tb (by omega)
      obtain ⟨hcar, hpos⟩ := pNone hr
      rw [hcarrier, hposition, mBoundary, mExpiry, mMissed, mDeadline, hmc, hr]
      refine ⟨hcar, hadv ▸ hpos, by simp, by simp, by simp, by simp, fun c => ?_, by simp⟩
      rw [mStatus, hr]
      simp
    · have hr := carrierReached_next cfg s.tb (by omega) hlast
      obtain ⟨hcar, hpos⟩ := pNext s.tb.carrier hr
      rw [hcarrier, hposition, mBoundary, mStatus, mFill, mMissed, hmc, hr]
      refine ⟨hcar, hadv ▸ hpos, by simp, by simp, ?_, by simp [hwindow]⟩
      simp only [Option.isSome_some, if_true, fillPointNow_countCarrier]
      exact and_iff_right ⟨_, rfl, by omega⟩
    · have hr := carrierReached_boundary cfg s.tb (by omega) hlast
      obtain ⟨hcar, hpos, hdue⟩ := pBoundary hr
      rw [hcarrier, hposition, hboundary, mBoundary, mMissed, hr]
      exact ⟨hcar, hpos, hadv ▸ hdue, rfl, by simp⟩
    · have hr : (carrierReached cfg s.tb).isSome = true := by
        rw [carrierReached, if_neg (by omega)]
        split <;> rfl
      rw [mExpiry, mDeadline, hmc, if_pos hr, listenEnds_timed cfg hc hr]
      exact ⟨rfl, rfl, and_iff_right hr, and_iff_right hr⟩
  · obtain ⟨h1, h2, h3⟩ := hon h
    exact ⟨h1, h2, h3, by rw [mStart, h3]; simp⟩
  · obtain ⟨h1, h2, h3⟩ := hend h
    exact ⟨h1, h2, h3, by rw [mStart, h3]⟩
  · rw [mPeak, atPeak]
    simp [hin, and_assoc]
  · exact timed_channel s cfg hc ch
  · rw [mMatch, matchNow_iff]
    rfl

end Sys2Proof.Machine
end

section
namespace Sys2Proof.Machine

variable {s x y t : State}

/-! ### The receive framer's commands (R6, R108, R112, R114) -/

theorem endFrame_eq (x : State) : endFrame x = { x with lc := frameEnded x.lc } := by
  unfold endFrame
  cases hf : x.lc.framer <;> simp [planReply, toWaitIdle, mapLc, frameEnded, hf]

theorem framerCommands_effects (s : State) (hr : s.pins.resetn = true) :
    exec .framerIdle s = .next { s with lc := { s.lc with
      framer := if s.lc.framer = .waitIdle then .idle else s.lc.framer } } ∧
    (s.lc.framer ≠ .idle → exec .frameStartSeen s = .next s) ∧
    (s.lc.framer = .idle → exec .frameStartSeen s = .next { s with lc := frameBegun s.config s.lc }) ∧
    exec (.frameDiscarded .format) s = .next { s with tb := { s.tb with sample := none }, lc := frameEnded s.lc } ∧
    (∀ why, why ≠ .format → exec (.frameDiscarded why) s = .next { s with
      tb := { s.tb with sample := none }
      lc := { s.lc with replyAck := false, replyRefuse := false, failed := true } }) ∧
    (s.lc.onLine = none → s.lc.attempt = none →
      exec .refusalBitSampled s = .next { s with lc := frameEnded s.lc }) ∧
    (s.lc.onLine ≠ none ∨ s.lc.attempt ≠ none → exec .refusalBitSampled s = .next s) := by
  refine ⟨exec_high hr rfl, fun h => exec_high hr ?_, fun h => exec_high hr ?_, exec_high hr ?_, fun why hw => exec_high hr ?_,
    fun ho ha => exec_high hr ?_, fun h => exec_high hr ?_⟩
  · simp only [exec, execFrameStartSeen, if_neg h]
  · have hstill : (!running s) = s.config.isNone := by simp [running]
    simp only [exec, execFrameStartSeen, if_pos h, hstill]
    rfl
  · have hend : exec (.frameDiscarded .format) s = goes s (endFrame (dropSample s)) := rfl
    rw [hend, endFrame_eq]
    rfl
  · cases why with
    | format => exact absurd rfl hw
    | badCrc => rfl
    | kindOrLength => rfl
  · simp only [exec, execRefusalBitSampled, ho, ha, Option.isNone_none, Bool.and_self, if_true, endFrame_eq]
  · have : ¬(s.lc.onLine.isNone && s.lc.attempt.isNone) = true := by
      simpa [Option.isNone_iff_eq_none, ← imp_iff_not_or, or_iff_not_imp_left] using h
    simp only [exec, execRefusalBitSampled, if_neg this]

end Sys2Proof.Machine
end

section
namespace Sys2Proof.Machine

variable {s x u t : State}

/-! ### One count of the line, command by command (R108 to R114, R117, R121) -/

/-- The stage of the line's count that brings a command: the monitor 0, the bit boundary 1, the idle framer 2, the recessive run
3, the wait for idle 4, and a frame's sample 5. -/
def lineStage : Instr → Nat
  | .lineRaised => 0
  | .frameSuccess _ _ | .joinLeaveReplyComplete _ _ _ _ | .arbitrationPassed | .beaconMarker => 1
  | .frameStartSeen | .startOpportunity => 2
  | .lineInactive => 3
  | .framerIdle => 4
  | _ => 5

theorem boundaryRows_stage (x : State) (i : Instr) (h : i ∈ boundaryRows x) : lineStage i = 1 := by
  unfold boundaryRows replyRows at h
  split at h
  · split at h
    · simp only [List.mem_singleton] at h
      rw [h]; rfl
    · split at h
      · simp only [List.mem_singleton] at h
        rw [h]; rfl
      · simp at h
  · split at h
    · simp only [List.mem_append, mem_rowIf] at h
      obtain ⟨-, rfl⟩ | ⟨-, rfl⟩ := h <;> rfl
    · simp at h

theorem idleRows_mem (level : Bool) (x : State) (i : Instr) : i ∈ idleRows level x ↔
    x.lc.framer = .idle ∧ ((x.lc.lrxLast = true ∧ level = false ∧ i = .frameStartSeen) ∨
      (x.lc.bitPhase = 0 ∧ i = .startOpportunity)) := by
  unfold idleRows
  dsimp only
  by_cases hi : x.lc.framer = .idle
  · rw [if_pos hi]
    split
    · simp [hi, mem_rowIf, and_assoc, or_comm]
    · simp [hi, mem_rowIf, and_assoc]
  · simp [hi]

theorem deliveryOf_stage (own : StationId) (kind : Nat) (src : StationId) (payload : List Byte) (c : Instr)
    (h : deliveryOf own kind src payload = some c) : lineStage c = 5 := by
  unfold deliveryOf at h
  split at h
  · split at h <;> cases h; rfl
  · split at h
    · obtain ⟨_, _, rfl⟩ := Option.map_eq_some_iff.1 h; rfl
    · split at h
      · split at h <;> cases h; rfl
      · split at h
        · cases h; rfl
        · split at h
          · split at h <;> cases h; rfl
          · split at h
            · split at h
              · split at h <;> (cases h; rfl)
              · cases h
            · cases h

theorem endOfChecks_stage (own : StationId) (kind : Nat) (src : StationId) (payload : List Byte) (good : Bool) :
    lineStage (endOfChecks own kind src payload good) = 5 := by
  unfold endOfChecks
  split
  · rfl
  · split
    · rfl
    · cases h : deliveryOf own kind src payload with
      | none => rfl
      | some c => exact deliveryOf_stage _ _ _ _ _ h

theorem receiverSample_stage (x : State) (i : Instr) (h : i ∈ (receiverSample x).1) : lineStage i = 5 := by
  unfold receiverSample at h
  split at h
  · simp at h
  · simp only [List.mem_singleton] at h
    rw [h]; rfl
  · split at h
    · simp only [List.mem_singleton] at h
      rw [h, endOfChecks_stage]
    · simp at h
    · split at h
      · simp at h
      · simp only [List.mem_singleton] at h
        rw [h]; rfl

theorem senderSample_stage (bits : List Bool) (index : Nat) (bit : Bool) (x : State) (i : Instr)
    (h : i ∈ (senderSample bits index bit x).1) : lineStage i = 5 := by
  unfold senderSample at h
  split at h
  · obtain ⟨-, rfl⟩ := (mem_rowIf _ _ _).1 h; rfl
  · split at h
    · obtain ⟨-, rfl⟩ := (mem_rowIf _ _ _).1 h; rfl
    · split at h <;> simp at h

/-- What a bit kept in FRAME gives, at a sender and at a receiver (R108, R111, R114, R118). -/
def keptBit (bit : Bool) (x : State) : List Instr × State :=
  match ownBits x with
  | some bits => senderSample bits x.lc.bitIndex bit x
  | none => receiverSample x

theorem keptBit_stage (bit : Bool) (x : State) (i : Instr) (h : i ∈ (keptBit bit x).1) : lineStage i = 5 := by
  unfold keptBit at h
  split at h
  · exact senderSample_stage _ _ _ _ _ h
  · exact receiverSample_stage _ _ h

/-- The recessive run after a sample (R121). -/
def recessiveAfter (bit : Bool) (run : Nat) : Nat := if bit then min 12 (run + 1) else 0

/-- The state whose recessive run has counted a sample. -/
def runCounted (bit : Bool) (x : State) : State :=
  { x with lc := { x.lc with recessiveRun := recessiveAfter bit x.lc.recessiveRun } }

/-- The state whose frame has kept a bit. -/
def bitKept (bit : Bool) (x : State) : State := { x with lc := { x.lc with rxBits := x.lc.rxBits ++ [bit] } }

/-- The rows of the recessive run at a sample (R121). -/
def quietRows (bit : Bool) (x : State) : List Instr :=
  rowIf (x.lc.lineActive && recessiveAfter bit x.lc.recessiveRun == 12) .lineInactive

theorem sampleBit_waitIdle (bit : Bool) (h : x.lc.framer = .waitIdle) : sampleBit bit x =
    (quietRows bit x ++ rowIf (12 ≤ if bit then x.lc.idleRun + 1 else 0) .framerIdle,
      { runCounted bit x with lc := { (runCounted bit x).lc with idleRun := if bit then x.lc.idleRun + 1 else 0 } }) := by
  unfold sampleBit
  simp only [mapLc_lc, h]
  rfl

theorem sampleBit_idle (bit : Bool) (h : x.lc.framer = .idle) : sampleBit bit x = (quietRows bit x, runCounted bit x) := by
  unfold sampleBit
  simp only [mapLc_lc, h, List.append_nil]
  rfl

theorem sampleBit_startBit (bit : Bool) (h : x.lc.framer = .frame) (hi : x.lc.bitIndex = 0) :
    sampleBit bit x = (quietRows bit x, runCounted bit x) := by
  unfold sampleBit
  simp only [mapLc_lc, h, frameSample, if_pos hi, List.append_nil]
  rfl

theorem sampleBit_frame_kept (bit : Bool) (h : x.lc.framer = .frame) (hi : x.lc.bitIndex ≠ 0) : sampleBit bit x =
    (quietRows bit x ++ (keptBit bit (bitKept bit (runCounted bit x))).1,
      (keptBit bit (bitKept bit (runCounted bit x))).2) := by
  unfold sampleBit
  simp only [mapLc_lc, h, frameSample, if_neg hi]
  rfl

theorem keptBit_sender (bit : Bool) (bits : List Bool) (h : ownBits x = some bits) :
    keptBit bit x = senderSample bits x.lc.bitIndex bit x := by rw [keptBit, h]

theorem keptBit_receiver (bit : Bool) (h : ownBits x = none) : keptBit bit x = receiverSample x := by rw [keptBit, h]

/-- A frame whose last reply bit has been sampled (R108, R113, R118). -/
def repliesSampled (x : State) : State := { x with lc := { x.lc with replyDue := true, framer := .waitIdle, idleRun := 0 } }

theorem senderSample_state (bits : List Bool) (index : Nat) (bit : Bool) (x : State) :
    (senderSample bits index bit x).2 = if 9 < index ∧ index = bits.length + 2 then repliesSampled x else x := by
  unfold senderSample
  by_cases h9 : index ≤ 9
  · rw [if_pos h9, if_neg (by omega)]
  · rw [if_neg h9]
    by_cases hl : index ≤ bits.length
    · rw [if_pos hl, if_neg (by omega)]
    · rw [if_neg hl]
      by_cases he : index = bits.length + 2
      · rw [if_pos he, if_pos ⟨by omega, he⟩]
        rfl
      · rw [if_neg he, if_neg fun h => he h.2]

theorem receiverSample_state (x : State) : (receiverSample x).2 = x ∨ (receiverSample x).2 = repliesSampled x := by
  unfold receiverSample
  split
  · exact .inl rfl
  · exact .inl rfl
  · split
    · exact .inl rfl
    · exact .inl rfl
    · split
      · exact .inr rfl
      · exact .inl rfl

theorem keptBit_state (bit : Bool) (x : State) : (keptBit bit x).2 = x ∨ (keptBit bit x).2 = repliesSampled x := by
  cases h : ownBits x with
  | none => rw [keptBit_receiver bit h]; exact receiverSample_state x
  | some bits =>
    rw [keptBit_sender bit bits h, senderSample_state]
    split
    · exact .inr rfl
    · exact .inl rfl

/-- What a sample leaves of the bit engine, the level driven and the dominant run. -/
def sampleKept (a b : LineController) : Prop :=
  b.bitPhase = a.bitPhase ∧ b.ltx = a.ltx ∧ b.bitIndex = a.bitIndex ∧ b.dominantRun = a.dominantRun

theorem sampleBit_kept (bit : Bool) (x : State) : sampleKept x.lc (sampleBit bit x).2.lc ∧
    (sampleBit bit x).2.lc.recessiveRun = recessiveAfter bit x.lc.recessiveRun := by
  cases hf : x.lc.framer with
  | waitIdle => rw [sampleBit_waitIdle bit hf]; exact ⟨⟨rfl, rfl, rfl, rfl⟩, rfl⟩
  | idle => rw [sampleBit_idle bit hf]; exact ⟨⟨rfl, rfl, rfl, rfl⟩, rfl⟩
  | frame =>
    by_cases hi : x.lc.bitIndex = 0
    · rw [sampleBit_startBit bit hf hi]; exact ⟨⟨rfl, rfl, rfl, rfl⟩, rfl⟩
    · rw [sampleBit_frame_kept bit hf hi]
      dsimp only
      obtain h | h := keptBit_state bit (bitKept bit (runCounted bit x)) <;> rw [h] <;> exact ⟨⟨rfl, rfl, rfl, rfl⟩, rfl⟩

theorem mem_quietRows (bit : Bool) (x : State) (i : Instr) : i ∈ quietRows bit x ↔
    x.lc.lineActive = true ∧ recessiveAfter bit x.lc.recessiveRun = 12 ∧ i = .lineInactive := by
  simp [quietRows, mem_rowIf, and_assoc]

/-- The recessive run alone ends LINE's activity (R121). -/
theorem lineInactive_mem_sampleBit (bit : Bool) (x : State) : Instr.lineInactive ∈ (sampleBit bit x).1 ↔
    x.lc.lineActive = true ∧ recessiveAfter bit x.lc.recessiveRun = 12 := by
  have hkept (y : State) : Instr.lineInactive ∉ (keptBit bit y).1 := fun h => by
    simpa [lineStage] using keptBit_stage bit y _ h
  cases hf : x.lc.framer with
  | waitIdle => simp [sampleBit_waitIdle bit hf, mem_quietRows, mem_rowIf]
  | idle => simp [sampleBit_idle bit hf, mem_quietRows]
  | frame =>
    by_cases hi : x.lc.bitIndex = 0
    · simp [sampleBit_startBit bit hf hi, mem_quietRows]
    · simp [sampleBit_frame_kept bit hf hi, mem_quietRows, hkept]

/-- A sample brings commands of the last three stages alone. -/
theorem sampleBit_stage (bit : Bool) (x : State) (i : Instr) (h : i ∈ (sampleBit bit x).1) : 3 ≤ lineStage i := by
  have hquiet {i : Instr} (h : i ∈ quietRows bit x) : 3 ≤ lineStage i := by
    obtain ⟨-, -, rfl⟩ := (mem_quietRows bit x i).1 h
    decide
  cases hf : x.lc.framer with
  | waitIdle =>
    rw [sampleBit_waitIdle bit hf, List.mem_append, mem_rowIf] at h
    obtain h | ⟨-, rfl⟩ := h
    · exact hquiet h
    · decide
  | idle => exact hquiet (by rwa [sampleBit_idle bit hf] at h)
  | frame =>
    by_cases hi : x.lc.bitIndex = 0
    · exact hquiet (by rwa [sampleBit_startBit bit hf hi] at h)
    · rw [sampleBit_frame_kept bit hf hi, List.mem_append] at h
      obtain h | h := h
      · exact hquiet h
      · rw [keptBit_stage bit _ i h]
        decide

/-! #### The stages together -/

theorem lineMonitored_eq (x : State) : lineMonitored x = { lineDriven x with lc := { (lineDriven x).lc with
    dominantRun := if lineLevel x then 0 else (lineDriven x).lc.dominantRun + 1 } } := rfl

/-- LC of a count within a bit time (R108). -/
theorem lineDriven_within (x : State) (h : (x.lc.bitPhase + 1) % 8 ≠ 0) :
    lineDriven x = { x with lc := { x.lc with bitPhase := (x.lc.bitPhase + 1) % 8 } } := by
  unfold lineDriven
  dsimp only
  exact if_neg h

/-- LC of the first count of a bit time (R108). -/
theorem lineDriven_boundary (x : State) (h : (x.lc.bitPhase + 1) % 8 = 0) : lineDriven x = { x with lc := { x.lc with
    bitPhase := 0, bitIndex := if x.lc.framer = .frame then x.lc.bitIndex + 1 else x.lc.bitIndex
    ltx := driveLevel x (x.lc.bitIndex + 1), replyDue := false } } := by
  unfold lineDriven
  dsimp only
  rw [if_pos (by exact h)]
  simp only [mapLc, h]
  rfl

/-- The commands of one count of the line (R108 to R121). -/
theorem mem_lineTick (x : State) (i : Instr) : i ∈ (lineTick x).1 ↔
    ((lineMonitored x).lc.dominantRun = 513 ∧ i = .lineRaised) ∨
    ((x.lc.bitPhase + 1) % 8 = 0 ∧ i ∈ boundaryRows x) ∨ i ∈ idleRows (lineLevel x) (lineMonitored x) ∨
    ((x.lc.bitPhase + 1) % 8 = 4 ∧ i ∈ (sampleBit (lineLevel x) (lineMonitored x)).1) := by
  have hphase : (lineMonitored x).lc.bitPhase = (x.lc.bitPhase + 1) % 8 := by
    rw [lineMonitored_eq]
    by_cases h : (x.lc.bitPhase + 1) % 8 = 0
    · rw [lineDriven_boundary x h, h]
    · rw [lineDriven_within x h]
  have hsampled : i ∈ (lineSampled x).1 ↔
      (x.lc.bitPhase + 1) % 8 = 4 ∧ i ∈ (sampleBit (lineLevel x) (lineMonitored x)).1 := by
    rw [lineSampled, hphase]
    split <;> simp [*]
  have hbegun : i ∈ (if (x.lc.bitPhase + 1) % 8 = 0 then
      boundaryRows (mapLc (fun lc => { lc with bitPhase := (lc.bitPhase + 1) % 8 }) x) else []) ↔
      (x.lc.bitPhase + 1) % 8 = 0 ∧ i ∈ boundaryRows x := by
    have : boundaryRows (mapLc (fun lc => { lc with bitPhase := (lc.bitPhase + 1) % 8 }) x) = boundaryRows x := rfl
    rw [this]
    split <;> simp [*]
  have hraised : i ∈ (monitorTick (lineLevel x) (lineDriven x)).1 ↔
      (lineMonitored x).lc.dominantRun = 513 ∧ i = .lineRaised := by
    simp [monitorTick, mem_rowIf, lineMonitored_eq]
  rw [lineTick_eq]
  simp only [List.mem_append, hraised, hbegun, hsampled, or_assoc]

end Sys2Proof.Machine
end

section
namespace Sys2Proof.Machine

variable {s x u t : State}

/-! ### One count of the line, field by field (R108 to R114, R117, R121) -/

/-- The bit phase of the next count (R108). -/
def phaseAfter (x : State) : Nat := (x.lc.bitPhase + 1) % 8

theorem lineMonitored_within (x : State) (h : phaseAfter x ≠ 0) : (lineMonitored x).sid = x.sid ∧
    (lineMonitored x).lc = { x.lc with
      bitPhase := phaseAfter x, dominantRun := if lineLevel x then 0 else x.lc.dominantRun + 1 } := by
  rw [lineMonitored_eq, lineDriven_within x h]
  exact ⟨rfl, rfl⟩

theorem lineMonitored_boundary (x : State) (h : phaseAfter x = 0) : (lineMonitored x).lc = { x.lc with
    bitPhase := 0, bitIndex := if x.lc.framer = .frame then x.lc.bitIndex + 1 else x.lc.bitIndex
    ltx := driveLevel x (x.lc.bitIndex + 1), replyDue := false
    dominantRun := if lineLevel x then 0 else x.lc.dominantRun + 1 } := by
  rw [lineMonitored_eq, lineDriven_boundary x h]

theorem lineMonitored_framer (x : State) : (lineMonitored x).lc.framer = x.lc.framer ∧
    (lineMonitored x).lc.lrxLast = x.lc.lrxLast ∧ (lineMonitored x).lc.bitPhase = phaseAfter x ∧
    (lineMonitored x).lc.dominantRun = (if lineLevel x then 0 else x.lc.dominantRun + 1) := by
  by_cases h : phaseAfter x = 0
  · rw [lineMonitored_boundary x h, h]
    exact ⟨rfl, rfl, rfl, rfl⟩
  · rw [(lineMonitored_within x h).2]
    exact ⟨rfl, rfl, rfl, rfl⟩

/-- LC after a count on which no sample falls (R108). -/
theorem lineTick_unsampled (x : State) (h : phaseAfter x ≠ 4) :
    (lineTick x).2.lc = { (lineMonitored x).lc with lrxLast := lineLevel x } := by
  obtain ⟨-, -, hphase, -⟩ := lineMonitored_framer x
  have hs : lineSampled x = ([], lineMonitored x) := if_neg (by rw [hphase]; exact h)
  rw [lineTick_eq, hs]
  rfl

/-- LC after a count on which a sample falls (R108). -/
theorem lineTick_sampled (x : State) (h : phaseAfter x = 4) :
    (lineTick x).2.lc = { (sampleBit (lineLevel x) (lineMonitored x)).2.lc with lrxLast := lineLevel x } := by
  obtain ⟨-, -, hphase, -⟩ := lineMonitored_framer x
  have hs : lineSampled x = sampleBit (lineLevel x) (lineMonitored x) := if_pos (hphase.trans h)
  rw [lineTick_eq, hs]
  rfl

/-- What every count does to LC (R108, R111, R121). -/
theorem lineTick_always (x : State) : (lineTick x).2.lc.lrxLast = lineLevel x ∧ (lineTick x).2.lc.bitPhase = phaseAfter x ∧
    (lineTick x).2.lc.dominantRun = (if lineLevel x then 0 else x.lc.dominantRun + 1) ∧
    (lineTick x).2.lc.ltx = (lineMonitored x).lc.ltx ∧ (lineTick x).2.lc.bitIndex = (lineMonitored x).lc.bitIndex := by
  obtain ⟨-, -, hphase, hrun⟩ := lineMonitored_framer x
  by_cases h : phaseAfter x = 4
  · obtain ⟨⟨k1, k2, k3, k4⟩, -⟩ := sampleBit_kept (lineLevel x) (lineMonitored x)
    rw [lineTick_sampled x h]
    exact ⟨rfl, k1.trans hphase, k4.trans hrun, k2, k3⟩
  · rw [lineTick_unsampled x h]
    exact ⟨rfl, hphase, hrun, rfl, rfl⟩

/-- The level of LRX is the level forced, or that of the others and the own drive (R111, log 5). -/
theorem lineLevel_eq (x : State) : (∀ r, x.pins.lrx = .forced r → lineLevel x = r) ∧
    (∀ r, x.pins.lrx = .shared r → lineLevel x = (r && (lineTick x).2.lc.ltx)) := by
  obtain ⟨-, -, -, hltx, -⟩ := lineTick_always x
  have : (lineMonitored x).lc.ltx = (lineDriven x).lc.ltx := rfl
  rw [hltx, this]
  exact ⟨fun r h => by simp only [lineLevel, lrxLevel, h], fun r h => by simp only [lineLevel, lrxLevel, h]⟩

/-- Which stage brings a command of the line (R108 to R121). -/
theorem mem_lineTick_stage (x : State) (i : Instr) :
    (lineStage i = 0 → (i ∈ (lineTick x).1 ↔ (lineTick x).2.lc.dominantRun = 513 ∧ i = .lineRaised)) ∧
    (lineStage i = 1 → (i ∈ (lineTick x).1 ↔ phaseAfter x = 0 ∧ i ∈ boundaryRows x)) ∧
    (lineStage i = 2 → (i ∈ (lineTick x).1 ↔ x.lc.framer = .idle ∧
      ((x.lc.lrxLast = true ∧ lineLevel x = false ∧ i = .frameStartSeen) ∨ (phaseAfter x = 0 ∧ i = .startOpportunity)))) ∧
    (3 ≤ lineStage i → (i ∈ (lineTick x).1 ↔
      phaseAfter x = 4 ∧ i ∈ (sampleBit (lineLevel x) (lineMonitored x)).1)) := by
  obtain ⟨hframer, hlast, hphase, hrun⟩ := lineMonitored_framer x
  obtain ⟨-, -, hrun', -, -⟩ := lineTick_always x
  have hmem := mem_lineTick x i
  have hraised (h : lineStage i ≠ 0) : i ≠ .lineRaised := fun he => h (by rw [he]; rfl)
  have hbegun (h : lineStage i ≠ 1) : i ∉ boundaryRows x := fun hb => h (boundaryRows_stage x i hb)
  have hidle (h : lineStage i ≠ 2) : i ∉ idleRows (lineLevel x) (lineMonitored x) := fun hb => by
    obtain ⟨-, ⟨-, -, rfl⟩ | ⟨-, rfl⟩⟩ := (idleRows_mem _ _ _).1 hb <;> exact h rfl
  have hsample (h : lineStage i < 3) : i ∉ (sampleBit (lineLevel x) (lineMonitored x)).1 := fun hb =>
    absurd (sampleBit_stage _ _ _ hb) (by omega)
  refine ⟨fun h => ?_, fun h => ?_, fun h => ?_, fun h => ?_⟩
  · rw [hmem, hrun, hrun']
    simp [hbegun (by omega), hidle (by omega), hsample (by omega)]
  · rw [hmem]
    simp [hraised (by omega), hidle (by omega), hsample (by omega), phaseAfter]
  · rw [hmem, idleRows_mem, hframer, hlast, hphase]
    simp [hraised (by omega), hbegun (by omega), hsample (by omega)]
  · rw [hmem]
    simp [hraised (by omega), hbegun (by omega), hidle (by omega), phaseAfter]

end Sys2Proof.Machine
end

section
namespace Sys2Proof.Machine

variable {s x v t : State}

/-! ### The bit boundary of a count (R108, R109, R111, R112, R113, R118) -/

theorem ownBits_onLine (own : OwnFrame) (h : x.lc.onLine = some own) : ownBits x = some (frameBits x.sid own.frame) := by
  simp [ownBits, sending, h]

theorem ownBits_attempt (kind : FrameKind) (f : TxFrame) (ho : x.lc.onLine = none) (ha : x.lc.attempt = some kind)
    (hf : slotOf x.lc.slots kind = some f) : ownBits x = some (frameBits x.sid f) := by
  simp [ownBits, sending, ho, ha, hf]

theorem ownBits_none (ho : x.lc.onLine = none) (ha : x.lc.attempt = none) : ownBits x = none := by
  simp [ownBits, sending, ho, ha]

theorem driveLevel_recessive (n : Nat) (h : x.lc.framer ≠ .frame ∨ x.lc.txOn = false) : driveLevel x n = true := by
  unfold driveLevel
  rw [if_neg]
  obtain h | h := h <;> simp [h]

theorem driveLevel_own (n : Nat) (bits : List Bool) (hf : x.lc.framer = .frame) (ht : x.lc.txOn = true)
    (h : ownBits x = some bits) : driveLevel x n = bits.getD (n - 1) true := by
  simp [driveLevel, hf, ht, h]

theorem driveLevel_reply (n : Nat) (hf : x.lc.framer = .frame) (ht : x.lc.txOn = true) (h : ownBits x = none) :
    driveLevel x n = replyLevel x.lc := by simp [driveLevel, hf, ht, h]

/-- The commands of a bit boundary at which no reply is due (R111, R112, R117). -/
theorem mem_boundaryRows (h : x.lc.replyDue = false) (i : Instr) : i ∈ boundaryRows x ↔
    x.lc.framer = .frame ∧ x.lc.bitIndex = 9 ∧
      ((x.lc.attempt ≠ none ∧ i = .arbitrationPassed) ∨ (beaconUnderWay x.lc = true ∧ i = .beaconMarker)) := by
  unfold boundaryRows
  rw [h, if_neg (by simp)]
  split
  next hf =>
    obtain ⟨hframe, hnine⟩ : x.lc.framer = .frame ∧ x.lc.bitIndex = 9 := by simpa using hf
    simp [mem_rowIf, hframe, hnine, Option.isSome_iff_ne_none]
  next hf =>
    have : ¬(x.lc.framer = .frame ∧ x.lc.bitIndex = 9) := by simpa using hf
    simp only [List.not_mem_nil, false_iff]
    exact fun hn => this ⟨hn.1, hn.2.1⟩

/-- The commands of a bit boundary at which a reply is due (R113, R118). -/
theorem boundaryRows_reply (h : x.lc.replyDue = true) : boundaryRows x = replyRows x := if_pos h

theorem replyRows_onLine (own : OwnFrame) (h : x.lc.onLine = some own) : replyRows x =
    [.frameSuccess (!((x.lc.rxBits.drop (frameBits x.sid own.frame).length).getD 0 true))
      (!((x.lc.rxBits.drop (frameBits x.sid own.frame).length).getD 1 true))] := by
  unfold replyRows
  rw [h]

theorem replyRows_received (kind : Nat) (src : StationId) (payload : List Byte) (good ack refuse : Bool)
    (ho : x.lc.onLine = none) (h : rxStatus x.lc.rxBits = .complete kind src payload good [ack, refuse]) :
    replyRows x = [.joinLeaveReplyComplete src (if kind = 3 then .join else .leave) (!ack) (!refuse)] := by
  unfold replyRows
  rw [ho, h]

/-- The replies are the only commands of a boundary at which they are due. -/
theorem mem_replyRows (x : State) (i : Instr) (h : i ∈ replyRows x) :
    (∃ ack refuse, i = .frameSuccess ack refuse) ∨ ∃ src kind ack refuse, i = .joinLeaveReplyComplete src kind ack refuse := by
  unfold replyRows at h
  split at h
  · exact .inl ⟨_, _, List.mem_singleton.1 h⟩
  · split at h
    · exact .inr ⟨_, _, _, _, List.mem_singleton.1 h⟩
    · simp at h

/-- What a beacon under way is told by, at a sender and at a receiver (R111, R112). -/
theorem beaconUnderWay_iff (lc : LineController) :
    (∀ own, lc.onLine = some own → (beaconUnderWay lc = true ↔ frameKind own.frame = .beacon)) ∧
    (∀ kind f, lc.onLine = none → lc.attempt = some kind → slotOf lc.slots kind = some f →
      (beaconUnderWay lc = true ↔ frameKind f = .beacon)) ∧
    (lc.onLine = none → lc.attempt = none → (beaconUnderWay lc = true ↔ natOfBits (lc.rxBits.take 4) = 1)) := by
  refine ⟨fun own ho => ?_, fun kind f ho ha hf => ?_, fun ho ha => ?_⟩
  · simp [beaconUnderWay, sending, ho]
  · simp [beaconUnderWay, sending, ho, ha, hf]
  · simp [beaconUnderWay, sending, ho, ha]

/-- LC after the first count of a bit time (R108). -/
theorem lineTick_boundary (x : State) (h : phaseAfter x = 0) : (lineTick x).2.lc = { x.lc with
    bitPhase := 0, bitIndex := if x.lc.framer = .frame then x.lc.bitIndex + 1 else x.lc.bitIndex
    ltx := driveLevel x (x.lc.bitIndex + 1), replyDue := false
    dominantRun := if lineLevel x then 0 else x.lc.dominantRun + 1, lrxLast := lineLevel x } := by
  rw [lineTick_unsampled x (by omega), lineMonitored_boundary x h]

/-! ### The sample of a count (R108, R111, R114, R118, R121) -/

theorem frameBits_length (src : StationId) (f : TxFrame) : 8 ≤ (frameBits src f).length := by
  simp [frameBits, codeBits, headerBits, bitsOf]
  omega

/-- LC after a count within a bit time on which no sample falls (R108). -/
theorem lineTick_within (x : State) (h : phaseAfter x ≠ 0) (h4 : phaseAfter x ≠ 4) : (lineTick x).2.lc = { x.lc with
    bitPhase := phaseAfter x, dominantRun := if lineLevel x then 0 else x.lc.dominantRun + 1, lrxLast := lineLevel x } := by
  rw [lineTick_unsampled x h4, (lineMonitored_within x h).2]

/-- The state in which the sample of a count is taken: the bit engine and the monitor have counted (R108, R121). -/
def atSample (x v : State) : Prop :=
  v.sid = x.sid ∧ v.lc = { x.lc with bitPhase := 4, dominantRun := if lineLevel x then 0 else x.lc.dominantRun + 1 }

theorem lineMonitored_atSample (x : State) (h : phaseAfter x = 4) : atSample x (lineMonitored x) := by
  have := lineMonitored_within x (by omega)
  rwa [h] at this

/-- A sample in FRAME keeps its bit, and gives what a sender's or a receiver's bit gives (R108, R111, R114). -/
theorem lineTick_frame_kept (x : State) (h : phaseAfter x = 4) (hf : x.lc.framer = .frame) (hi : x.lc.bitIndex ≠ 0) : ∃ v : State,
    v.sid = x.sid ∧ v.lc = { x.lc with
      bitPhase := 4, dominantRun := if lineLevel x then 0 else x.lc.dominantRun + 1
      recessiveRun := recessiveAfter (lineLevel x) x.lc.recessiveRun, rxBits := x.lc.rxBits ++ [lineLevel x] } ∧
    (lineTick x).2.lc = { (keptBit (lineLevel x) v).2.lc with lrxLast := lineLevel x } ∧
    ∀ i, lineStage i = 5 → (i ∈ (lineTick x).1 ↔ i ∈ (keptBit (lineLevel x) v).1) := by
  obtain ⟨hsid, hlc⟩ := lineMonitored_atSample x h
  have hsample := sampleBit_frame_kept (x := lineMonitored x) (lineLevel x) (by rw [hlc]; exact hf) (by rw [hlc]; exact hi)
  refine ⟨bitKept (lineLevel x) (runCounted (lineLevel x) (lineMonitored x)), hsid, ?_, ?_, fun i hstage => ?_⟩
  · simp only [bitKept, runCounted, hlc]
  · rw [lineTick_sampled x h, hsample]
  · have hquiet : i ∉ quietRows (lineLevel x) (lineMonitored x) := fun hq => by
      obtain ⟨-, -, rfl⟩ := (mem_quietRows _ _ _).1 hq
      simp [lineStage] at hstage
    rw [(mem_lineTick_stage x i).2.2.2 (by omega), hsample]
    simp [h, hquiet]

/-- The stages before the sample leave the runs and the bits received (R108, R121). -/
theorem lineMonitored_runs (x : State) : (lineMonitored x).lc.recessiveRun = x.lc.recessiveRun ∧
    (lineMonitored x).lc.idleRun = x.lc.idleRun ∧ (lineMonitored x).lc.rxBits = x.lc.rxBits := by
  by_cases h : phaseAfter x = 0
  · rw [lineMonitored_boundary x h]
    exact ⟨rfl, rfl, rfl⟩
  · rw [(lineMonitored_within x h).2]
    exact ⟨rfl, rfl, rfl⟩

/-- A sample in WAIT_IDLE counts the run of recessive bits (R108). -/
theorem lineTick_waitIdle (x : State) (h : phaseAfter x = 4) (hf : x.lc.framer = .waitIdle) :
    (lineTick x).2.lc.idleRun = (if lineLevel x then x.lc.idleRun + 1 else 0) ∧
      (Instr.framerIdle ∈ (lineTick x).1 ↔ 12 ≤ (lineTick x).2.lc.idleRun) := by
  obtain ⟨-, hlc⟩ := lineMonitored_atSample x h
  have hidle : (lineMonitored x).lc.idleRun = x.lc.idleRun := by rw [hlc]
  have hsample := sampleBit_waitIdle (x := lineMonitored x) (lineLevel x) (by rw [hlc]; exact hf)
  rw [hidle] at hsample
  rw [(mem_lineTick_stage x .framerIdle).2.2.2 (by decide), lineTick_sampled x h, hsample]
  simp [h, mem_quietRows, mem_rowIf]

/-- A sample outside FRAME, and that of the start bit, keeps no bit (R108). -/
theorem lineTick_noBit (x : State) (h : phaseAfter x = 4) (hno : x.lc.framer ≠ .frame ∨ x.lc.bitIndex = 0) :
    (lineTick x).2.lc.rxBits = x.lc.rxBits := by
  obtain ⟨-, hlc⟩ := lineMonitored_atSample x h
  obtain ⟨-, -, hbits⟩ := lineMonitored_runs x
  rw [lineTick_sampled x h, ← hbits]
  cases hf : x.lc.framer with
  | waitIdle => rw [sampleBit_waitIdle _ (by rw [hlc]; exact hf)]; rfl
  | idle => rw [sampleBit_idle _ (by rw [hlc]; exact hf)]; rfl
  | frame => rw [sampleBit_startBit _ (by rw [hlc]; exact hf) (by rw [hlc]; exact hno.resolve_left fun h => h hf)]; rfl

end Sys2Proof.Machine
end

section
namespace Sys2Proof.Machine

variable {s x v t : State}

/-! ### What a kept bit gives, at a sender and at a receiver (R108, R111, R114, R118) -/

theorem mem_senderSample (bits : List Bool) (index : Nat) (bit : Bool) (x : State) (i : Instr) :
    i ∈ (senderSample bits index bit x).1 ↔
      (index ≤ 9 ∧ x.lc.attempt ≠ none ∧ x.lc.ltx = true ∧ bit = false ∧ i = .arbitrationLost) ∨
        (9 < index ∧ index ≤ bits.length ∧ x.lc.ltx ≠ bit ∧ i = .transmitFailure) := by
  unfold senderSample
  by_cases h9 : index ≤ 9
  · rw [if_pos h9]
    simp [mem_rowIf, h9, Option.isSome_iff_ne_none, and_assoc, Nat.not_lt.2 h9]
  · rw [if_neg h9]
    by_cases hl : index ≤ bits.length
    · rw [if_pos hl]
      simp [mem_rowIf, h9, hl, Nat.lt_of_not_le h9]
    · rw [if_neg hl]
      split <;> simp [h9, hl]

theorem receiverSample_formatError (h : rxStatus x.lc.rxBits = .formatError) :
    receiverSample x = ([.frameDiscarded .format], x) := by rw [receiverSample, h]

theorem receiverSample_checks (kind : Nat) (src : StationId) (payload : List Byte) (good : Bool)
    (h : rxStatus x.lc.rxBits = .complete kind src payload good []) :
    receiverSample x = ([endOfChecks x.sid kind src payload good], x) := by rw [receiverSample, h]

theorem receiverSample_replies (kind : Nat) (src : StationId) (payload : List Byte) (good ack refuse : Bool)
    (h : rxStatus x.lc.rxBits = .complete kind src payload good [ack, refuse]) : receiverSample x =
      if (kind = 3 ∨ kind = 4) ∧ x.lc.failed = false then ([], repliesSampled x) else ([.refusalBitSampled], x) := by
  rw [receiverSample, h]
  by_cases hr : (kind = 3 ∨ kind = 4) ∧ x.lc.failed = false
  · rw [if_pos hr]
    exact if_pos (by simpa [repliesRead] using hr)
  · rw [if_neg hr]
    exact if_neg (by simpa [repliesRead] using hr)

/-- A sample in FRAME keeps the level received (R108). -/
theorem lineTick_rxBits (x : State) (h : phaseAfter x = 4) (hf : x.lc.framer = .frame) (hi : x.lc.bitIndex ≠ 0) :
    (lineTick x).2.lc.rxBits = x.lc.rxBits ++ [lineLevel x] := by
  obtain ⟨v, -, hv, hkept, -⟩ := lineTick_frame_kept x h hf hi
  have hbits : v.lc.rxBits = x.lc.rxBits ++ [lineLevel x] := by rw [hv]
  rw [hkept]
  obtain hs | hs := keptBit_state (lineLevel x) v <;> rw [hs] <;> exact hbits

/-- A sender's sample in FRAME: arbitration lost, a mismatch after it, or the end of its refusal bit (R111, R118). -/
theorem lineTick_sender (x : State) (bits : List Bool) (h : phaseAfter x = 4) (hf : x.lc.framer = .frame)
    (hi : x.lc.bitIndex ≠ 0) (hb : ownBits x = some bits) :
    (∀ i, lineStage i = 5 → (i ∈ (lineTick x).1 ↔
      (x.lc.bitIndex ≤ 9 ∧ x.lc.attempt ≠ none ∧ x.lc.ltx = true ∧ lineLevel x = false ∧ i = .arbitrationLost) ∨
        (9 < x.lc.bitIndex ∧ x.lc.bitIndex ≤ bits.length ∧ x.lc.ltx ≠ lineLevel x ∧ i = .transmitFailure))) ∧
    (9 < x.lc.bitIndex → x.lc.bitIndex = bits.length + 2 → (lineTick x).2.lc.replyDue = true ∧
      (lineTick x).2.lc.framer = .waitIdle ∧ (lineTick x).2.lc.idleRun = 0) ∧
    (x.lc.bitIndex ≠ bits.length + 2 → (lineTick x).2.lc.replyDue = x.lc.replyDue ∧ (lineTick x).2.lc.framer = .frame) := by
  obtain ⟨v, hvsid, hv, hkept, hrows⟩ := lineTick_frame_kept x h hf hi
  have hvb : ownBits v = some bits := by rw [← hb, ownBits, ownBits, hvsid, hv]; rfl
  have hindex : v.lc.bitIndex = x.lc.bitIndex := by rw [hv]
  have hsender := keptBit_sender (lineLevel x) bits hvb
  rw [hindex] at hsender
  refine ⟨fun i hstage => ?_, fun h9 hlen => ?_, fun hlen => ?_⟩
  · rw [hrows i hstage, hsender, mem_senderSample, hv]
  · rw [hkept, hsender, senderSample_state, if_pos ⟨h9, hlen⟩]
    exact ⟨rfl, rfl, rfl⟩
  · rw [hkept, hsender, senderSample_state, if_neg fun h => hlen h.2, hv]
    exact ⟨rfl, hf⟩

/-- A receiver's sample in FRAME: a format error, the end of the checks, or the end of the refusal bit (R108, R113, R114). -/
theorem lineTick_receiver (x : State) (h : phaseAfter x = 4) (hf : x.lc.framer = .frame) (hi : x.lc.bitIndex ≠ 0)
    (hb : ownBits x = none) :
    (rxStatus (x.lc.rxBits ++ [lineLevel x]) = .formatError → Instr.frameDiscarded .format ∈ (lineTick x).1) ∧
    (∀ kind src payload good, rxStatus (x.lc.rxBits ++ [lineLevel x]) = .complete kind src payload good [] →
      endOfChecks x.sid kind src payload good ∈ (lineTick x).1) ∧
    ∀ kind src payload good ack refuse,
      rxStatus (x.lc.rxBits ++ [lineLevel x]) = .complete kind src payload good [ack, refuse] →
      ((kind = 3 ∨ kind = 4) ∧ x.lc.failed = false → (lineTick x).2.lc.replyDue = true ∧
        (lineTick x).2.lc.framer = .waitIdle ∧ (lineTick x).2.lc.idleRun = 0 ∧ Instr.refusalBitSampled ∉ (lineTick x).1) ∧
      (¬((kind = 3 ∨ kind = 4) ∧ x.lc.failed = false) → Instr.refusalBitSampled ∈ (lineTick x).1) := by
  obtain ⟨v, hvsid, hv, hkept, hrows⟩ := lineTick_frame_kept x h hf hi
  have hvb : ownBits v = none := by rw [← hb, ownBits, ownBits, hvsid, hv]; rfl
  have hbits : v.lc.rxBits = x.lc.rxBits ++ [lineLevel x] := by rw [hv]
  have hfailed : v.lc.failed = x.lc.failed := by rw [hv]
  rw [keptBit_receiver (lineLevel x) hvb] at hkept hrows
  rw [← hbits, ← hfailed, ← hvsid]
  refine ⟨fun hrx => ?_, fun kind src payload good hrx => ?_, fun kind src payload good ack refuse hrx => ?_⟩
  · rw [hrows _ rfl, receiverSample_formatError hrx]
    exact List.mem_singleton.2 rfl
  · rw [hrows _ (endOfChecks_stage _ _ _ _ _), receiverSample_checks kind src payload good hrx]
    exact List.mem_singleton.2 rfl
  · rw [hkept, hrows _ rfl, receiverSample_replies kind src payload good ack refuse hrx]
    refine ⟨fun hread => ?_, fun hno => ?_⟩
    · rw [if_pos hread]
      exact ⟨rfl, rfl, rfl, by simp⟩
    · rw [if_neg hno]
      exact List.mem_singleton.2 rfl

/-! #### One count of the framer -/

/-- Only the boundary after the arbitration field passes it, or is a marker (R111, R112). -/
theorem marker_not_mem (h : x.lc.framer ≠ .frame ∨ x.lc.bitIndex ≠ 9 ∨ x.lc.replyDue = true) :
    Instr.beaconMarker ∉ boundaryRows x ∧ Instr.arbitrationPassed ∉ boundaryRows x := by
  cases hdue : x.lc.replyDue with
  | true =>
    rw [boundaryRows_reply hdue]
    have hnot (i : Instr) (hm : i ∈ replyRows x) : i ≠ .beaconMarker ∧ i ≠ .arbitrationPassed := by
      obtain ⟨_, _, rfl⟩ | ⟨_, _, _, _, rfl⟩ := mem_replyRows x i hm <;> simp
    exact ⟨fun hm => (hnot _ hm).1 rfl, fun hm => (hnot _ hm).2 rfl⟩
  | false =>
    have hno : ¬(x.lc.framer = .frame ∧ x.lc.bitIndex = 9) := fun ⟨hf, h9⟩ => by simp [hf, h9, hdue] at h
    rw [mem_boundaryRows hdue, mem_boundaryRows hdue]
    exact ⟨fun hm => hno ⟨hm.1, hm.2.1⟩, fun hm => hno ⟨hm.1, hm.2.1⟩⟩

/-- No reply is reported at a boundary at which none is due (R113, R118). -/
theorem reply_not_mem (h : x.lc.replyDue = false) (i : Instr) (hm : i ∈ boundaryRows x) :
    i = .arbitrationPassed ∨ i = .beaconMarker := by
  obtain ⟨-, -, ⟨-, rfl⟩ | ⟨-, rfl⟩⟩ := (mem_boundaryRows h i).1 hm
  · exact .inl rfl
  · exact .inr rfl


/-- A command of the line falls on a count exactly when the line's part of it brings it. -/
theorem mem_runningTick_line (i : Instr) (s : State) (h : rowGroup i = 2) :
    i ∈ (runningTick s).pending ↔ i ∈ (lineTick (timed s)).1 := by
  have hpin : i ∉ (pinTick s).1 := fun hm => by simpa [h] using pinTick_rows s i hm
  have htime : i ∉ (timePart (pinTick s).2).1 := fun hm => by simpa [h] using timePart_rows (pinTick s).2 i hm
  have hport (y : State) : i ∉ (portTick y).1 := fun hm => by simpa [h] using portTick_rows y i hm
  have hmail : i ≠ .mailCompletion := fun he => by simp [he, rowGroup] at h
  simp only [mem_runningTick, hpin, htime, hport, hmail, and_false, false_or, or_false]
  rfl

theorem timed_lrx (s : State) : (timed s).pins.lrx = (s.stimulus.headD s.pins).lrx := by
  unfold timed
  rw [timePart_frame]
  rfl

/-- Settles O47: the framer's commands by `framerCommands_effects`, and one count stage by stage: `lineTick_always`,
`lineTick_boundary`, `lineTick_within` and `lineTick_frame_kept`, with the queue of `mem_lineTick_stage`. -/
theorem framerCommands : Obligations.FramerCommands := by
  refine ⟨framerCommands_effects, fun s lrx hone hlrx => ⟨runningTick s, lineLevel (timed s), step_of_oneCount s hone, ?_⟩⟩
  have hpend (i : Instr) (hg : rowGroup i = 2) := mem_runningTick_line i s hg
  have hlc := runningTick_lc s
  obtain ⟨hsid, -, -, hold, -, -⟩ := timed_frame s
  have hpins := (timed_lrx s).trans hlrx.symm
  rw [← hold, ← hsid]
  generalize runningTick s = t at *
  generalize timed s = x at *
  clear hsid hold
  obtain ⟨hforced, hshared⟩ := lineLevel_eq x
  obtain ⟨hlast, hphase, hrun, hltx, hindex⟩ := lineTick_always x
  obtain ⟨kslots, ktx, konLine, kattempt, kfail, kactive⟩ := lineTick_lineKept x
  rw [← hlc] at hshared hlast hphase hrun hltx hindex kslots ktx konLine kattempt kfail kactive
  have m0 := (hpend .lineRaised rfl).trans ((mem_lineTick_stage x _).1 rfl)
  have m1 (i : Instr) (hg : rowGroup i = 2) (h : lineStage i = 1) := (hpend i hg).trans ((mem_lineTick_stage x i).2.1 h)
  have m2 (i : Instr) (hg : rowGroup i = 2) (h : lineStage i = 2) := (hpend i hg).trans ((mem_lineTick_stage x i).2.2.1 h)
  have m3 (i : Instr) (hg : rowGroup i = 2) (h : 3 ≤ lineStage i) := (hpend i hg).trans ((mem_lineTick_stage x i).2.2.2 h)
  rw [hphase]
  refine ⟨fun r h => hforced r (hpins.trans h), fun r h => hshared r (hpins.trans h), hlast, rfl, kslots, ktx, konLine,
    kattempt, kfail, kactive, hrun, ?raised, ?seen, ?opportunity, fun hno => ?within, fun hno => ?marker, fun hno => ?noReply,
    fun hno hno' => ?still, fun hzero => ?boundary, fun hno => ?unsampled, fun hfour => ?sampled⟩
  case raised => rw [m0, ← hlc]; simp
  case seen => rw [m2 _ rfl rfl]; simp
  case opportunity => rw [m2 _ rfl rfl]; simp
  case within =>
    rw [hltx, hindex, (lineMonitored_within x hno).2]
    exact ⟨rfl, rfl⟩
  case marker =>
    rw [m1 _ rfl rfl, m1 _ rfl rfl]
    obtain hno | hno := hno
    · exact ⟨fun h => hno h.1, fun h => hno h.1⟩
    · obtain ⟨hmarker, hpassed⟩ := marker_not_mem hno
      exact ⟨fun h => hmarker h.2, fun h => hpassed h.2⟩
  case noReply =>
    have hnot (i : Instr) (hm : phaseAfter x = 0 ∧ i ∈ boundaryRows x) : i = .arbitrationPassed ∨ i = .beaconMarker :=
      reply_not_mem (hno.resolve_left fun h => h hm.1) i hm.2
    exact ⟨fun _ _ h => by simpa using hnot _ ((m1 _ rfl rfl).1 h), fun _ _ _ _ h => by simpa using hnot _ ((m1 _ rfl rfl).1 h)⟩
  case still =>
    rw [hlc, lineTick_within x hno hno']
    exact ⟨rfl, rfl⟩
  case boundary =>
    rw [lineTick_boundary x hzero] at hlc
    refine ⟨by rw [hlc], by rw [hlc], by rw [hlc], fun h => ?_, fun f hf htx hsend => ?_, fun hf htx ho ha => ?_,
      fun hdue hf h9 => ?_, fun own hdue ho => ?_, fun kind src payload good ack refuse hdue ho hrx => ?_⟩
    · rw [hlc]
      exact driveLevel_recessive _ h
    · have hbits : ownBits x = some (frameBits x.sid f) := by
        obtain ⟨own, ho, rfl⟩ | ⟨ho, kind, ha, hs⟩ := hsend
        · exact ownBits_onLine own ho
        · exact ownBits_attempt kind f ho ha hs
      rw [hlc]
      exact driveLevel_own _ _ hf htx hbits
    · rw [hlc]
      exact driveLevel_reply _ hf htx (ownBits_none ho ha)
    · obtain ⟨own, sends, receives⟩ := beaconUnderWay_iff x.lc
      have hpassed : Instr.arbitrationPassed ∈ t.pending ↔ x.lc.attempt ≠ none := by
        rw [m1 _ rfl rfl, mem_boundaryRows hdue]
        simp [hzero, hf, h9]
      have hmarker : Instr.beaconMarker ∈ t.pending ↔ beaconUnderWay x.lc = true := by
        rw [m1 _ rfl rfl, mem_boundaryRows hdue]
        simp [hzero, hf, h9]
      exact ⟨hpassed, fun o ho => hmarker.trans (own o ho), fun kind f ho ha hs => hmarker.trans (sends kind f ho ha hs),
        fun ho ha => hmarker.trans (receives ho ha)⟩
    · rw [m1 _ rfl rfl, boundaryRows_reply hdue, replyRows_onLine own ho]
      exact ⟨hzero, List.mem_singleton.2 rfl⟩
    · rw [m1 _ rfl rfl, boundaryRows_reply hdue, replyRows_received kind src payload good ack refuse ho hrx]
      exact ⟨hzero, List.mem_singleton.2 rfl⟩
  case unsampled =>
    have hmem (i : Instr) (hg : rowGroup i = 2) (h : 3 ≤ lineStage i) : i ∉ t.pending := fun hm => hno ((m3 i hg h).1 hm).1
    obtain ⟨hrec, hidle, hbits⟩ := lineMonitored_runs x
    rw [hlc, lineTick_unsampled x hno]
    exact ⟨hrec, hidle, hbits, hmem _ rfl (by decide), hmem _ rfl (by decide), hmem _ rfl (by decide)⟩
  case sampled =>
    obtain ⟨-, hrec⟩ := sampleBit_kept (lineLevel x) (lineMonitored x)
    rw [(lineMonitored_runs x).1] at hrec
    have hrecessive : t.lc.recessiveRun = recessiveAfter (lineLevel x) x.lc.recessiveRun := by
      rw [hlc, lineTick_sampled x hfour]
      exact hrec
    have hactive : (lineMonitored x).lc.lineActive = x.lc.lineActive := by rw [(lineMonitored_atSample x hfour).2]
    refine ⟨hrecessive, ?_, fun hf => ?_, fun hno => ?_, fun hf hi => ?_⟩
    · rw [m3 _ rfl (by decide), lineInactive_mem_sampleBit, (lineMonitored_runs x).1, hactive, ← hrecessive]
      simp [hfour]
    · rw [hpend _ rfl, hlc]
      exact lineTick_waitIdle x hfour hf
    · rw [hlc]
      exact lineTick_noBit x hfour hno
    · have hbits : t.lc.rxBits = x.lc.rxBits ++ [lineLevel x] := by rw [hlc, lineTick_rxBits x hfour hf hi]
      rw [hbits, hlc]
      refine ⟨rfl, fun own ho h10 => ?_, fun kind f ho ha hs h9 => ?_, fun kind src payload good ho ha hrx => ?_,
        fun own ho => ?_, fun ho ha => ?_⟩
      · obtain ⟨hrows, -, -⟩ := lineTick_sender x _ hfour hf hi (ownBits_onLine own ho)
        rw [hpend _ rfl, hrows _ rfl]
        simp [show ¬x.lc.bitIndex ≤ 9 by omega, show 9 < x.lc.bitIndex by omega]
      · obtain ⟨hrows, -, -⟩ := lineTick_sender x _ hfour hf hi (ownBits_attempt kind f ho ha hs)
        rw [hpend _ rfl, hrows _ rfl]
        simp [h9, ha]
      · obtain ⟨-, checks, -⟩ := lineTick_receiver x hfour hf hi (ownBits_none ho ha)
        exact (hpend _ (endOfChecks_row _ _ _ _ _)).2 (checks kind src payload good hrx)
      · obtain ⟨hrows, replies, goesOn⟩ := lineTick_sender x _ hfour hf hi (ownBits_onLine own ho)
        have hlength := frameBits_length x.sid own.frame
        refine ⟨fun hlen => replies (by omega) hlen, goesOn, ?_⟩
        rw [hpend _ rfl, hrows _ rfl]
        simp
      · obtain ⟨formatError, -, replies⟩ := lineTick_receiver x hfour hf hi (ownBits_none ho ha)
        rw [hpend _ rfl, hpend _ rfl]
        refine ⟨formatError, fun kind src payload good ack refuse hrx => ?_⟩
        obtain ⟨read, unread⟩ := replies kind src payload good ack refuse hrx
        exact ⟨fun hkind hok => read ⟨hkind, hok⟩, fun hother => unread fun h =>
          hother.elim (fun hk => h.1.elim hk.1 hk.2) fun hfail => by simp [h.2] at hfail⟩

end Sys2Proof.Machine
end

section
namespace Sys2Proof.Machine

/-! ### The laws of own beacons and of a LEAVE that stays on the line (R28, R33, R118)

No slot is filled while the transmitter is off, so that the LEAVE of R28 does not take the place of one on the line. -/

/-- A LEAVE of the station's own on the line. -/
def leaveOnLine (stale : Bool) : OwnFrame := { frame := .leave, returnable := true, restarted := false, stale := stale }

/-- A JOINING station with its transmitter off, a LEAVE on the line that can come back to its slot, and a LEAVE command. -/
def leavesWhileOff : State :=
  { State.reset with
    pending := [.leave []]
    mc := { Membership.reset with station := .joining }
    lc := { LineController.reset with onLine := some (leaveOnLine false) } }

theorem leavesWhileOff_laws :
    roleLaw leavesWhileOff ∧ recordLaw leavesWhileOff ∧ ownBeaconLaw leavesWhileOff ∧ slotLaw leavesWhileOff := by
  refine ⟨?role, ?record, ⟨fun _ => ⟨fun b hb => ?_, fun own b ho _ _ hf => ?_⟩, fun own ho hd => ?_⟩, fun kind f hf => ?_⟩
  case role => simp [roleLaw, leavesWhileOff, Membership.reset, slotState]
  case record => simp [recordLaw, leavesWhileOff, Membership.reset, slotState]
  · cases hb
  · cases ho; cases hf
  · cases ho; simp [leaveOnLine] at hd
  · cases kind <;> cases hf

/-- Its LEAVE command makes the outcome of the LEAVE on the line one that does not count, and leaves the frame returnable. -/
theorem leavesWhileOff_stale : ∃ t, step leavesWhileOff = .next t ∧ t.lc.onLine = some (leaveOnLine true) := ⟨_, rfl, rfl⟩

/-- Refutes O57: the law of own beacons is not kept at `leavesWhileOff`, a state that meets the four laws and that no run
reaches, as the transmitter's turning off makes a frame on the line not returnable. -/
theorem not_roleAndRecordLawsKept : ¬ Obligations.RoleAndRecordLawsKept := by
  intro h
  obtain ⟨t, hstep, hline⟩ := leavesWhileOff_stale
  obtain ⟨hrole, hrecord, hbeacon, hslot⟩ := leavesWhileOff_laws
  obtain ⟨-, -, ⟨-, hcounts⟩, -⟩ := (h leavesWhileOff t hstep).1 hrole hrecord hbeacon hslot
  exact absurd (hcounts _ hline (.inl rfl)) (by decide)

end Sys2Proof.Machine
end

section
namespace Sys2Proof.Machine

variable {s x t : State}

/-! ### MC's slots emptied (R21, R33) -/

/-- The kinds whose slots MC owns (R116). -/
def mcKind : FrameKind → Bool
  | .trip | .mail => false
  | .beacon | .join | .leave | .status => true

/-- A frame of MC's own on the line does not come back, and its outcome does not count (R21, R33, R118). -/
def mcFrameLeft (own : Option OwnFrame) : Option OwnFrame :=
  own.map fun o => if mcKind (frameKind o.frame) then { o with returnable := false, stale := true } else o

/-- Whether the attempt under way is of a kind whose slot MC owns (R117). -/
def mcAttempt (lc : LineController) : Bool := lc.attempt.any mcKind

theorem emptyMcSlots_lc (x : State) : (emptyMcSlots false x).lc = { x.lc with
    slots := { TxSlots.empty with trip := x.lc.slots.trip, mail := x.lc.slots.mail }
    onLine := mcFrameLeft x.lc.onLine
    attempt := if mcAttempt x.lc then none else x.lc.attempt
    ltx := if mcAttempt x.lc then true else x.lc.ltx } := by
  have onLine : (emptyMcSlots false x).lc.onLine = mcFrameLeft x.lc.onLine := by
    cases ho : x.lc.onLine with
    | none => simp [emptyMcSlots, removeBeacon, emptySlot, ho, notReturnable, staleOwn, mcFrameLeft]
    | some own =>
      cases hk : frameKind own.frame <;>
        simp [emptyMcSlots, removeBeacon, emptySlot, ho, notReturnable, staleOwn, mcFrameLeft, mcKind, hk]
  have attempt : (emptyMcSlots false x).lc.attempt = (if mcAttempt x.lc then none else x.lc.attempt) ∧
      (emptyMcSlots false x).lc.ltx = if mcAttempt x.lc then true else x.lc.ltx := by
    cases ha : x.lc.attempt with
    | none => simp [emptyMcSlots, removeBeacon, emptySlot, ha, mcAttempt]
    | some kind => cases kind <;> simp [emptyMcSlots, removeBeacon, emptySlot, ha, mcAttempt, mcKind]
  obtain ⟨attempt, ltx⟩ := attempt
  rw [← onLine, ← attempt, ← ltx]
  rfl

/-- MC's slots emptied are LC's alone, but for the deadline of the beacon that is gone. -/
theorem emptyMcSlots_blocks (keepLeave : Bool) (x : State) : emptyMcSlots keepLeave x =
    { x with mc := { x.mc with beaconDeadline := false }, lc := (emptyMcSlots keepLeave x).lc } := by
  cases keepLeave <;> simp [emptyMcSlots, removeBeacon, emptySlot, mapLc, mapMc]

/-! ### START (R21, R22) -/

theorem startListening_eq (x : State) : startListening x = { x with
    mc := { x.mc with station := .listening, listenTimer := some 0, beaconDeadline := false }
    pcu := { x.pcu with output := .off }
    lc := (emptyMcSlots false x).lc } := by
  rw [startListening, setStation, regate_eq_off (by simp [gateOpen, slotState]), emptyMcSlots_blocks]
  rfl

/-- Settles O10: entering LISTENING empties MC's slots, by `emptyMcSlots_lc`, and has no slot of the carrier. -/
theorem startListens : Obligations.StartListens := by
  intro payload s hr
  refine ⟨fun hs => ?_, fun hs hp => ?_, fun hs => ?_⟩
  · exact exec_high hr (by simp only [exec, execStart, if_neg hs]; rfl)
  · exact exec_high hr (by simp only [exec, execStart, if_pos hs, withoutPayload_cons hp]; rfl)
  have hlc := emptyMcSlots_lc s
  refine ⟨answer .accepted (startListening s), exec_high hr (by simp only [exec, execStart, if_pos hs, withoutPayload_nil]),
    by rw [startListening_eq, answer_eq]; rfl, ?_⟩
  rw [startListening_eq, answer_eq]
  dsimp only
  rw [hlc]
  dsimp only
  refine ⟨rfl, fun ha => ?_, fun hn ht hm => ?_, fun ho => by simp [mcFrameLeft, ho], fun own ho hk => ?_, fun own ho ht hm => ?_⟩
  · rcases ha with ha | ha | ha <;> simp [mcAttempt, ha, mcKind]
  · obtain ⟨kind, ha⟩ := Option.ne_none_iff_exists'.1 hn
    rw [ha] at ht hm
    cases kind with
    | trip => exact absurd rfl ht
    | mail => exact absurd rfl hm
    | _ => simp [mcAttempt, ha, mcKind]
  · rcases hk with hk | hk <;> simp [mcFrameLeft, ho, hk, mcKind]
  · cases hk : frameKind own.frame with
    | trip => exact absurd hk ht
    | mail => exact absurd hk hm
    | _ => simp [mcFrameLeft, ho, hk, mcKind]

end Sys2Proof.Machine
end

section
namespace Sys2Proof.Machine

variable {s x t : State} {src : StationId}

/-! ### The source of a good frame is reported (R37) -/

theorem sourceReport_blocks (src : StationId) (x : State) :
    sourceReport src x = { x with mc := { x.mc with roster := (sourceReport src x).mc.roster } } := by
  unfold sourceReport mapEntry
  split
  · split <;> rfl
  · rfl

theorem mapEntry_roster (id : StationId) (f : RosterEntry → RosterEntry) (x : State) (j : StationId) :
    (mapEntry id f x).mc.roster[j.val] =
      if j = id ∧ id ≠ x.sid then f x.mc.roster[id.val] else x.mc.roster[j.val] := by
  unfold mapEntry
  by_cases hid : id = x.sid
  · simp [hid]
  · simp only [hid, if_false, mapMc_mc, roster_set, ne_eq, not_false_eq_true, and_true]

theorem sourceReport_roster (src : StationId) (x : State) (id : StationId) :
    (sourceReport src x).mc.roster[id.val] = heardRoster src x id := by
  unfold sourceReport heardRoster
  by_cases hl : onLineState x.mc.station = true
  · rw [if_pos hl, mapEntry_roster]
    by_cases hid : id = src
    · simp only [hid, hl, and_true, true_and]
    · simp only [hid, false_and]
      rfl
  · rw [if_neg hl]
    simp [hl]

/-- What the owner of a received frame may have changed: the source's roster entry, TC, MU and the event set (R37). -/
structure Heard (src : StationId) (s t : State) : Prop where
  host : hostKept s t
  tb : t.tb = s.tb
  pcu : t.pcu = s.pcu
  lc : t.lc = s.lc
  mc : t.mc = { s.mc with roster := t.mc.roster }
  others : ∀ id : StationId, id ≠ src → t.mc.roster[id.val] = s.mc.roster[id.val]

theorem heard_sourceReport (src : StationId) (s : State) : Heard src s (sourceReport src s) := by
  rw [sourceReport_blocks]
  refine ⟨⟨rfl, rfl, rfl, rfl, rfl, rfl⟩, rfl, rfl, rfl, rfl, fun id hid => ?_⟩
  exact (sourceReport_roster src s id).trans (if_neg fun h => hid h.1)

theorem heard_mapEntry (f : RosterEntry → RosterEntry) (h : Heard src s x) : Heard src s (mapEntry src f x) := by
  have roster (id : StationId) (hid : id ≠ src) : (mapEntry src f x).mc.roster[id.val] = s.mc.roster[id.val] := by
    rw [mapEntry_roster, if_neg fun h => hid h.1, h.others id hid]
  refine ⟨hostKept_trans h.host (peersMoved_mapEntry src f x).host, ?_, ?_, ?_, ?_, roster⟩
  · exact (peersMoved_mapEntry src f x).tb.trans h.tb
  · exact (peersMoved_mapEntry src f x).pcu.trans h.pcu
  · simp only [mapEntry_frame]
    exact h.lc
  · rw [(peersMoved_mapEntry src f x).mc, h.mc]

/-- An owner that leaves the roster and the time alone. -/
theorem Heard.blocks (h : Heard src s x) (host : hostKept x t) (htb : t.tb = x.tb) (hpcu : t.pcu = x.pcu)
    (hlc : t.lc = x.lc) (hmc : t.mc = x.mc) : Heard src s t where
  host := hostKept_trans h.host host
  tb := htb.trans h.tb
  pcu := hpcu.trans h.pcu
  lc := hlc.trans h.lc
  mc := by rw [hmc]; exact h.mc
  others := by rw [hmc]; exact h.others

/-- With its reply bits planned, a frame has been heard (R113). -/
theorem heardFrom_planReply (ack refuse : Bool) (h : Heard src s x) :
    heardFrom src ack refuse s (planReply ack refuse x) :=
  ⟨h.host, h.tb, h.pcu, by rw [← h.lc]; rfl, h.mc, h.others⟩

/-! ### STATUS (R39) -/

/-- Settles O44: the entry of the source takes the report, after `sourceReport` has set its silence count and its epoch. -/
theorem statusReceived : Obligations.StatusReceived := by
  intro src status s hr
  refine ⟨_, goes_high s _ hr, ?_⟩
  by_cases hg : groupState s.mc.station = true
  · simp only [if_pos hg]
    have hon : onLineState s.mc.station = true := by
      cases hst : s.mc.station <;> simp_all [groupState, onLineState]
    refine ⟨heardFrom_planReply _ _ (heard_mapEntry _ (heard_sourceReport src s)), by simp, by simp, by simp, ?_, ?_, ?_⟩
    · intro hs _
      simp only [planReply_frame, mapEntry_roster, sourceReport_roster]
      simp [hs, heardRoster, hon]
    · intro _ hst
      simp [groupState, hst] at hg
    · intro h
      rcases h with h | h
      · simp [mapEntry_roster, sourceReport_roster, heardRoster, h]
      · simp [hon] at h
  · simp only [if_neg hg]
    refine ⟨heardFrom_planReply _ _ (heard_sourceReport src s), by simp, by simp, by simp, ?_, ?_, ?_⟩
    · intro _ hst
      rcases hst with hst | hst | hst <;> simp [groupState, hst] at hg
    · intro hs hst
      simp [sourceReport_roster, heardRoster, hs, hst, onLineState]
    · intro h
      rcases h with h | h <;> simp [sourceReport_roster, heardRoster, h]

/-! ### TRIP and LEAVE (R102) -/

theorem appendOrigin_eq (id : StationId) (origins : List StationId) : appendOrigin id origins =
    if id ∈ origins ∨ 8 ≤ origins.length then origins else origins ++ [id] := by
  simp [appendOrigin]

/-- Settles O46: TC alone acts on a TRIP frame, and no block on a LEAVE before its reply bits. -/
theorem tripAndLeaveReceived : Obligations.TripAndLeaveReceived := by
  intro src cause epoch s hr
  refine ⟨_, _, goes_high s _ hr, ?_, ?_, ?_, ?_, ?_, goes_high s _ hr,
    heardFrom_planReply _ _ (heard_sourceReport src s), ?_, ?_, ?_, ?_⟩
  · refine heardFrom_planReply _ _ ?_
    split
    · exact heard_sourceReport src s
    · exact (heard_sourceReport src s).blocks ⟨rfl, rfl, rfl, rfl, rfl, rfl⟩ rfl rfl rfl rfl
  · simp only [planReply_frame]; split <;> simp
  · simp only [planReply_frame]; split <;> simp
  · simp only [planReply_frame]; split <;> simp [sourceReport_roster]
  · simp only [planReply_frame]
    by_cases ha : s.tc.trip = .armed
    · simp only [ha, if_true, true_or]
      simp [← ha]
    · simp [ha, appendOrigin_eq]
  · simp
  · simp
  · simp [sourceReport_roster]
  · simp

/-! ### MAIL (R131) -/

/-- A mail in buffer A, or in B with A full, which arrived later than the other (R131). -/
theorem storeMail_eq (mail : InMail) (mu : MailUnit) : storeMail mail mu = { mu with
    filter := mu.filter.set mail.source.val (some mail.ticket)
    bufA := if mu.bufA = none then some mail else mu.bufA
    bufB := if mu.bufA = none then mu.bufB else some mail
    aLater := decide (mu.bufA = none)
    storedNow := if mu.storeDue then some mail.source else mu.storedNow, storeDue := false } := by
  cases h : mu.bufA <;> simp [storeMail, h]

theorem takeInMail_duplicate (mail : InMail) (h : x.mu.filter[mail.source.val] = some mail.ticket) :
    takeInMail mail x = planReply true false x := if_pos h

theorem takeInMail_stored (mail : InMail) (h : x.mu.filter[mail.source.val] ≠ some mail.ticket)
    (hb : x.mu.bufA = none ∨ x.mu.bufB = none) :
    takeInMail mail x = planReply true false (post .mailIn (mapMu (storeMail mail) x)) := by
  simp [takeInMail, h, hb]

theorem takeInMail_refused (mail : InMail) (h : x.mu.filter[mail.source.val] ≠ some mail.ticket)
    (ha : x.mu.bufA ≠ none) (hb : x.mu.bufB ≠ none) : takeInMail mail x =
    planReply false true (post .mailOverflow (mapMu (fun mu => { mu with overflow := true }) x)) := by
  simp [takeInMail, h, ha, hb]

/-- Settles O45: the three cases of R131 by `takeInMail`, after the source has been reported. -/
theorem mailReceived : Obligations.MailReceived := by
  intro src ticket data s hr
  have heard := heard_sourceReport src s
  have hmu : (sourceReport src s).mu = s.mu := by simp
  have hlp : (sourceReport src s).lp = s.lp := by simp
  have htc : (sourceReport src s).tc = s.tc := by simp
  have roster := sourceReport_roster src s src
  have other : ∃ u, exec (.mailForOtherDestination src) s = .next u ∧ heardFrom src false false s u ∧
      u.mc.roster[src.val] = heardRoster src s src ∧ u.tc = s.tc ∧ u.mu = s.mu ∧ u.lp = s.lp :=
    ⟨_, goes_high s _ hr, heardFrom_planReply _ _ heard, roster, htc, hmu, hlp⟩
  by_cases hg : groupState s.mc.station = true
  case neg =>
    refine ⟨_, false, false, goes_high s _ hr, ?_⟩
    rw [if_neg hg]
    exact ⟨heardFrom_planReply _ _ heard, htc, roster, other, fun _ => ⟨rfl, rfl, hmu, hlp⟩, fun h => absurd h hg,
      fun h => absurd h hg, fun h => absurd h hg⟩
  by_cases hf : s.mu.filter[src.val] = some ticket
  · refine ⟨_, true, false, goes_high s _ hr, ?_⟩
    rw [if_pos hg, takeInMail_duplicate _ (by rw [hmu]; exact hf)]
    exact ⟨heardFrom_planReply _ _ heard, htc, roster, other, fun h => absurd h (by simp [hg]),
      fun _ _ => ⟨rfl, rfl, hmu, hlp⟩, fun _ h => absurd hf h, fun _ h => absurd hf h⟩
  by_cases hb : s.mu.bufA = none ∨ s.mu.bufB = none
  · refine ⟨_, true, false, goes_high s _ hr, ?_⟩
    rw [if_pos hg, takeInMail_stored _ (by rw [hmu]; exact hf) (by rw [hmu]; exact hb)]
    refine ⟨heardFrom_planReply _ _ (heard.blocks ⟨rfl, rfl, rfl, rfl, rfl, rfl⟩ rfl rfl rfl rfl), htc, roster, other,
      fun h => absurd h (by simp [hg]), fun _ h => absurd h hf, fun _ _ _ => ⟨rfl, rfl, ?_, ?_⟩, fun _ _ ha hb' => ?_⟩
    · rw [eventsAdded, ← hlp]
      rfl
    · simp only [planReply_frame, post_frame, mapMu_mu, hmu, storeMail_eq]
      refine ⟨trivial, fun ha => ?_, fun ha => ?_⟩ <;> simp [ha]
    · exact absurd hb (by simp [ha, hb'])
  · obtain ⟨ha, hb⟩ := not_or.1 hb
    refine ⟨_, false, true, goes_high s _ hr, ?_⟩
    rw [if_pos hg, takeInMail_refused _ (by rw [hmu]; exact hf) (by rw [hmu]; exact ha) (by rw [hmu]; exact hb)]
    refine ⟨heardFrom_planReply _ _ (heard.blocks ⟨rfl, rfl, rfl, rfl, rfl, rfl⟩ rfl rfl rfl rfl), htc, roster, other,
      fun h => absurd h (by simp [hg]), fun _ h => absurd h hf, fun _ _ h => absurd h (by simp [ha, hb]),
      fun _ _ _ _ => ⟨rfl, rfl, ?_, ?_⟩⟩
    · rw [← hmu]
      rfl
    · rw [eventsAdded, ← hlp]
      rfl

/-! ### JOIN and LEAVE (R24, R38) -/

theorem sameGeometry_iff (cfg : ConfigRecord) (req : JoinRequest) :
    sameGeometry cfg req.period req.mode req.length = true ↔
      req.period.toNat = cfg.period ∧ req.mode = cfg.mode ∧ req.length = cfg.length := by
  simp [sameGeometry, and_assoc]

/-- An entry takes another state than LOST and ABSENT, and nothing else moves (R38, R129). -/
theorem setEntryState_stays (id : StationId) (state : EntryState) (hid : id ≠ x.sid) (hl : state ≠ .lost)
    (ha : state ≠ .absent) : setEntryState id state false x = { x with
      mc := { x.mc with roster := x.mc.roster.set id.val { x.mc.roster[id.val] with state := state } } } := by
  by_cases hs : x.mc.roster[id.val].state = state
  · have same : { x.mc.roster[id.val] with state := state } = x.mc.roster[id.val] := by rw [← hs]
    simp only [setEntryState, hid, hs, if_false, if_true, same, Vector.set_getElem_self]
  · simp [setEntryState, hid, hs, hl, ha, mapEntry, postIf, mapMc]

/-- An entry that is not ABSENT becomes so, and its mail ends (R38, R129). -/
theorem setEntryState_absent (id : StationId) (hid : id ≠ x.sid) (hs : x.mc.roster[id.val].state ≠ .absent) :
    setEntryState id .absent false x = destinationGone id { x with
      mc := { x.mc with roster := x.mc.roster.set id.val { x.mc.roster[id.val] with state := .absent } } } := by
  simp [setEntryState, hid, hs, mapEntry, postIf, mapMc]

theorem exec_replyComplete (src : StationId) (kind : ReplyKind) (ack refuse : Bool) (hr : s.pins.resetn = true) :
    exec (.joinLeaveReplyComplete src kind ack refuse) s =
      .next (replyEffect src kind ack refuse { s with lc := frameEnded s.lc }) :=
  exec_high hr (by rw [← endFrame_eq]; rfl)

/-- Settles O43: the reply bits by R24, and R38's change of one entry once a frame's reply bits are complete. -/
theorem joinAndLeaveFrames : Obligations.JoinAndLeaveFrames := by
  refine ⟨fun src req s hr => ?_, fun src ack refuse s hr => ⟨fun h kind => ?_, fun hg hs => ?_⟩⟩
  · refine ⟨_, (joinReply src req s).1, (joinReply src req s).2, goes_high s _ hr,
      heardFrom_planReply _ _ ((heard_sourceReport src s).blocks (by simp [hostKept]) (by simp) (by simp) (by simp)
        (by simp)), by simp, by simp, by simp [sourceReport_roster], fun hc => ?_,
      fun cfg hc => ⟨fun hst hid => ?_, fun h => ?_, fun hrole hid hp hm hl => ?_, fun hrole hid hno => ?_, fun h h' => ?_⟩⟩
    · simp [hc, joinReply, running, postIf]
    · simp [joinReply, hc, sameIdJoin, hst, hid, running, eventsAdded, postIf, post]
    · have : sameIdJoin src s = false := by simpa [sameIdJoin] using h
      simp [this, postIf]
    · have geometry := (sameGeometry_iff cfg req).2 ⟨hp, hm, hl⟩
      simp [joinReply, hc, sameIdJoin, referenceAnswers, hrole, hid, geometry]
    · have geometry := mt (sameGeometry_iff cfg req).1 hno
      simp [joinReply, hc, sameIdJoin, referenceAnswers, hrole, hid, geometry]
    · have same : sameIdJoin src s = false := by simpa [sameIdJoin] using h
      have reference : referenceAnswers src s = false := by simpa [referenceAnswers] using h'
      simp [joinReply, hc, same, reference]
  · have : (groupState s.mc.station && src != s.sid) = false := by rcases h with h | h <;> simp [h]
    rw [exec_replyComplete src kind ack refuse hr]
    exact congrArg _ (if_neg (by simp [this]))
  · have acts : (groupState s.mc.station && src != s.sid) = true := by simp [hg, hs]
    simp only [exec_replyComplete _ _ _ _ hr, replyEffect, acts, if_true]
    refine ⟨fun ha hf => ?_, fun h => ?_, fun h => ?_, fun h => ?_, fun hm hj => ?_⟩
    · simp only [ha, hf, Bool.not_false, Bool.and_self, if_true]
      exact congrArg _ (setEntryState_stays src .joining hs (by simp) (by simp))
    · have : (ack && !refuse) = false := by rcases h with h | h <;> simp [h]
      simp [this]
    · simp only [h]
      exact congrArg _ (setEntryState_stays src .leaving hs (by simp) (by simp))
    · simp only [h]
      exact congrArg _ (setEntryState_absent src hs (by simp [h]))
    · cases hst : s.mc.roster[src.val].state <;> simp_all

end Sys2Proof.Machine
end

section
namespace Sys2Proof.Machine

variable {s x t : State} {src : StationId}

/-! ### A beacon that is not accepted (R43) -/

/-- Outside LISTENING the model accepts a beacon of a matching geometry by R43. -/
theorem acceptsBeacon_iff (src : StationId) (x : State) (h : x.mc.station ≠ .listening) :
    acceptsBeacon src x = true ↔ acceptedBy43 src x := by
  unfold acceptsBeacon acceptedBy43
  cases hst : x.mc.station <;> simp only [hst, ne_eq, not_true_eq_false, reduceCtorEq] at h ⊢
  case joining | member | leaving =>
    by_cases hrole : x.mc.role = .reference
    · simp [hrole]
    · cases hrec : x.mc.record with
      | none => simp [hrole]
      | some record =>
        cases href : record.reference with
        | none => simp [hrole, href]
        | some r => simp [hrole, href, Option.isSome_iff_ne_none]

theorem acceptedBy43_sourceReport (src : StationId) (s : State) :
    acceptedBy43 src (sourceReport src s) ↔ acceptedBy43 src s := by
  rw [sourceReport_blocks]
  rfl

/-- A beacon that is not accepted leaves its sample to be discarded; a reference's own ID in it is a conflict (R6, R19, R43). -/
theorem deliverBeacon_dropped (b : Beacon) (h : x.config = none ∨ (x.mc.station ≠ .listening ∧
    ¬(acceptedBy43 src x ∧ ∃ cfg, x.config = some cfg ∧ sameGeometry cfg b.period b.mode b.length = true))) :
    deliverBeacon src b x = postIf (x.config.isSome && (x.mc.role == .reference && src == x.sid &&
      onLineState x.mc.station)) .conflictSeen (dropSample x) := by
  unfold deliverBeacon
  cases hc : x.config with
  | none => rfl
  | some cfg =>
    obtain hc' | ⟨hl, hno⟩ := h
    · simp [hc] at hc'
    have rejects : ¬(sameGeometry cfg b.period b.mode b.length && acceptsBeacon src x) = true := by
      rw [Bool.and_eq_true, acceptsBeacon_iff src x hl]
      exact fun hm => hno ⟨hm.2, cfg, hc, hm.1⟩
    simp only [hl, if_false, rejects, Option.isSome_some, Bool.true_and, Bool.false_eq_true]

/-! ### Entry to MISMATCH (R23, R34) -/

theorem leaveLine_sample (keepLeave : Bool) (to_ : StationState) (x : State) :
    (leaveLine keepLeave to_ x).tb.sample = x.tb.sample := by
  rw [leaveLine_eq, freeTb_eq]
  dsimp only
  rw [rebase_tb]
  simp [freedTb, leftBlocks_frame]

theorem enterMismatch_lc (x : State) : (enterMismatch x).lc = { (leaveLine false .mismatch x).lc with
    slots := .empty, attempt := none, txOn := false, ltx := true, onLine := (enterMismatch x).lc.onLine } := by
  simp [enterMismatch, transmitterOff, emptyAllSlots]

theorem leftTheLine_enterMismatch (x : State) : LeftTheLine .mismatch x (enterMismatch x) := by
  have hduty := (leftTheLine_leaveLine false .mismatch x).duty
  refine leftTheLine_of_blocks (leftTheLine_leaveLine false .mismatch x) ?_ ?_ ?_ ?_ ?_ ?_ ?_
  case refine_6 => simpa [enterMismatch] using hduty
  case refine_7 => rw [enterMismatch_lc]; exact ⟨rfl, rfl, rfl, rfl⟩
  all_goals simp [enterMismatch, hostKept]

theorem enterMismatch_lp (x : State) : eventsAdded (unlockedEvents x.tc ||| eventMask .mismatch) x (enterMismatch x) := by
  have hlp := leaveLine_lp false .mismatch x
  rw [eventsAdded] at hlp ⊢
  simp [enterMismatch, post, hlp, BitVec.or_assoc]

/-- What is left of a station that another geometry takes off the line, LC's reply planned (R23, R34, R113). -/
theorem mismatch_left (hmu : x.mu = s.mu) (htc : x.tc = s.tc) (hlp : x.lp = s.lp) (hlc : x.lc = s.lc) (hpcu : x.pcu = s.pcu)
    (htb : x.tb = { s.tb with sample := none }) (host : hostKept s x) (ht : t = planReply true false (enterMismatch x)) :
    LeftTheLine .mismatch s t ∧ phaseKept s t ∧ settingsKept s t ∧
      (∀ kind, slotOf t.lc.slots kind = none) ∧ t.lc.txOn = false ∧ t.lc.ltx = true ∧ t.lc.attempt = none ∧
      t.lc.failures = s.lc.failures ∧ t.tb.sample = none ∧ t.tc = unlockedTrip s.tc ∧
      eventsAdded (unlockedEvents s.tc ||| eventMask .mismatch) s t := by
  have time : t.tb = (leaveLine false .mismatch x).tb := by simp [ht, enterMismatch]
  have duty : t.pcu = (leaveLine false .mismatch x).pcu := by simp [ht, enterMismatch]
  have trip : t.tc = (leaveLine false .mismatch x).tc := by simp [ht, enterMismatch]
  have line : t.lc = { (enterMismatch x).lc with replyAck := true, replyRefuse := false } := by rw [ht]; rfl
  rw [enterMismatch_lc, leaveLine_lc, hlc] at line
  have left := leftTheLine_enterMismatch x
  have phase := leaveLine_phaseKept false .mismatch x
  have settings := leaveLine_settingsKept false .mismatch x
  have events := enterMismatch_lp x
  rw [phaseKept, htb] at phase
  rw [settingsKept, hpcu] at settings
  rw [eventsAdded, htc, hlp] at events
  refine ⟨?_, ?_, ?_, fun kind => ?_, ?_, ?_, ?_, ?_, ?_, ?_, ?_⟩
  · rw [ht]
    exact leftTheLine_from (leftTheLine_of_blocks left rfl rfl rfl rfl ⟨rfl, rfl, rfl, rfl, rfl, rfl⟩ left.duty left.slots)
      hmu htc host
  · rw [phaseKept, time]; exact phase
  · rw [settingsKept, duty]; exact settings
  · rw [line]; cases kind <;> rfl
  · rw [line]
  · rw [line]
  · rw [line]
  · rw [line]
  · rw [time, leaveLine_sample, htb]
  · rw [trip, leaveLine_tc, htc]
  · rw [eventsAdded, ht]; exact events

/-- Settles O40: outside LISTENING the sample is dropped, by `deliverBeacon_dropped`; in LISTENING another geometry is a
mismatch, which leaves the line. -/
theorem beaconNotAccepted : Obligations.BeaconNotAccepted := by
  intro src b s hr
  refine ⟨fun h => ?_, fun cfg hc hst hgeo => ?_⟩
  · have hdrop := deliverBeacon_dropped (x := sourceReport src s) (src := src) b
      (by simpa only [acceptedBy43_sourceReport, sourceReport_frame] using h)
    have conflict : (s.config.isSome && (s.mc.role == .reference && src == s.sid && onLineState s.mc.station)) = true ↔
        s.config ≠ none ∧ s.mc.role = .reference ∧ src = s.sid ∧ onLineState s.mc.station = true := by
      simp [Option.isSome_iff_ne_none, and_assoc]
    refine ⟨_, goes_high s _ hr, ?_⟩
    rw [hdrop, postIf_eq, sourceReport_blocks]
    refine ⟨rfl, ?_, fun id => sourceReport_roster src s id⟩
    exact congrArg (fun ev => { s.lp with events := s.lp.events ||| ev }) (eventIf_congr conflict)
  · have hmis : deliverBeacon src b (sourceReport src s) = enterMismatch (dropSample (sourceReport src s)) := by
      simp [deliverBeacon, hc, hst, hgeo]
    refine ⟨_, goes_high s _ hr, ?_⟩
    rw [hmis]
    exact mismatch_left (by simp) (by simp) (by simp) (by simp) (by simp) (by simp [dropSample]) (by simp [hostKept]) rfl

end Sys2Proof.Machine
end

section
namespace Sys2Proof.Machine

variable {s x t : State}

/-! ### Fills (R29, R48, R50, R52) -/

theorem fillSlot_blocks (f : TxFrame) (x : State) : fillSlot f x = { x with lc := (fillSlot f x).lc } := rfl

theorem emptySlot_blocks (kind : FrameKind) (x : State) : emptySlot kind x = { x with lc := (emptySlot kind x).lc } := rfl

/-- A fill is LC's alone. -/
theorem fillSlot_lc_congr (f : TxFrame) {x y : State} (h : x.lc = y.lc) : (fillSlot f x).lc = (fillSlot f y).lc := by
  simp only [fillSlot, mapLc_lc, h]

theorem fillSlot_slots (f : TxFrame) (x : State) : (fillSlot f x).lc.slots = slotsFilled x.lc f := by
  simp only [fillSlot, mapLc_lc, slotsFilled]
  split <;> rfl

theorem saturatedByte_toInt (e : Int) : (saturatedByte e).toInt = max (-128) (min 127 e) := by
  have low : -128 ≤ max (-128) (min 127 e) := le_max_left _ _
  have high : max (-128) (min 127 e) ≤ 127 := max_le (by omega) (min_le_left _ _)
  rw [saturatedByte, BitVec.toInt_ofInt]
  exact Int.bmod_eq_of_le (by omega) (by omega)

theorem reportedError_zero (h : x.mc.role = .reference ∨ x.tb.phaseError = none) : reportedError x = 0 := by
  unfold reportedError
  rcases h with h | h
  · simp [h]
  · simp [h, saturatedByte]

theorem reportedError_toInt (e : Int) (hr : x.mc.role ≠ .reference) (h : x.tb.phaseError = some e) :
    (reportedError x).toInt = max (-128) (min 127 e) := by
  simp only [reportedError, hr, if_false, h, Option.getD_some, saturatedByte_toInt]

theorem ownReport_eq (x : State) : ownReport x =
    { lock := x.tb.lock, active := decide (x.pcu.output = .active), tripped := decide (x.tc.trip ≠ .armed)
      role := x.mc.role } := by
  simp only [ownReport]
  cases x.pcu.output <;> cases x.tc.trip <;> rfl

theorem fillStatus_idle (c : Nat) (h : slotState x.mc.station = false ∨ x.mc.statusFilled = true) :
    fillStatus c x = x := by
  unfold fillStatus
  split
  · split
    · rw [if_neg (by rcases h with h | h <;> simp [h])]
    · rfl
  · rfl

theorem fillStatus_early (c : Nat) (cfg : ConfigRecord) (record : EpochRecord) (slot : Slot) (hc : x.config = some cfg)
    (hrec : x.mc.record = some record) (hs : record.slot = some slot) (h : c < slot.rank % epochCarriers cfg) :
    fillStatus c x = x := by
  simp [fillStatus, hc, hrec, hs, Nat.not_le.2 h]

theorem fillStatus_fills (c : Nat) (cfg : ConfigRecord) (record : EpochRecord) (slot : Slot) (hc : x.config = some cfg)
    (hrec : x.mc.record = some record) (hs : record.slot = some slot) (hst : slotState x.mc.station = true)
    (hf : x.mc.statusFilled = false) (h : slot.rank % epochCarriers cfg ≤ c) : fillStatus c x =
    { x with mc := { x.mc with statusFilled := true }, lc := (fillSlot (.status (ownStatus x)) x).lc } := by
  have fills : fillStatus c x = mapMc (fun mc => { mc with statusFilled := true }) (fillSlot (.status (ownStatus x)) x) := by
    simp [fillStatus, hc, hrec, hs, hst, hf, h]
  exact fills

theorem inMask_buildMask (x : State) (id : StationId) : inMask (buildMask x) id = true ↔
    (rosterEntry x id).state = .member ∨ (rosterEntry x id).state = .joining := by
  rw [buildMask, inMask_maskOf]
  cases (rosterEntry x id).state <;> simp

theorem rosterEntry_own (x : State) : (rosterEntry x x.sid).state = mirroredState x.mc.station := by
  simp [rosterEntry, ownEntry]

theorem rosterEntry_peer (id : StationId) (h : id ≠ x.sid) : rosterEntry x id = x.mc.roster[id.val] := if_neg h

/-- The next mask at a member: itself, and the peers it holds MEMBER or JOINING (R48). -/
theorem inMask_buildMask_member (id : StationId) (h : x.mc.station = .member) : inMask (buildMask x) id = true ↔
    id = x.sid ∨ x.mc.roster[id.val].state = .member ∨ x.mc.roster[id.val].state = .joining := by
  rw [inMask_buildMask]
  by_cases hid : id = x.sid
  · simp [hid, rosterEntry_own, h, mirroredState]
  · simp [hid, rosterEntry_peer]

theorem fillBeacon_eq (cfg : ConfigRecord) (mask : MemberMask) (handover : Bool) (x : State) :
    fillBeacon cfg mask handover x = { x with
      mc := { x.mc with beaconDeadline := true }
      lc := (fillSlot (.beacon (beaconFrame cfg mask handover)) x).lc } := rfl

theorem removeBeacon_eq (x : State) : removeBeacon x = { x with
    mc := { x.mc with beaconDeadline := false }, lc := (emptySlot .beacon x).lc } := rfl

/-- Settles O32: the STATUS of `fillStatus`, the beacon of a candidate over the mask of its roster, and R50's deadline. -/
theorem carrierFills : Obligations.CarrierFills := by
  refine ⟨fun s c hr => ⟨fun h => ?_, fun cfg record slot hc hrec hs hlt => ?_,
    fun cfg record slot hc hrec hs hst hf hle => ?_⟩, fun s hr => ⟨fun h => ?_, fun cfg hc hrole hst => ?_, fun h => ?_, fun h => ?_⟩⟩
  · exact (goes_high s _ hr).trans (congrArg _ (fillStatus_idle c h))
  · exact (goes_high s _ hr).trans (congrArg _ (fillStatus_early c cfg record slot hc hrec hs hlt))
  · refine ⟨reportedError s, ?_, reportedError_zero, fun e => reportedError_toInt e⟩
    refine (goes_high s _ hr).trans (congrArg _ ?_)
    rw [fillStatus_fills c cfg record slot hc hrec hs hst hf hle, ownStatus, ownReport_eq]
  · refine (goes_high s _ hr).trans (congrArg _ ?_)
    cases hc : s.config with
    | none => rfl
    | some cfg =>
      have hrole : s.mc.role ≠ .candidate := by simpa [hc] using h
      exact if_neg hrole
  · refine ⟨buildMask s, fun id => inMask_buildMask_member id hst, ?_⟩
    exact exec_high hr (by simp only [exec, execCandidateFillPoint, hc, candidateFill, hrole, if_true, fillBeacon_eq]; rfl)
  · exact exec_high hr (by simp [exec, execBeaconDeadline, h])
  · exact exec_high hr (by simp only [exec, execBeaconDeadline, h, if_true, removeBeacon_eq])

end Sys2Proof.Machine
end

section
namespace Sys2Proof.Machine

variable {s x t : State}

/-! ### The end of a join sequence (R25) -/

theorem leaveLine_lc_chain (to_ : StationState) (x : State) :
    (leaveLine false to_ x).lc = (emptySlot .mail (emptyMcSlots false x)).lc := by
  simp only [leaveLine_eq, freeTb_frame]
  rfl

/-- A frame on the line after leaving the line: MC's own is stale, and a MAIL does not come back (R33, R118, R134). -/
theorem leaveLine_onLine (to_ : StationState) (x : State) :
    (leaveLine false to_ x).lc.onLine = notReturnable .mail (mcFrameLeft x.lc.onLine) := by
  rw [leaveLine_lc_chain, emptySlot_onLine, emptyMcSlots_lc]

theorem mcFrameLeft_left (own : Option OwnFrame) :
    mcFrameLeft (notReturnable .mail (mcFrameLeft own)) = notReturnable .mail (mcFrameLeft own) := by
  cases own with
  | none => rfl
  | some own => cases hk : frameKind own.frame <;> simp [mcFrameLeft, notReturnable, mcKind, hk]

/-- Leaving the line withdraws an attempt of MC's and of MU's (R33, R117, R134). -/
theorem leaveLine_mcAttempt (to_ : StationState) (x : State) : mcAttempt (leaveLine false to_ x).lc = false := by
  have attempt : (leaveLine false to_ x).lc.attempt = (if (emptyMcSlots false x).lc.attempt = some .mail then none
      else (emptyMcSlots false x).lc.attempt) := by
    rw [leaveLine_lc_chain]
    rfl
  rw [mcAttempt, attempt, emptyMcSlots_lc]
  by_cases hm : mcAttempt x.lc = true
  · simp [hm]
  · have hm' : x.lc.attempt.any mcKind = false := by simpa [mcAttempt] using hm
    simp only [hm, if_false, Bool.false_eq_true]
    split
    · rfl
    · exact hm'

/-- MC's slots are empty once the station has left the line, so that emptying them again does nothing (R21, R25). -/
theorem emptyMcSlots_left (to_ : StationState) (x y : State) (h : y.lc = (leaveLine false to_ x).lc) :
    (emptyMcSlots false y).lc = y.lc := by
  rw [emptyMcSlots_lc, h, leaveLine_mcAttempt, leaveLine_onLine, mcFrameLeft_left, ← leaveLine_onLine to_]
  rw [leaveLine_lc]
  simp [TxSlots.empty]

theorem leftBlocks_mapMc (f : Membership → Membership) (keepLeave : Bool) (to_ : StationState) (x : State) :
    leftBlocks keepLeave to_ (mapMc f x) = leftBlocks keepLeave to_ x := by
  cases keepLeave <;> rfl

/-- MC's record, roster, counters and waits are gone, whatever they were (R33). -/
theorem leaveLine_mapMc (f : Membership → Membership) (keepLeave : Bool) (to_ : StationState) (x : State) :
    leaveLine keepLeave to_ (mapMc f x) = leaveLine keepLeave to_ x := by
  rw [leaveLine_eq, leaveLine_eq, leftBlocks_mapMc]

theorem joinFails_mapMc (f : Membership → Membership) (x : State) : joinFails (mapMc f x) = joinFails x := by
  rw [joinFails, joinFails, leaveLine_mapMc]

/-- A station off the line whose join sequence has failed: what START is then taken of (R25). -/
def joinFailed (x : State) : State := post .joinFailed (leaveLine false .configured x)

theorem joinFails_eq (x : State) : joinFails x = { joinFailed x with
    mc := { (joinFailed x).mc with station := .listening, listenTimer := some 0 } } := by
  have lc : (emptyMcSlots false (joinFailed x)).lc = (joinFailed x).lc := emptyMcSlots_left .configured x _ rfl
  have output : (joinFailed x).pcu.output = .off := (leftTheLine_leaveLine false .configured x).duty.2.1
  have deadline : (joinFailed x).mc.beaconDeadline = false := by
    simp [joinFailed, leaveLine_mc, leftMembership]
  rw [joinFails, ← joinFailed, startListening_eq, lc, ← output, ← deadline]

/-! ### Refills and timers (R25, R26, R32, R59) -/

/-- The JOIN of the station's own geometry (R23). -/
def ownJoin (cfg : ConfigRecord) : TxFrame :=
  .join { period := BitVec.ofNat 16 cfg.period, mode := cfg.mode, length := cfg.length }

theorem fillJoin_eq (cfg : ConfigRecord) (h : x.config = some cfg) : fillJoin x = { x with
    mc := { x.mc with joinRefillDue := false }, lc := (fillSlot (ownJoin cfg) x).lc } := by
  have fills : fillJoin x = fillSlot (ownJoin cfg) (mapMc (fun mc => { mc with joinRefillDue := false }) x) := by
    simp [fillJoin, h, ownJoin]
  exact fills

theorem leaveDone_slots (x : State) : (leaveDone x).lc.slots = { TxSlots.empty with trip := x.lc.slots.trip } := by
  have lc : (leaveDone x).lc = (leaveLine false .configured x).lc := rfl
  rw [lc, leaveLine_lc]
  rfl

theorem joinFailed_slots (x : State) : (joinFailed x).lc.slots = { TxSlots.empty with trip := x.lc.slots.trip } :=
  leaveDone_slots x

theorem leftTheLine_joinFailed (x : State) : LeftTheLine .configured x (joinFailed x) := by
  have left := leftTheLine_leaveLine false .configured x
  exact leftTheLine_of_blocks left rfl rfl rfl rfl ⟨rfl, rfl, rfl, rfl, rfl, rfl⟩ left.duty left.slots

theorem joinFailed_lp (x : State) : eventsAdded (unlockedEvents x.tc ||| eventMask .joinFailed) x (joinFailed x) := by
  have h : (joinFailed x).lp = { (leaveLine false .configured x).lp with
    events := (leaveLine false .configured x).lp.events ||| eventMask .joinFailed } := rfl
  rw [eventsAdded, h, leaveLine_lp false .configured x]
  simp [BitVec.or_assoc]

/-- A try that counts below 4 goes on (R25, R26). -/
theorem countTry_goesOn (goOn : State → State) (h : x.mc.joinAttempts < 3) :
    countTry goOn x = goOn (mapMc (fun mc => { mc with joinAttempts := mc.joinAttempts + 1 }) x) := by
  simp only [countTry, mapMc_mc]
  exact if_neg (by omega)

theorem countTry_fails (goOn : State → State) (h : 3 ≤ x.mc.joinAttempts) : countTry goOn x = joinFails x := by
  simp only [countTry, mapMc_mc]
  exact (if_pos (by omega)).trans (joinFails_mapMc _ x)

theorem waitBoundary_idle (h : x.mc.admission.accepted = false ∨ 2 ≤ x.mc.admission.boundaries) : waitBoundary x = x := by
  refine if_neg ?_
  rcases h with h | h
  · simp [h]
  · simp [Nat.not_lt.2 h]

theorem waitBoundary_first (h : x.mc.admission = { accepted := true, boundaries := 0 }) :
    waitBoundary x = { x with mc := { x.mc with admission := { accepted := true, boundaries := 1 } } } := by
  simp [waitBoundary, h, mapMc]

theorem waitBoundary_second (h : x.mc.admission = { accepted := true, boundaries := 1 }) : waitBoundary x =
    countTry fillJoin (mapMc (fun mc => { mc with admission := { accepted := true, boundaries := 2 } }) x) := by
  simp [waitBoundary, h, mapMc]

/-- Settles O31: each timer by the effect it has alone, `leaveDone`, `joinFails` and `countTry`. -/
theorem joinAndLeaveTimers : Obligations.JoinAndLeaveTimers := by
  refine ⟨fun s hr => ⟨fun h => ?_, fun cfg hst hdue hc => ?_, fun h => ?_, fun hst hrole hack => ?_⟩,
    fun s hr => ⟨fun h => ?_, fun h => ?_, fun hst h3 => ?_⟩,
    fun s hr => ⟨fun h => ?_, fun h => ?_, fun hst h3 => ?_, fun cfg hst hlt hc hadm => ?_⟩⟩
  · exact exec_high hr (congrArg (goes s) (if_neg (by rcases h with h | h <;> simp [h])))
  · exact exec_high hr (by simp only [exec, execJoinRefill, hst, hdue, decide_true, Bool.and_self, if_true, fillJoin_eq cfg hc]; rfl)
  · exact exec_high hr (congrArg (goes s) (if_neg (by rcases h with h | h | h <;> simp [h])))
  · exact exec_high hr (congrArg (goes s) (if_pos (by simp [hst, hrole, hack])))
  · refine exec_high hr (congrArg (goes s) (if_neg ?_))
    rcases h with h | h | h <;> simp [h]
  · refine exec_high hr (congrArg (goes s) (if_neg ?_))
    rcases h with h | h | h <;> simp [h]
  · refine ⟨leaveDone s, fun hrole => ?_, fun hrole => ?_, leftTheLine_leaveDone s, leaveLine_phaseKept false .configured s,
      leaveLine_settingsKept false .configured s, leaveLine_tc false .configured s, leaveDone_slots s, leaveDone_lp s⟩
    · exact exec_high hr (congrArg (goes s) (if_pos (by simp [hst, hrole, h3])))
    · exact exec_high hr (congrArg (goes s) (if_pos (by simp [hst, hrole, h3])))
  · refine exec_high hr (congrArg (goes s) (if_neg ?_))
    rcases h with h | h <;> simp [h]
  · refine exec_high hr (congrArg (goes s) ?_)
    rcases h with h | h | h
    · exact if_neg (by simp [h])
    · rw [waitBoundary_idle (.inl h), ite_self]
    · exact if_neg (by simp [h])
  · refine ⟨joinFails s, joinFailed s, ?_, fun hadm => ?_, leftTheLine_joinFailed s, leaveLine_phaseKept false .configured s,
      leaveLine_settingsKept false .configured s, leaveLine_tc false .configured s, joinFailed_slots s, joinFailed_lp s,
      joinFails_eq s⟩
    · exact exec_high hr (congrArg (goes s) (if_pos (by simp [hst, h3])))
    · refine exec_high hr (congrArg (goes s) ((if_pos (by simp [hst, hadm])).trans ?_))
      rw [waitBoundary_second hadm, countTry_fails _ (by exact h3), joinFails_mapMc]
  · refine exec_high hr (congrArg (goes s) ((if_pos (by simp [hst, hadm])).trans ?_))
    rw [waitBoundary_second hadm, countTry_goesOn _ (by exact hlt), fillJoin_eq cfg (by exact hc)]
    rfl

end Sys2Proof.Machine
end

section
namespace Sys2Proof.Machine

variable {s x t : State}

/-! ### LEAVE (R28, R31, R59) -/

/-- A MEMBER that goes LEAVING keeps its slot, and so its gate (R31, R87). -/
theorem setStation_leaving (hs : slotState s.mc.station = true) (hlaw : outputLaw s) (hpcu : x.pcu = s.pcu)
    (htc : x.tc = s.tc) (htb : x.tb = s.tb) :
    setStation .leaving x = { x with mc := { x.mc with station := .leaving } } := by
  refine regate_id _ ?_
  have gate : gateOpen (mapMc (fun mc => { mc with station := .leaving }) x) = gateOpen s := by
    have slot : slotState .leaving = true := rfl
    simp [gateOpen, hpcu, htc, htb, slot, hs]
  rw [gate, mapMc_pcu, hpcu]
  exact hlaw.1

theorem leaveAsFollower_eq (hs : s.mc.station = .member) (hlaw : outputLaw s) : leaveAsFollower s = { s with
    mc := { s.mc with
      station := .leaving, role := .follower, leaveAttempts := 0, leaveAcked := false
      election := s.mc.election.map fun e => { e with standing := none }
      beaconDeadline := if s.mc.role = .candidate then false else s.mc.beaconDeadline }
    lc := (fillSlot .leave (if s.mc.role = .candidate then emptySlot .beacon s else s)).lc } := by
  have slot : slotState s.mc.station = true := by rw [hs]; rfl
  unfold leaveAsFollower fillLeave
  by_cases hrole : s.mc.role = .candidate
  · simp only [hrole, if_true]
    rw [setStation_leaving slot hlaw (by rfl) (by rfl) (by rfl)]
    rfl
  · simp only [hrole, if_false]
    rw [setStation_leaving slot hlaw (by rfl) (by rfl) (by rfl)]
    rfl

/-- A JOINING station's last LEAVE, filled and kept as it leaves the line (R28). -/
def joinGivenUp (x : State) : State := post .left (leaveLine true .configured (fillLeave x))

theorem joinGivenUp_lc (x : State) : (joinGivenUp x).lc.slots.leave = (slotsFilled x.lc .leave).leave ∧
    (joinGivenUp x).lc.slots.trip = x.lc.slots.trip := by
  have lc : (joinGivenUp x).lc = (leaveLine true .configured (fillLeave x)).lc := rfl
  rw [lc, leaveLine_lc, fillLeave]
  dsimp only
  rw [fillSlot_slots, slotsFilled]
  exact ⟨rfl, by split <;> rfl⟩

theorem leftTheLine_joinGivenUp (x : State) : LeftTheLine .configured x (joinGivenUp x) := by
  have left := leftTheLine_leaveLine true .configured (fillLeave x)
  exact leftTheLine_from (leftTheLine_of_blocks left rfl rfl rfl rfl ⟨rfl, rfl, rfl, rfl, rfl, rfl⟩ left.duty left.slots)
    rfl rfl ⟨rfl, rfl, rfl, rfl, rfl, rfl⟩

theorem joinGivenUp_lp (x : State) : eventsAdded (eventMask .left ||| unlockedEvents x.tc) x (joinGivenUp x) := by
  have h : (joinGivenUp x).lp = { (leaveLine true .configured (fillLeave x)).lp with
    events := (leaveLine true .configured (fillLeave x)).lp.events ||| eventMask .left } := rfl
  rw [eventsAdded, h, leaveLine_lp true .configured (fillLeave x), BitVec.or_comm (eventMask .left), ← BitVec.or_assoc]
  rfl

theorem exec_leave (hg : groupState s.mc.station = true) (hr : s.pins.resetn = true) :
    exec (.leave []) s = .next (answer .accepted (takeLeave s)) :=
  exec_high hr (congrArg (goes s) (if_pos hg))

/-- Settles O11: the three effects of `takeLeave`, and the states that LEAVE is not taken in. -/
theorem leaveByState : Obligations.LeaveByState := by
  intro s hr hlaw
  refine ⟨fun hg => ?_, fun payload hp => ?_, fun hst => ?_, fun hst hrole => ?_, fun hst hrole => ?_, fun hst => ?_⟩
  · exact exec_high hr (congrArg (goes s) (if_neg (by simp [hg])))
  · refine exec_high hr ?_
    simp only [exec, execLeave, withoutPayload_cons hp]
    cases groupState s.mc.station <;> rfl
  · have hleave : takeLeave s = joinGivenUp s := by simp only [takeLeave, hst]; rfl
    obtain ⟨leave, trip⟩ := joinGivenUp_lc s
    have left := leftTheLine_joinGivenUp s
    refine ⟨_, exec_leave (by simp [groupState, hst]) hr, ?_⟩
    rw [hleave]
    refine ⟨leftTheLine_of_blocks left rfl rfl rfl rfl ⟨rfl, rfl, rfl, rfl, rfl, rfl⟩ left.duty left.slots,
      leaveLine_phaseKept true .configured (fillLeave s), leaveLine_settingsKept true .configured (fillLeave s),
      leaveLine_tc true .configured (fillLeave s), ?_, leave, trip⟩
    rw [answer_eq, joinGivenUp_lp s]
    rfl
  · have hleave : takeLeave s = leaveAsFollower s := by simp only [takeLeave, hst, hrole, if_false]
    rw [exec_leave (by simp [groupState, hst]) hr, hleave, leaveAsFollower_eq hst hlaw]
    rfl
  · have hleave : takeLeave s = setStation .leaving (mapMc (fun mc => { mc with leaveAcked := false }) s) := by
      simp only [takeLeave, hst, hrole, if_true]
    rw [exec_leave (by simp [groupState, hst]) hr, hleave, setStation_leaving (by simp [hst, slotState]) hlaw
      (by rfl) (by rfl) (by rfl)]
    rfl
  · have hleave : takeLeave s = s := by simp only [takeLeave, hst]
    rw [answersOnly, exec_leave (by simp [groupState, hst]) hr, hleave]
    rfl

end Sys2Proof.Machine
end

section
namespace Sys2Proof.Machine

variable {s x t : State} {id : StationId}

/-! ### The end of a destination (R128, R129, R132) -/

/-- What the end of a destination makes of the filter and of the mails behind the head (R129, R132). -/
def mailsLost (id : StationId) (x : State) : State :=
  mapMu (fun mu => { clearFilter id mu with queue := loseBehind id mu.queue }) x

theorem clearFilter_eq (id : StationId) (mu : MailUnit) : clearFilter id mu = { mu with filter := (clearFilter id mu).filter } := by
  unfold clearFilter
  split <;> rfl

theorem clearFilter_filter (id other : StationId) (mu : MailUnit) : (clearFilter id mu).filter[other.val] =
    if other = id ∧ mu.storedNow ≠ some id then none else mu.filter[other.val] := by
  unfold clearFilter
  by_cases hs : mu.storedNow = some id
  · simp [hs]
  · simp only [hs, if_false, Vector.getElem_set, ne_eq, not_false_eq_true, and_true]
    by_cases hid : other = id
    · simp [hid]
    · simp [hid, Fin.val_inj, Ne.symm hid]

theorem mailsLost_mu (id : StationId) (x : State) : (mailsLost id x).mu =
    { x.mu with filter := (clearFilter id x.mu).filter, queue := loseBehind id x.mu.queue } := by
  rw [mailsLost, mapMu_mu, clearFilter_eq]

theorem loseBehind_nil (id : StationId) : loseBehind id [] = [] := rfl

theorem loseBehind_cons (id : StationId) (head : OutMail) (rest : List OutMail) : loseBehind id (head :: rest) =
    head :: rest.map fun m => if m.destination = id ∧ m.outcome = none then { m with outcome := some .undelivered } else m := by
  simp [loseBehind]

theorem loseBehind_head? (id : StationId) (queue : List OutMail) : (loseBehind id queue).head? = queue.head? := by
  cases queue <;> rfl

/-- With its head for another destination, or complete, the queue keeps it (R129). -/
theorem destinationGone_other (h : ∀ head, x.mu.queue.head? = some head → head.destination ≠ id ∨ head.outcome ≠ none) :
    destinationGone id x = mailsLost id x := by
  unfold destinationGone
  dsimp only
  split
  · rfl
  next head rest hq =>
    have hhead : x.mu.queue.head? = some head := by
      rw [← loseBehind_head? id, ← congrArg List.head? (congrArg MailUnit.queue (mailsLost_mu id x))]
      exact congrArg List.head? hq
    refine if_neg ?_
    rcases h head hhead with hd | ho
    · simp [hd]
    · simp [ho]

/-- A head that gets its outcome, with its flight and its retry ended, leaves if there is room (R126, R127, R128). -/
theorem finishHead_eq (outcome : MailOutcome) (head : OutMail) (rest : List OutMail) (hq : x.mu.queue = head :: rest) :
    finishHead outcome x = settleQueue { x with
      mu := { x.mu with queue := { head with outcome := some outcome } :: rest, retryDue := false, inFlight := false }
      lc := (emptySlot .mail x).lc } := by
  rw [finishHead, emptySlot_blocks]
  dsimp only [mapMu]
  rw [hq]
  rfl

/-- An open head for the destination, in flight: it is marked, and its slot is emptied (R129). -/
theorem destinationGone_inFlight (head : OutMail) (rest : List OutMail) (hq : (mailsLost id x).mu.queue = head :: rest)
    (hd : head.destination = id) (ho : head.outcome = none) (hf : x.mu.inFlight = true) : destinationGone id x =
    { mailsLost id x with
      mu := { (mailsLost id x).mu with queue := { head with destLost := true } :: rest }
      lc := (emptySlot .mail x).lc } := by
  have flight : (mailsLost id x).mu.inFlight = true := by rw [mailsLost_mu]; exact hf
  have gone : destinationGone id x = emptySlot .mail (mapMu (fun mu =>
      { mu with queue := mapHead (fun m => { m with destLost := true }) mu.queue }) (mailsLost id x)) := by
    unfold destinationGone
    rw [← mailsLost]
    simp only [hq, hd, ho, flight, Option.isNone_none, decide_true, Bool.and_self, if_true]
  rw [gone, emptySlot_blocks]
  dsimp only [mapMu]
  rw [hq]
  rfl

/-- An open head for the destination that waits: it becomes UNDELIVERED, its slot is emptied, and it leaves (R128, R129). -/
theorem destinationGone_waiting (head : OutMail) (rest : List OutMail) (hq : (mailsLost id x).mu.queue = head :: rest)
    (hd : head.destination = id) (ho : head.outcome = none) (hf : x.mu.inFlight = false) : destinationGone id x =
    settleQueue { mailsLost id x with
      mu := { (mailsLost id x).mu with
        queue := { head with outcome := some .undelivered } :: rest, retryDue := false, inFlight := false }
      lc := (emptySlot .mail x).lc } := by
  have flight : (mailsLost id x).mu.inFlight = false := by rw [mailsLost_mu]; exact hf
  have gone : destinationGone id x = finishHead .undelivered (mailsLost id x) := by
    unfold destinationGone
    rw [← mailsLost]
    simp [hq, hd, ho, flight]
  rw [gone, finishHead_eq .undelivered head rest hq]
  rfl

theorem exec_mailCompletion (x : State) (h : x.pins.resetn = true) : exec .mailCompletion x = .next (settleQueue x) :=
  goes_high x _ h

/-! ### A peer lost by silence (R40) -/

theorem countSilenceOf_idle (n : Nat) (h : id = x.sid ∨
    (x.mc.roster[id.val].state ≠ .member ∧ x.mc.roster[id.val].state ≠ .leaving)) : countSilenceOf n id x = x := by
  unfold countSilenceOf
  by_cases hid : id = x.sid
  · exact if_pos hid
  · obtain ⟨hm, hl⟩ := h.resolve_left hid
    simp [hid, hm, hl]

/-- A counted entry, in the roster (R40). -/
def silenceCounted (id : StationId) (x : State) : State :=
  mapEntry id (fun e => { e with silence := e.silence + 1 }) x

theorem countSilenceOf_counts (n : Nat) (hid : id ≠ x.sid)
    (hs : x.mc.roster[id.val].state = .member ∨ x.mc.roster[id.val].state = .leaving) : countSilenceOf n id x =
    if n ≤ x.mc.roster[id.val].silence + 1 then setEntryState id .lost false (silenceCounted id x)
    else silenceCounted id x := by
  unfold countSilenceOf
  simp only [hid, if_false, hs, if_true, Bool.or_eq_true, decide_eq_true_eq]
  rfl

theorem silenceCounted_eq (hid : id ≠ x.sid) : silenceCounted id x = { x with
    mc := { x.mc with roster := x.mc.roster.set id.val { x.mc.roster[id.val] with
      silence := x.mc.roster[id.val].silence + 1 } } } := if_neg hid

/-- A peer whose silence comes to the limit is LOST, and MU is told (R40, R41, R129). -/
theorem countSilenceOf_lost (n : Nat) (hid : id ≠ x.sid)
    (hs : x.mc.roster[id.val].state = .member ∨ x.mc.roster[id.val].state = .leaving)
    (hn : n ≤ x.mc.roster[id.val].silence + 1) : countSilenceOf n id x = destinationGone id { x with
      mc := { x.mc with roster := x.mc.roster.set id.val { x.mc.roster[id.val] with
        state := .lost, silence := x.mc.roster[id.val].silence + 1 } }
      lp := { x.lp with events := x.lp.events ||| eventMask .peerLost } } := by
  have hne : x.mc.roster[id.val].state ≠ .lost := by rcases hs with h | h <;> simp [h]
  rw [countSilenceOf_counts n hid hs, if_pos hn, silenceCounted_eq hid]
  refine (setEntryState_lost id (by exact hid) ?_).trans ?_
  · simpa using hne
  · simp

/-- Settles O33: the lost peer by `countSilenceOf_lost`, and the end of its mail by the three cases of `destinationGone`. -/
theorem peerLost : Obligations.PeerLost := by
  refine ⟨fun s id hr => ⟨fun h => ?_, fun cfg hc hlt => ?_, fun hm hl => ?_, fun cfg hc hg hid hs hn => ?_⟩,
    fun s id hr => ⟨mailsLost id s, ?_, fun other => ?_, destinationGone_other, fun head rest hq hd ho =>
      ⟨destinationGone_inFlight head rest hq hd ho, fun hf => ?_⟩⟩⟩
  · refine exec_high hr (congrArg (goes s) ?_)
    cases hc : s.config with
    | none => rfl
    | some cfg =>
      dsimp only
      split
      next hg =>
        refine countSilenceOf_idle _ (.inl ?_)
        rcases h with h | h | h
        · simp [hc] at h
        · simp [h] at hg
        · exact h
      · rfl
  · exact exec_high hr (congrArg (goes s) (by simp [hc, Nat.not_le.2 hlt]))
  · refine exec_high hr (congrArg (goes s) ?_)
    cases s.config with
    | none => rfl
    | some cfg =>
      dsimp only
      rw [countSilenceOf_idle _ (.inr ⟨hm, hl⟩), ite_self]
  · refine ⟨_, rfl, exec_high hr (congrArg (goes s) ?_)⟩
    rw [← countSilenceOf_lost _ hid hs hn]
    simp only [hc, hg, hn, decide_true, Bool.and_self, if_true]
  · rw [mailsLost, mapMu, clearFilter_eq]
    cases hq : s.mu.queue with
    | nil => rw [loseBehind_nil]
    | cons head rest => rw [loseBehind_cons]
  · rw [mailsLost_mu]
    exact clearFilter_filter id other s.mu
  · rw [destinationGone_waiting head rest hq hd ho hf]
    exact exec_mailCompletion _ hr

end Sys2Proof.Machine
end

section
namespace Sys2Proof.Machine

variable {s x t base : State}

/-! ### The outcome of a mail (R126, R127, R129) -/

theorem mailReported_noFlight (ack refuse : Bool) (h : x.mu.inFlight = false) : mailReported ack refuse x = x := by
  simp [mailReported, h]

/-- The attempt counted, and the flight over (R126). -/
def attemptCounted (head : OutMail) (rest : List OutMail) (x : State) : State :=
  { x with mu := { x.mu with queue := { head with attempts := head.attempts + 1 } :: rest, inFlight := false } }

theorem mailReported_eq (ack refuse : Bool) (head : OutMail) (rest : List OutMail) (hf : x.mu.inFlight = true)
    (hq : x.mu.queue = head :: rest) : mailReported ack refuse x =
    if ack then finishHead .delivered (attemptCounted head rest x)
    else if head.destLost then finishHead .undelivered (attemptCounted head rest x)
    else if 3 ≤ head.attempts + 1 then
      finishHead (if refuse then .refused else .undelivered) (attemptCounted head rest x)
    else mapMu (fun mu => { mu with retryDue := true }) (attemptCounted head rest x) := by
  have counted : mapMu (fun mu => { mu with
      queue := mapHead (fun m => { m with attempts := head.attempts + 1 }) mu.queue, inFlight := false }) x =
      attemptCounted head rest x := by
    rw [mapMu, hq]
    rfl
  unfold mailReported
  rw [hf, hq]
  dsimp only
  rw [counted]
  rfl

/-- A mail that has its outcome leaves as a complete head does (R128). -/
theorem mailReported_complete (ack refuse : Bool) (head : OutMail) (rest : List OutMail) (outcome : MailOutcome)
    (hf : x.mu.inFlight = true) (hq : x.mu.queue = head :: rest)
    (h : ack = true ∨ head.destLost = true ∨ 3 ≤ head.attempts + 1)
    (ho : outcome = (if ack then .delivered else if head.destLost then .undelivered
      else if refuse then .refused else .undelivered)) : mailReported ack refuse x =
    settleQueue { x with
      mu := { x.mu with
        queue := { head with attempts := head.attempts + 1, outcome := some outcome } :: rest
        inFlight := false, retryDue := false }
      lc := (emptySlot .mail x).lc } := by
  have finish : mailReported ack refuse x = finishHead outcome (attemptCounted head rest x) := by
    rw [mailReported_eq ack refuse head rest hf hq, ho]
    by_cases ha : ack = true
    · simp [ha]
    · by_cases hd : head.destLost = true
      · simp [ha, hd]
      · simp [ha, hd, (h.resolve_left ha).resolve_left hd]
  rw [finish, finishHead_eq outcome { head with attempts := head.attempts + 1 } rest rfl]
  rfl

/-! ### The success of a frame (R118, R119) -/

/-- A success: the frame is off the line and the failure count 0, and the owner is told unless the outcome is discarded. -/
theorem exec_frameSuccess (own : OwnFrame) (ack refuse : Bool) (hr : s.pins.resetn = true) (ho : s.lc.onLine = some own)
    (hb : base = { s with lc := { offTheLine s.lc with failures := 0 } }) : exec (.frameSuccess ack refuse) s =
    .next (if own.restarted || own.stale then base else giveOutcome own.frame ack refuse base) := by
  refine exec_high hr (congrArg (goes s) ?_)
  rw [ho, hb]
  rfl

theorem exec_frameSuccess_told (own : OwnFrame) (ack refuse : Bool) (hr : s.pins.resetn = true)
    (ho : s.lc.onLine = some own) (hb : base = { s with lc := { offTheLine s.lc with failures := 0 } })
    (hre : own.restarted = false) (hst : own.stale = false) :
    exec (.frameSuccess ack refuse) s = .next (giveOutcome own.frame ack refuse base) := by
  rw [exec_frameSuccess own ack refuse hr ho hb, hre, hst]
  rfl

theorem giveOutcome_none (f : TxFrame) (ack refuse : Bool) (h : frameKind f = .trip ∨ frameKind f = .status) (x : State) :
    giveOutcome f ack refuse x = x := by
  cases f <;> simp [frameKind] at h <;> rfl

theorem giveOutcome_mail (f : TxFrame) (ack refuse : Bool) (h : frameKind f = .mail) (x : State) :
    giveOutcome f ack refuse x = mailReported ack refuse x := by
  cases f <;> simp [frameKind] at h
  rfl

theorem giveOutcome_join (f : TxFrame) (ack refuse : Bool) (h : frameKind f = .join) (x : State) :
    giveOutcome f ack refuse x = joinOutcome ack refuse x := by
  cases f <;> simp [frameKind] at h
  rfl

theorem giveOutcome_leave (f : TxFrame) (ack refuse : Bool) (h : frameKind f = .leave) (x : State) :
    giveOutcome f ack refuse x = leaveOutcome ack x := by
  cases f <;> simp [frameKind] at h
  rfl

/-- A JOINING station that is refused leaves the line for CONFLICT (R27). -/
def conflictEntered (x : State) : State := post .conflict (leaveLine false .conflict x)

theorem leftTheLine_conflict (x : State) : LeftTheLine .conflict x (conflictEntered x) := by
  have left := leftTheLine_leaveLine false .conflict x
  exact leftTheLine_of_blocks left rfl rfl rfl rfl ⟨rfl, rfl, rfl, rfl, rfl, rfl⟩ left.duty left.slots

theorem conflictEntered_lp (x : State) : eventsAdded (unlockedEvents x.tc ||| eventMask .conflict) x (conflictEntered x) := by
  have h : (conflictEntered x).lp = { (leaveLine false .conflict x).lp with
    events := (leaveLine false .conflict x).lp.events ||| eventMask .conflict } := rfl
  rw [eventsAdded, h, leaveLine_lp false .conflict x]
  simp [BitVec.or_assoc]

theorem joinOutcome_other (ack refuse : Bool) (h : x.mc.station ≠ .joining) : joinOutcome ack refuse x = x := if_neg h

theorem joinOutcome_refused (ack : Bool) (h : x.mc.station = .joining) : joinOutcome ack true x = conflictEntered x :=
  if_pos h

theorem joinOutcome_accepted (h : x.mc.station = .joining) : joinOutcome true false x =
    { x with mc := { x.mc with admission := { accepted := true, boundaries := 0 } } } := if_pos h

theorem joinOutcome_unanswered (h : x.mc.station = .joining) : joinOutcome false false x =
    countTry (mapMc fun mc => { mc with joinRefillDue := true }) x := if_pos h

theorem leaveOutcome_eq (ack : Bool) (x : State) : leaveOutcome ack x = { x with mc := { x.mc with
    leaveAcked := x.mc.leaveAcked || decide (x.mc.station = .leaving ∧ x.mc.role ≠ .reference ∧ ack = true) } } := by
  unfold leaveOutcome
  by_cases h : x.mc.station = .leaving ∧ x.mc.role ≠ .reference ∧ ack = true
  · simp [h, mapMc]
  · rw [if_neg (by simpa [and_assoc] using h)]
    simp [h]

/-- A refused JOIN, from the state its end on the line leaves (R27, R118). -/
theorem conflictEntered_from (hb : base = { s with lc := { offTheLine s.lc with failures := 0 } })
    (ht : t = conflictEntered base) :
    LeftTheLine .conflict s t ∧ phaseKept s t ∧ settingsKept s t ∧ t.tc = unlockedTrip s.tc ∧
      t.lc.slots = { TxSlots.empty with trip := s.lc.slots.trip } ∧ t.lc.txOn = s.lc.txOn ∧
      eventsAdded (unlockedEvents s.tc ||| eventMask .conflict) s t := by
  have lc : t.lc = (leaveLine false .conflict base).lc := by rw [ht]; rfl
  rw [leaveLine_lc] at lc
  subst ht hb
  refine ⟨leftTheLine_from (leftTheLine_conflict _) rfl rfl ⟨rfl, rfl, rfl, rfl, rfl, rfl⟩, leaveLine_phaseKept false .conflict _,
    leaveLine_settingsKept false .conflict _, leaveLine_tc false .conflict _, ?_, ?_, conflictEntered_lp _⟩
  · rw [lc]
    rfl
  · rw [lc]
    rfl

/-- Settles O49: the owner of each frame by `giveOutcome`, and no owner where the outcome is discarded. -/
theorem frameSuccess : Obligations.FrameSuccess := by
  refine ⟨fun s base ack refuse hr hb => ⟨fun hn => ?_, fun own ho => ⟨fun h => ?_, fun hre hst hk => ?_⟩⟩,
    fun s base own ack refuse hr hb ho hre hst => ⟨fun hk => ?_, fun hk => ?_⟩⟩
  · exact exec_high hr (congrArg (goes s) (by rw [hn]))
  · rw [exec_frameSuccess own ack refuse hr ho hb]
    rcases h with h | h | h
    · simp [h]
    · simp [h]
    · rw [giveOutcome_none _ _ _ h, ite_self]
  · have hmu : base.mu = s.mu := by rw [hb]
    rw [exec_frameSuccess_told own ack refuse hr ho hb hre hst, giveOutcome_mail _ _ _ hk]
    refine ⟨fun hf => by rw [mailReported_noFlight _ _ (by rw [hmu]; exact hf)], fun head rest hf hq => ⟨fun ha hd hlt => ?_,
      fun outcome h houtcome => ?_⟩⟩
    · rw [mailReported_eq ack refuse head rest (by rw [hmu]; exact hf) (by rw [hmu]; exact hq), ← hmu]
      simp [ha, hd, Nat.not_le.2 hlt, attemptCounted, mapMu]
    · rw [mailReported_complete ack refuse head rest outcome (by rw [hmu]; exact hf) (by rw [hmu]; exact hq) h houtcome,
        exec_mailCompletion _ (by rw [hb]; exact hr), hmu]
  · have hmc : base.mc = s.mc := by rw [hb]
    have hjoin (h : s.mc.station = .joining) : base.mc.station = .joining := by rw [hmc]; exact h
    rw [exec_frameSuccess_told own ack refuse hr ho hb hre hst, giveOutcome_join _ _ _ hk]
    refine ⟨fun hs => by rw [joinOutcome_other _ _ (by rw [hmc]; exact hs)], fun hs hf => ?_, fun hs hf ha => ?_,
      fun hs hf ha hlt => ?_, fun hs hf ha h3 => ?_⟩
    · rw [hf, joinOutcome_refused ack (hjoin hs)]
      exact ⟨_, rfl, conflictEntered_from hb rfl⟩
    · rw [hf, ha, joinOutcome_accepted (hjoin hs), hmc]
    · rw [hf, ha, joinOutcome_unanswered (hjoin hs), countTry_goesOn _ (by rw [hmc]; exact hlt), ← hmc]
      rfl
    · rw [hf, ha, joinOutcome_unanswered (hjoin hs), countTry_fails _ (by rw [hmc]; exact h3)]
      have hr' : base.pins.resetn = true := by rw [hb]; exact hr
      have fails : exec .joinFailure base = .next (joinFails base) :=
        exec_high hr' (congrArg (goes base) (if_pos (by simp [hs, hmc, h3])))
      exact fails.symm
  · have hmc : base.mc = s.mc := by rw [hb]
    rw [exec_frameSuccess_told own ack refuse hr ho hb hre hst, giveOutcome_leave _ _ _ hk, leaveOutcome_eq, hmc]

end Sys2Proof.Machine
end

section
namespace Sys2Proof.Machine

variable {s x t : State}

/-! ### Isolation (R34, R119, R120) -/

/-- With no attempt, no frame on the line and no slot full there is nothing for leaving the line to withdraw (R33). -/
theorem leaveLine_lc_clear (to_ : StationState) (x : State) (hs : x.lc.slots = .empty) (ha : x.lc.attempt = none)
    (ho : x.lc.onLine = none) : (leaveLine false to_ x).lc = x.lc := by
  have cleared : (emptyMcSlots false x).lc = x.lc := by
    rw [emptyMcSlots_lc]
    simp only [mcAttempt, ha, ho, hs, Option.any_none, mcFrameLeft, Option.map_none, Bool.false_eq_true, if_false]
    rw [← ha, ← ho, TxSlots.empty, ← TxSlots.empty, ← hs]
  have emptied : (emptySlot .mail (emptyMcSlots false x)).lc = { x.lc with
      slots := setSlot x.lc.slots .mail none, onLine := notReturnable .mail x.lc.onLine } := by
    simp only [emptySlot, mapLc_lc, cleared, ha, reduceCtorEq, if_false]
  rw [leaveLine_lc_chain, emptied, hs, ho]
  simp only [setSlot, notReturnable, Option.map_none]
  rw [← ho, TxSlots.empty, ← TxSlots.empty, ← hs]

/-- LC once the transmitter is off for good (R119, R120). -/
def silenced (x : State) : State := emptyAllSlots (transmitterOff x)

theorem silenced_lc (ho : x.lc.onLine = none) : (silenced x).lc = { x.lc with
    txOn := false, slots := .empty, attempt := none, ltx := true, onLine := none } := by
  simp [silenced, emptyAllSlots, transmitterOff, ho]

theorem silenced_blocks (x : State) : silenced x = { x with lc := (silenced x).lc } := rfl

theorem isolate_onLine (h : onLineState x.mc.station = true) :
    isolate x = post .isolated (leaveLine false .isolated (silenced x)) := by
  have hmc : (emptyAllSlots (transmitterOff x)).mc.station = x.mc.station := rfl
  unfold isolate
  dsimp only
  rw [hmc]
  cases hst : x.mc.station <;> simp [onLineState, hst] at h <;> rfl

theorem isolate_offLine (h : x.mc.station = .configured ∨ x.mc.station = .conflict) :
    isolate x = post .isolated (setStation .isolated (silenced x)) := by
  have hmc : (emptyAllSlots (transmitterOff x)).mc.station = x.mc.station := rfl
  unfold isolate
  dsimp only
  rw [hmc]
  rcases h with h | h <;> rw [h] <;> rfl

theorem isolate_stands (h : x.mc.station = .unconfigured ∨ x.mc.station = .isolated ∨ x.mc.station = .mismatch) :
    isolate x = silenced x := by
  have hmc : (emptyAllSlots (transmitterOff x)).mc.station = x.mc.station := rfl
  unfold isolate
  dsimp only
  rw [hmc]
  rcases h with h | h | h <;> rw [h] <;> rfl

theorem isolate_lc (ho : x.lc.onLine = none) : (isolate x).lc = (silenced x).lc := by
  cases hst : x.mc.station
  case listening | joining | member | leaving =>
    rw [isolate_onLine (by simp [onLineState, hst])]
    have lc := silenced_lc ho
    exact leaveLine_lc_clear .isolated (silenced x) (by rw [lc]) (by rw [lc]) (by rw [lc])
  case configured => rw [isolate_offLine (.inl hst)]; rfl
  case conflict => rw [isolate_offLine (.inr hst)]; rfl
  case unconfigured => rw [isolate_stands (.inl hst)]
  case isolated => rw [isolate_stands (.inr (.inl hst))]
  case mismatch => rw [isolate_stands (.inr (.inr hst))]

/-- What turns a station ISOLATED, from a state that differs from `s` in LC, and in MU's queue (R34, R119). -/
theorem isolatedFrom_isolate (moved : x.mc = s.mc ∧ x.tc = s.tc ∧ hostKept s x ∧
      x.mu.bufA = s.mu.bufA ∧ x.mu.bufB = s.mu.bufB ∧ x.mu.overflow = s.mu.overflow ∧ x.mu.ticket = s.mu.ticket)
    (hf : x.lc.failures = 16) (ho : x.lc.onLine = none)
    (hev : hasEvent x.lp.events .isolated = hasEvent s.lp.events .isolated) : isolatedFrom s (isolate x) := by
  obtain ⟨hmc, htc, host, inbound⟩ := moved
  have lc := (isolate_lc ho).trans (silenced_lc ho)
  refine ⟨by rw [lc]; exact hf, by rw [lc], by rw [lc], by rw [lc], by rw [lc], fun kind => by rw [lc]; cases kind <;> rfl,
    fun h => ?_, fun h => ?_, fun h => ?_⟩
  · rw [isolate_onLine (by rw [hmc]; exact h)]
    have left := leftTheLine_leaveLine false .isolated (silenced x)
    have posted : LeftTheLine .isolated (silenced x) (post .isolated (leaveLine false .isolated (silenced x))) :=
      leftTheLine_of_blocks left rfl rfl rfl rfl ⟨rfl, rfl, rfl, rfl, rfl, rfl⟩ left.duty left.slots
    exact ⟨{ posted with
      output := fun cfg hcfg => posted.output cfg (host.config.trans hcfg)
      inbound := by
        obtain ⟨ha, hb, hover, hticket⟩ := posted.inbound
        obtain ⟨ka, kb, kover, kticket⟩ := inbound
        exact ⟨ha.trans ka, hb.trans kb, hover.trans kover, hticket.trans kticket⟩
      causes := htc ▸ posted.causes
      host := hostKept_trans host posted.host }, by simp⟩
  · rw [isolate_offLine (by rw [hmc]; exact h)]
    refine ⟨?_, by simp⟩
    rw [← hmc]
    rfl
  · rw [isolate_stands (by rw [hmc]; exact h)]
    exact ⟨hmc, hev⟩

/-! ### The failure count (R119) -/

/-- The failure count set. -/
def setFailures (n : Nat) (x : State) : State := mapLc (fun lc => { lc with failures := n }) x

theorem fillSlot_setFailures (n : Nat) (f : TxFrame) (x : State) :
    fillSlot f (setFailures n x) = setFailures n (fillSlot f x) := by
  by_cases h : x.lc.txOn = true <;> simp [setFailures, fillSlot, mapLc, h]

/-- A complete head has left the queue, its receipt given (R128). -/
def headLeft (head : OutMail) (rest : List OutMail) (outcome : MailOutcome) (x : State) : State :=
  post .receipt (mapMu (fun mu => { mu with queue := rest, receipts := mu.receipts ++ [receiptOf head outcome] }) x)

/-- The mail behind a head that has left: it is filled if it is open, and else leaves in its turn (R128). -/
def nextHead (fuel : Nat) (rest : List OutMail) (x : State) : State :=
  match rest with
  | [] => x
  | next :: _ => if next.outcome.isNone then fillSlot (mailFrame next) x else completeHeads fuel x

theorem completeHeads_leaves (fuel : Nat) (head : OutMail) (rest : List OutMail) (outcome : MailOutcome)
    (hq : x.mu.queue = head :: rest) (ho : head.outcome = some outcome) (hroom : x.mu.receipts.length < 4) :
    completeHeads (fuel + 1) x = nextHead fuel rest (headLeft head rest outcome x) := by
  simp only [completeHeads, hq, ho, hroom, if_true]
  cases rest <;> rfl

theorem completeHeads_stays (fuel : Nat)
    (h : ∀ head, x.mu.queue.head? = some head → head.outcome = none ∨ 4 ≤ x.mu.receipts.length) :
    completeHeads fuel x = x := by
  cases fuel with
  | zero => rfl
  | succ fuel =>
    cases hq : x.mu.queue with
    | nil => simp [completeHeads, hq]
    | cons head rest =>
      rcases h head (by rw [hq]; rfl) with ho | hfull
      · simp [completeHeads, hq, ho]
      · cases ho : head.outcome with
        | none => simp [completeHeads, hq, ho]
        | some outcome => simp [completeHeads, hq, ho, Nat.not_lt.2 hfull]

/-- The failure count has no part in the mails that leave the queue (R119, R128). -/
theorem completeHeads_setFailures (n fuel : Nat) (x : State) :
    completeHeads fuel (setFailures n x) = setFailures n (completeHeads fuel x) := by
  induction fuel generalizing x with
  | zero => rfl
  | succ fuel ih =>
    by_cases hstays : ∀ head, x.mu.queue.head? = some head → head.outcome = none ∨ 4 ≤ x.mu.receipts.length
    · rw [completeHeads_stays _ hstays, completeHeads_stays _ (by exact hstays)]
    · push Not at hstays
      obtain ⟨head, hhead, ho, hroom⟩ := hstays
      obtain ⟨rest, hq⟩ : ∃ rest, x.mu.queue = head :: rest := by
        cases hx : x.mu.queue with
        | nil => simp [hx] at hhead
        | cons a rest => exact ⟨rest, by simpa [hx] using hhead⟩
      obtain ⟨outcome, ho⟩ := Option.ne_none_iff_exists'.1 ho
      rw [completeHeads_leaves fuel head rest outcome hq ho hroom,
        completeHeads_leaves fuel head rest outcome (by exact hq) ho (by exact hroom)]
      have left : headLeft head rest outcome (setFailures n x) = setFailures n (headLeft head rest outcome x) := rfl
      rw [left]
      cases rest with
      | nil => rfl
      | cons next rest =>
        rw [nextHead, nextHead, ih, fillSlot_setFailures]
        split <;> rfl

theorem settleQueue_setFailures (n : Nat) (x : State) : settleQueue (setFailures n x) = setFailures n (settleQueue x) :=
  completeHeads_setFailures n _ x

theorem settleQueue_failures (x : State) : (settleQueue x).lc.failures = x.lc.failures := by
  rw [settleQueue, (peersMoved_completeHeads _ x).lc]

theorem countFailure_isolates (h : 15 ≤ x.lc.failures) : countFailure x = isolate (setFailures 16 x) := by
  have sixteen : min 16 (x.lc.failures + 1) = 16 := by omega
  simp only [countFailure, sixteen, Nat.le_refl, if_true, setFailures, mapLc]

theorem countFailure_counts (h : x.lc.failures < 15) : countFailure x = setFailures (x.lc.failures + 1) x := by
  have below : min 16 (x.lc.failures + 1) = x.lc.failures + 1 := by omega
  simp only [countFailure, below, if_neg (show ¬16 ≤ x.lc.failures + 1 by omega), setFailures, mapLc]

/-! ### The failure of a frame (R118, R126, R129) -/

/-- LC with a failed frame off the line, and back in its slot if it is returnable (R118). -/
def returnedLc (own : OwnFrame) (lc : LineController) : LineController :=
  { offTheLine lc with
    slots := if own.returnable then setSlot lc.slots (frameKind own.frame) (some own.frame) else lc.slots }

theorem returnFrame_clearLine (own : OwnFrame) (x : State) :
    returnFrame own (clearLine x) = { x with lc := returnedLc own x.lc } := by
  unfold returnFrame returnedLc
  split <;> rfl

theorem mailFailed_noFlight (h : x.mu.inFlight = false) : mailFailed x = x := by simp [mailFailed, h]

theorem mailFailed_kept (head : OutMail) (rest : List OutMail) (hf : x.mu.inFlight = true)
    (hq : x.mu.queue = head :: rest) (hd : head.destLost = false) :
    mailFailed x = { x with mu := { x.mu with inFlight := false } } := by
  simp [mailFailed, hf, hq, hd, mapMu]

theorem mailFailed_lost (head : OutMail) (rest : List OutMail) (hf : x.mu.inFlight = true)
    (hq : x.mu.queue = head :: rest) (hd : head.destLost = true) : mailFailed x = settleQueue { x with
      mu := { x.mu with
        queue := { head with outcome := some .undelivered } :: rest, retryDue := false, inFlight := false }
      lc := (emptySlot .mail x).lc } := by
  have finish : mailFailed x = finishHead .undelivered (mapMu (fun mu => { mu with inFlight := false }) x) := by
    simp [mailFailed, hf, hq, hd]
  rw [finish, finishHead_eq .undelivered head rest (by exact hq)]
  rfl

theorem peersMoved_mailFailed (x : State) : PeersMoved x (mailFailed x) := by
  have landed : PeersMoved x (mapMu (fun mu => { mu with inFlight := false }) x) := peersMoved_mapMu x rfl
  unfold mailFailed
  split
  · exact .refl x
  · dsimp only
    split
    · exact landed
    · split
      · exact landed.trans (peersMoved_finishHead _ _)
      · exact landed

theorem peersMoved_failureNotice (f : TxFrame) (x : State) : PeersMoved x (failureNotice f x) := by
  cases f with
  | mail m => exact peersMoved_mailFailed x
  | _ => exact .refl x

theorem failureNotice_mail (f : TxFrame) (h : frameKind f = .mail) (x : State) : failureNotice f x = mailFailed x := by
  cases f <;> simp [frameKind] at h
  rfl

theorem failureNotice_other (f : TxFrame) (h : frameKind f ≠ .mail) (x : State) : failureNotice f x = x := by
  cases f with
  | mail m => exact absurd rfl h
  | _ => rfl

theorem exec_transmitFailure (own : OwnFrame) (hr : s.pins.resetn = true) (ho : s.lc.onLine = some own)
    (hre : own.restarted = false) : exec .transmitFailure s =
      .next (countFailure (failureNotice own.frame { s with lc := returnedLc own s.lc })) := by
  refine exec_high hr (congrArg (goes s) ?_)
  simp only [ho, hre, returnFrame_clearLine, Bool.false_eq_true, if_false]

/-- The sixteenth failure, after the owner has its notice (R119, log 16). -/
theorem isolatedFrom_failure (own : OwnFrame) (h : 15 ≤ s.lc.failures) :
    isolatedFrom s (countFailure (failureNotice own.frame { s with lc := returnedLc own s.lc })) := by
  generalize hx : ({ s with lc := returnedLc own s.lc } : State) = x
  have moved := peersMoved_failureNotice own.frame x
  generalize hy : failureNotice own.frame x = y at moved
  have hmc : y.mc = x.mc := by rw [← hy]; simp
  have hfail : y.lc.failures = x.lc.failures := by rw [moved.lc]
  have hline := moved.onLine_none (by rw [← hx]; rfl)
  have hev := hasEvent_of_eventsBetween moved.lp .isolated (by decide)
  have hmu := moved.mu
  have htc := moved.tc
  have host := moved.host
  subst hx
  rw [countFailure_isolates (by rw [hfail]; exact h)]
  refine isolatedFrom_isolate ⟨hmc, htc, host, ?_⟩ rfl hline hev
  simp only [setFailures, mapLc_mu]
  rw [hmu]
  exact ⟨rfl, rfl, rfl, rfl⟩

/-- Settles O51: below 16 failures the owner's notice by `failureNotice`, and at 16 `isolatedFrom_isolate`. -/
theorem transmitFailures : Obligations.TransmitFailures := by
  intro s hr
  refine ⟨fun hn => ?_, fun h => ?_, fun htx h => ?_, fun own lc ho => ⟨fun hre => ?_, fun hre h => ?_, fun hre hlt hlc => ?_⟩⟩
  · exact exec_high hr (congrArg (goes s) (by rw [hn]))
  · refine exec_high hr (congrArg (goes s) (if_neg ?_))
    rcases h with h | h
    · simp [h]
    · simp [Nat.not_le.2 h]
  · refine ⟨_, exec_high hr (congrArg (goes s) (if_pos (by simp [htx, h]))), ?_⟩
    exact isolatedFrom_isolate ⟨rfl, rfl, ⟨rfl, rfl, rfl, rfl, rfl, rfl⟩, rfl, rfl, rfl, rfl⟩ rfl rfl rfl
  · refine exec_high hr (congrArg (goes s) ?_)
    simp only [ho, hre, if_true]
    rfl
  · exact ⟨_, exec_transmitFailure own hr ho hre, isolatedFrom_failure own h⟩
  have counted : ({ s with lc := lc } : State) = setFailures (s.lc.failures + 1) { s with lc := returnedLc own s.lc } := by
    rw [hlc]
    rfl
  rw [exec_transmitFailure own hr ho hre]
  refine ⟨fun h => ?_, fun head rest hk hf hq => ⟨fun hd => ?_, fun hd => ?_⟩⟩
  · have noAction : failureNotice own.frame { s with lc := returnedLc own s.lc } = { s with lc := returnedLc own s.lc } := by
      by_cases hk : frameKind own.frame = .mail
      · rw [failureNotice_mail _ hk, mailFailed_noFlight (by exact h.resolve_left fun hne => hne hk)]
      · rw [failureNotice_other _ hk]
    rw [noAction, countFailure_counts (by exact hlt), counted]
    rfl
  · rw [failureNotice_mail _ hk, mailFailed_kept head rest (by exact hf) (by exact hq) hd, countFailure_counts (by exact hlt)]
    rw [hlc]
    rfl
  · have below (x : State) (h : x.lc.failures = s.lc.failures) :
        countFailure (settleQueue x) = settleQueue (setFailures (s.lc.failures + 1) x) := by
      rw [← settleQueue_failures] at h
      rw [countFailure_counts (by omega), h, settleQueue_setFailures]
    rw [failureNotice_mail _ hk, mailFailed_lost head rest (by exact hf) (by exact hq) hd, below, exec_mailCompletion _ (by exact hr)]
    · rw [hlc]
      rfl
    · rfl

end Sys2Proof.Machine
end

section
namespace Sys2Proof.Machine

variable {s : State}

/-! ### The numbers of bytes and words (10.1) -/

theorem toNat_append_add {n m : Nat} (x : BitVec n) (y : BitVec m) : (x ++ y).toNat = x.toNat * 2 ^ m + y.toNat := by
  rw [BitVec.toNat_append, Nat.shiftLeft_eq, Nat.mul_comm, Nat.two_pow_add_eq_or_of_lt y.isLt]

theorem flag_toNat (b : Bool) : (flag b).toNat = b.toNat := BitVec.toNat_ofBool b

theorem natByte_toNat (n : Nat) : (natByte n).toNat = n % 256 := BitVec.toNat_ofNat n 8

theorem idByte_toNat (id : StationId) : (idByte id).toNat = id.val := by
  have := id.isLt
  rw [idByte, BitVec.toNat_ofNat]
  omega

theorem wordBytes_toNat (w : BitVec 16) : (wordBytes w).map BitVec.toNat = [w.toNat / 256, w.toNat % 256] := by
  have := w.isLt
  simp only [wordBytes, List.map_cons, List.map_nil, BitVec.extractLsb'_toNat, Nat.shiftRight_eq_div_pow,
    List.cons.injEq, and_true]
  omega

theorem natWordBytes_toNat (n : Nat) : (natWordBytes n).map BitVec.toNat = [n / 256 % 256, n % 256] := by
  rw [natWordBytes, wordBytes_toNat, BitVec.toNat_ofNat]
  simp only [List.cons.injEq, and_true]
  omega

theorem eventBytes_toNat (e : EventSet) :
    (eventBytes e).map BitVec.toNat = [e.toNat / 65536, e.toNat / 256 % 256, e.toNat % 256] := by
  have := e.isLt
  simp only [eventBytes, tripleBytes, List.map_cons, List.map_nil, BitVec.extractLsb'_toNat, Nat.shiftRight_eq_div_pow,
    BitVec.toNat_setWidth, List.cons.injEq, and_true]
  omega

theorem maskBytes_toNat (m : MemberMask) : (maskBytes m).map BitVec.toNat =
    [m.toNat / 16777216, m.toNat / 65536 % 256, m.toNat / 256 % 256, m.toNat % 256] := by
  have := m.isLt
  simp only [maskBytes, List.map_cons, List.map_nil, BitVec.extractLsb'_toNat, Nat.shiftRight_eq_div_pow,
    List.cons.injEq, and_true, Nat.reducePow]
  exact ⟨by omega, trivial, trivial, by omega⟩

/-! ### The bytes of flags and codes (10.4) -/

theorem stationByte_toNat (station : BitVec 4) (role : BitVec 2) :
    (station ++ role ++ 0#2 : Byte).toNat = 16 * station.toNat + 4 * role.toNat := by
  refine (toNat_append_add _ _).trans ?_
  simp only [toNat_append_add, BitVec.toNat_ofNat]
  omega

theorem lockByte_toNat (run migrating : Bool) (lock : BitVec 2) :
    (flag run ++ lock ++ flag migrating ++ 0#4 : Byte).toNat = 128 * run.toNat + 32 * lock.toNat + 16 * migrating.toNat := by
  refine (toNat_append_add _ _).trans ?_
  simp only [toNat_append_add, flag_toNat, BitVec.toNat_ofNat]
  omega

theorem outputByte_toNat (output : BitVec 2) (a b c d : Bool) :
    (output ++ flag a ++ flag b ++ flag c ++ flag d ++ 0#2 : Byte).toNat =
      64 * output.toNat + 32 * a.toNat + 16 * b.toNat + 8 * c.toNat + 4 * d.toNat := by
  refine (toNat_append_add _ _).trans ?_
  simp only [toNat_append_add, flag_toNat, BitVec.toNat_ofNat]
  omega

theorem codeByte_toNat (code : BitVec 2) : (0#6 ++ code : Byte).toNat = code.toNat := by
  refine (toNat_append_add _ _).trans ?_
  simp only [BitVec.toNat_ofNat]
  omega

theorem flagByte_toNat (b : Bool) : (0#7 ++ flag b : Byte).toNat = b.toNat := by
  refine (toNat_append_add _ _).trans ?_
  simp only [flag_toNat, BitVec.toNat_ofNat]
  omega

theorem lineByte_toNat (a b c : Bool) (n : Nat) (h : n ≤ 16) :
    (flag a ++ flag b ++ flag c ++ BitVec.ofNat 5 n : Byte).toNat = 128 * a.toNat + 64 * b.toNat + 32 * c.toNat + n := by
  refine (toNat_append_add _ _).trans ?_
  simp only [toNat_append_add, flag_toNat, BitVec.toNat_ofNat]
  omega

theorem slotsByte_toNat (slots : TxSlots) : (slotsByte slots).toNat =
    slots.trip.isSome.toNat + 2 * slots.beacon.isSome.toNat + 8 * slots.join.isSome.toNat +
      16 * slots.leave.isSome.toNat + 32 * slots.status.isSome.toNat + 64 * slots.mail.isSome.toNat := by
  refine (toNat_append_add _ _).trans ?_
  simp only [toNat_append_add, flag_toNat, BitVec.toNat_ofNat]
  omega

theorem queueByte_toNat (n a : Nat) (b : Bool) (hn : n ≤ 4) (ha : a ≤ 3) :
    (BitVec.ofNat 3 n ++ flag b ++ BitVec.ofNat 2 a ++ 0#2 : Byte).toNat = 32 * n + 16 * b.toNat + 4 * a := by
  refine (toNat_append_add _ _).trans ?_
  simp only [toNat_append_add, flag_toNat, BitVec.toNat_ofNat]
  omega

theorem receiptsByte_toNat (n : Nat) (a b c : Bool) (hn : n ≤ 4) :
    (BitVec.ofNat 3 n ++ flag a ++ flag b ++ flag c ++ 0#2 : Byte).toNat =
      32 * n + 16 * a.toNat + 8 * b.toNat + 4 * c.toNat := by
  refine (toNat_append_add _ _).trans ?_
  simp only [toNat_append_add, flag_toNat, BitVec.toNat_ofNat]
  omega

theorem entryByte_toNat (a b : Bool) (code : BitVec 3) :
    (flag a ++ flag b ++ 0#3 ++ code : Byte).toNat = 128 * a.toNat + 64 * b.toNat + code.toNat := by
  refine (toNat_append_add _ _).trans ?_
  simp only [toNat_append_add, flag_toNat, BitVec.toNat_ofNat]
  omega

theorem reportByte_toNat (r : Report) : (reportByte r).toNat =
    64 * (lockCode r.lock).toNat + 32 * r.active.toNat + 16 * r.tripped.toNat + 4 * (roleCode r.role).toNat := by
  refine (toNat_append_add _ _).trans ?_
  simp only [toNat_append_add, BitVec.toNat_ofBool, BitVec.toNat_ofNat]
  omega

theorem idFieldByte_toNat (n : Nat) (h : n < 32) : (1#1 ++ 0#2 ++ BitVec.ofNat 5 n : Byte).toNat = 128 + n := by
  refine (toNat_append_add _ _).trans ?_
  simp only [toNat_append_add, BitVec.toNat_ofNat]
  omega

theorem tripByte_toNat (a b : Bool) (code : BitVec 2) :
    (flag a ++ flag b ++ 0#4 ++ code : Byte).toNat = 128 * a.toNat + 64 * b.toNat + code.toNat := by
  refine (toNat_append_add _ _).trans ?_
  simp only [toNat_append_add, flag_toNat, BitVec.toNat_ofNat]
  omega

theorem causesByte_toNat (a b c d e : Bool) :
    (0#1 ++ flag a ++ 0#1 ++ flag b ++ 0#1 ++ flag c ++ flag d ++ flag e : Byte).toNat =
      e.toNat + 2 * d.toNat + 4 * c.toNat + 16 * b.toNat + 64 * a.toNat := by
  refine (toNat_append_add _ _).trans ?_
  simp only [toNat_append_add, flag_toNat, BitVec.toNat_ofNat]
  omega

/-! ### The status record -/

theorem onLineByte_toNat (own : Option OwnFrame) :
    (onLineByte own).toNat = (own.map fun own => kindCode (frameKind own.frame)).getD 0 := by
  cases own with
  | none => rfl
  | some own =>
    have : kindCode (frameKind own.frame) ≤ 6 := by cases frameKind own.frame <;> decide
    rw [onLineByte, natByte_toNat, Option.map_some, Option.getD_some]
    omega

theorem firstTimed_toNat (pcu : ChannelUnit) :
    (firstTimed pcu).toNat = (pcu.timed.head?.map fun r => r.epoch.toNat).getD 0 := by
  unfold firstTimed
  cases pcu.timed <;> rfl

theorem headBlocked_eq (mu : MailUnit) (h : mu.receipts.length ≤ 4) :
    headBlocked mu = ((mu.queue.head?.bind (·.outcome)).isSome && decide (mu.receipts.length = 4)) := by
  have full : decide (4 ≤ mu.receipts.length) = decide (mu.receipts.length = 4) := by
    rw [decide_eq_decide]
    omega
  unfold headBlocked
  cases mu.queue with
  | nil => rfl
  | cons head rest => simp only [List.head?_cons, Option.bind_some, full]

theorem headAttempts_eq (mu : MailUnit) : headAttempts mu = (mu.queue.head?.map (·.attempts)).getD 0 := by
  unfold headAttempts
  cases mu.queue <;> rfl

theorem headAttempts_le (h : mailLaw s) : headAttempts s.mu ≤ 3 := by
  obtain ⟨-, -, attempts, -⟩ := h
  unfold headAttempts
  cases hq : s.mu.queue with
  | nil => simp
  | cons head rest => exact (attempts head (by simp [hq])).1

theorem statusTbBytes_toNat (s : State) : (statusTbBytes s).map BitVec.toNat =
    if s.config = none then [0, 0, 0, 0, 0, 0, 0, 0, 0]
    else
      [s.tb.epoch.toNat / 256, s.tb.epoch.toNat % 256, s.tb.carrier % 256, s.tb.position / 256 % 256,
        s.tb.position % 256, s.tb.current / 256 % 256, s.tb.current % 256, s.tb.target / 256 % 256,
        s.tb.target % 256] := by
  unfold statusTbBytes running
  cases s.config with
  | none => rfl
  | some cfg =>
    simp only [Option.isSome_some, if_true, List.map_append, wordBytes_toNat, natWordBytes_toNat, List.map_cons,
      List.map_nil, natByte_toNat]
    rfl

/-! ### The roster entry, the epoch record and the trip record -/

theorem rosterRecord_toNat (s : State) (id : StationId) (e : RosterEntry) (he : rosterEntry s id = e) :
    (rosterRecord s id).map BitVec.toNat =
      [id.val, 128 * e.report.isSome.toNat + 64 * e.phaseError.isSome.toNat + (entryCode e.state).toNat, e.silence % 256,
        e.lastHeard.toNat / 256, e.lastHeard.toNat % 256,
        (e.report.map fun r =>
          64 * (lockCode r.lock).toNat + 32 * r.active.toNat + 16 * r.tripped.toNat + 4 * (roleCode r.role).toNat).getD 0,
        (e.phaseError.map BitVec.toNat).getD 0] := by
  have report : ((e.report.map reportByte).getD 0).toNat = (e.report.map fun r =>
      64 * (lockCode r.lock).toNat + 32 * r.active.toNat + 16 * r.tripped.toNat + 4 * (roleCode r.role).toNat).getD 0 := by
    cases e.report with
    | none => rfl
    | some r => exact reportByte_toNat r
  have phase : (e.phaseError.getD 0).toNat = (e.phaseError.map BitVec.toNat).getD 0 := by cases e.phaseError <;> rfl
  simp only [rosterRecord, he, List.map_append, List.map_cons, List.map_nil, idByte_toNat, entryByte_toNat, natByte_toNat,
    wordBytes_toNat, report, phase]
  rfl

theorem maskRank_lt (m : MemberMask) (id : StationId) (h : inMask m id = true) : maskRank m id < 32 := by
  have mem : id ∈ maskIds m := by simp [maskIds, h]
  have fewer : maskRank m id < (maskIds m).length :=
    List.length_filter_lt_length_iff_exists.2 ⟨id, mem, by simp⟩
  have size : (maskIds m).length ≤ 32 := (List.length_filter_le _ _).trans (by simp)
  omega

theorem maskSize_le (m : MemberMask) : maskSize m ≤ 32 := (List.length_filter_le _ _).trans (by simp)

theorem epochRecord_none (h : s.mc.record = none) : (epochRecord s).map BitVec.toNat =
    [0, 0, 0, 0, 0, 0, 0, 0, 0, 0, 0, 0, s.tb.epoch.toNat / 256, s.tb.epoch.toNat % 256, (lockCode s.tb.lock).toNat] := by
  simp only [epochRecord, h, epochRecordBytes, List.map_append, wordBytes_toNat, List.map_cons, List.map_nil,
    codeByte_toNat]
  rfl

theorem slotRank_lt (h : recordLaw s) (r : EpochRecord) (slot : Slot) (hr : s.mc.record = some r) (hs : r.slot = some slot) :
    slot.rank < 32 := by
  obtain ⟨held, notHeld⟩ := h
  cases hst : slotState s.mc.station with
  | false => simp [notHeld hst r hr] at hs
  | true =>
    obtain ⟨cfg, r', -, hr', hin, hslot⟩ := held hst
    obtain rfl : r = r' := Option.some.inj (hr.symm.trans hr')
    obtain rfl : slot = slotIn cfg r.mask s.sid := Option.some.inj (hs.symm.trans hslot)
    exact maskRank_lt r.mask s.sid hin

/-- The reference's byte of the epoch record (10.4). -/
def referenceByte : Option StationId → Byte
  | none => 0
  | some id => 1#1 ++ 0#2 ++ BitVec.ofNat 5 id.val

/-- The own rank's and the own target's bytes of the epoch record (10.4). -/
def slotBytes : Option Slot → List Byte
  | none => [0, 0, 0]
  | some slot => (1#1 ++ 0#2 ++ BitVec.ofNat 5 slot.rank) :: natWordBytes slot.target

theorem epochRecordBytes_some (r : EpochRecord) : epochRecordBytes (some r) =
    wordBytes r.epoch ++ maskBytes r.mask ++ [natByte (maskSize r.mask), referenceByte r.reference] ++ slotBytes r.slot ++
      [(0#7 ++ flag r.handover : Byte)] := rfl

theorem referenceByte_toNat (reference : Option StationId) :
    (referenceByte reference).toNat = (reference.map fun id => 128 + id.val).getD 0 := by
  cases reference with
  | none => rfl
  | some id => exact idFieldByte_toNat id.val id.isLt

theorem slotBytes_toNat (slot : Option Slot) (h : ∀ own, slot = some own → own.rank < 32) :
    (slotBytes slot).map BitVec.toNat = [(slot.map fun slot => 128 + slot.rank).getD 0,
      (slot.map fun slot => slot.target / 256 % 256).getD 0, (slot.map fun slot => slot.target % 256).getD 0] := by
  cases slot with
  | none => rfl
  | some own =>
    rw [slotBytes, List.map_cons, idFieldByte_toNat own.rank (h own rfl), natWordBytes_toNat]
    rfl

theorem epochRecord_some (r : EpochRecord) (hr : s.mc.record = some r) (hlaw : recordLaw s) :
    (epochRecord s).map BitVec.toNat =
      [r.epoch.toNat / 256, r.epoch.toNat % 256, r.mask.toNat / 16777216, r.mask.toNat / 65536 % 256,
        r.mask.toNat / 256 % 256, r.mask.toNat % 256, maskSize r.mask,
        (r.reference.map fun id => 128 + id.val).getD 0, (r.slot.map fun slot => 128 + slot.rank).getD 0,
        (r.slot.map fun slot => slot.target / 256 % 256).getD 0, (r.slot.map fun slot => slot.target % 256).getD 0,
        r.handover.toNat, s.tb.epoch.toNat / 256, s.tb.epoch.toNat % 256, (lockCode s.tb.lock).toNat] := by
  have size : maskSize r.mask % 256 = maskSize r.mask := Nat.mod_eq_of_lt (by have := maskSize_le r.mask; omega)
  have slot := slotBytes_toNat r.slot fun own => slotRank_lt hlaw r own hr
  simp only [epochRecord, hr, epochRecordBytes_some, List.map_append, wordBytes_toNat, maskBytes_toNat, List.map_cons,
    List.map_nil, natByte_toNat, size, referenceByte_toNat, slot, flagByte_toNat, codeByte_toNat]
  rfl

theorem tripRecord_toNat (h : tripLaw s) : (tripRecord s).map BitVec.toNat =
    [128 * (s.pins.tripn && !anyCause s.tc.causes).toNat + 64 * (anyCause s.tc.causes).toNat + (tripCode s.tc.trip).toNat,
      s.tc.causes.pin.toNat + 2 * s.tc.causes.command.toNat + 4 * s.tc.causes.line.toNat +
        16 * (s.tc.causes.pin && !s.pins.fltn).toNat + 64 * (s.tc.causes.line && s.lc.lineActive).toNat,
      s.tc.tripEpoch.isSome.toNat, (s.tc.tripEpoch.map fun e => e.toNat / 256).getD 0,
      (s.tc.tripEpoch.map fun e => e.toNat % 256).getD 0, s.tc.origins.length] ++
    s.tc.origins.map (·.val) ++ List.replicate (8 - s.tc.origins.length) 0 := by
  obtain ⟨-, eight, -⟩ := h
  have length : s.tc.origins.length % 256 = s.tc.origins.length := Nat.mod_eq_of_lt (by omega)
  have origins : (((s.tc.origins.map idByte) ++ List.replicate 8 0).take 8).map BitVec.toNat =
      s.tc.origins.map (·.val) ++ List.replicate (8 - s.tc.origins.length) 0 := by
    rw [List.take_append, List.take_of_length_le (by simpa using eight), List.length_map, List.take_replicate,
      Nat.min_eq_left (Nat.sub_le _ _)]
    simp [Function.comp_def, idByte_toNat]
  simp only [tripRecord, List.map_append, List.map_cons, List.map_nil, tripByte_toNat, causesByte_toNat, flagByte_toNat,
    wordBytes_toNat, natByte_toNat, length, origins]
  cases s.tc.tripEpoch <;> simp [tripnHigh, drivesTripn, pinActive, lineCauseActive]

/-- Settles O6: each record's bytes, by the layouts above. -/
theorem recordBytes : Obligations.RecordBytes := by
  refine ⟨fun s hcounts hmail => ?_, fun s => ⟨fun id hid => ?_, fun hst => ?_, fun hst => ?_,
    epochRecord_none, fun r hr hlaw => epochRecord_some r hr hlaw, tripRecord_toNat⟩⟩
  · have attempts := headAttempts_le hmail
    rw [headAttempts_eq] at attempts
    obtain ⟨-, -, failures⟩ := hcounts
    obtain ⟨queue, receipts, -⟩ := hmail
    simp only [statusRecord, List.map_append, List.map_cons, List.map_nil, idByte_toNat, stationByte_toNat, lockByte_toNat,
      statusTbBytes_toNat, outputByte_toNat, natByte_toNat, wordBytes_toNat, firstTimed_toNat, codeByte_toNat,
      lineByte_toNat _ _ _ _ failures, slotsByte_toNat, onLineByte_toNat, queueByte_toNat _ _ _ queue attempts,
      headBlocked_eq _ receipts, headAttempts_eq, receiptsByte_toNat _ _ _ _ receipts, eventBytes_toNat, List.append_assoc]
    rfl
  · exact rosterRecord_toNat s id _ (rosterEntry_peer id hid)
  · refine ⟨reportedError s, reportedError_zero, fun e => reportedError_toInt e, ?_⟩
    rw [rosterRecord_toNat s s.sid (ownEntry s) (if_pos rfl)]
    have slot : slotState s.mc.station = true := by rcases hst with hst | hst <;> rw [hst] <;> rfl
    have code : (entryCode (mirroredState s.mc.station)).toNat = if s.mc.station = .member then 2 else 3 := by
      rcases hst with hst | hst <;> rw [hst] <;> rfl
    have active : 32 * (decide (s.pcu.output = .active)).toNat = if s.pcu.output = .active then 32 else 0 := by
      split <;> simp [*]
    have tripped : 16 * (decide (s.tc.trip ≠ .armed)).toNat = if s.tc.trip = .armed then 0 else 16 := by
      split <;> simp [*]
    simp only [ownEntry, ownReport_eq, slot, if_true, code, Option.isSome_some, Option.map_some, Option.getD_some, active,
      tripped]
    rfl
  · rw [rosterRecord_toNat s s.sid (ownEntry s) (if_pos rfl)]
    simp only [ownEntry, hst, Bool.false_eq_true, if_false]
    cases hstation : s.mc.station <;> simp [hstation, slotState, mirroredState, entryCode] at hst ⊢

end Sys2Proof.Machine
end

section
namespace Sys2Proof.Machine

variable {s x y z t : State} {id : StationId}

/-! ### The head of the mail queue while peers come and go (R126, R127, R129) -/

/-- The head of the queue, its flight, its retry and its slot stand. -/
structure HeadKept (x y : State) : Prop where
  head : y.mu.queue.head? = x.mu.queue.head?
  inFlight : y.mu.inFlight = x.mu.inFlight
  retryDue : y.mu.retryDue = x.mu.retryDue
  slot : y.lc.slots.mail = x.lc.slots.mail
  txOn : y.lc.txOn = x.lc.txOn

theorem HeadKept.refl (x : State) : HeadKept x x := ⟨rfl, rfl, rfl, rfl, rfl⟩

theorem HeadKept.trans (h : HeadKept x y) (k : HeadKept y z) : HeadKept x z :=
  ⟨k.head.trans h.head, k.inFlight.trans h.inFlight, k.retryDue.trans h.retryDue, k.slot.trans h.slot, k.txOn.trans h.txOn⟩

/-- A step of another block, or of another slot, keeps the head. -/
theorem headKept_of_mu (hmu : y.mu = x.mu) (hslot : y.lc.slots.mail = x.lc.slots.mail) (htx : y.lc.txOn = x.lc.txOn) :
    HeadKept x y :=
  ⟨by rw [hmu], by rw [hmu], by rw [hmu], hslot, htx⟩

/-- The head waits for its outcome, and it is for an ID. -/
def openHeadFor (id : StationId) (x : State) : Prop :=
  ∃ head, x.mu.queue.head? = some head ∧ head.outcome = none ∧ head.destination = id

theorem HeadKept.openHeadFor_iff (h : HeadKept x y) : openHeadFor id y ↔ openHeadFor id x := by
  rw [openHeadFor, h.head, openHeadFor]

/-- A change of an entry that does not end mail for its ID (R129). -/
def entryStays (e e' : RosterEntry) : Prop := e'.state = e.state ∨ (e'.state ≠ .lost ∧ e'.state ≠ .absent)

theorem entryStays_refl (e : RosterEntry) : entryStays e e := .inl rfl

theorem destinationGone_headKept (h : ¬openHeadFor id x) : HeadKept x (destinationGone id x) := by
  have other : ∀ head, x.mu.queue.head? = some head → head.destination ≠ id ∨ head.outcome ≠ none := fun head hq => by
    by_cases hd : head.destination = id
    · exact .inr fun ho => h ⟨head, hq, ho, hd⟩
    · exact .inl hd
  rw [destinationGone_other other]
  have hmu := mailsLost_mu id x
  exact ⟨by rw [hmu]; exact loseBehind_head? id _, by rw [hmu], by rw [hmu], rfl, rfl⟩

theorem mapEntry_headKept (f : RosterEntry → RosterEntry) : HeadKept x (mapEntry id f x) :=
  headKept_of_mu (by simp) (by simp) (by simp)

/-- A change of an entry's state keeps the head unless it ends mail for the head's destination. -/
theorem setEntryState_headKept (state : EntryState) (fresh : Bool)
    (h : openHeadFor id x → x.mc.roster[id.val].state = state ∨ (state ≠ .lost ∧ state ≠ .absent)) :
    HeadKept x (setEntryState id state fresh x) := by
  unfold setEntryState
  by_cases hid : id = x.sid
  · rw [if_pos hid]; exact .refl x
  by_cases hs : x.mc.roster[id.val].state = state
  · rw [if_neg hid]; dsimp only; rw [if_pos hs]; exact .refl x
  rw [if_neg hid]
  dsimp only
  rw [if_neg hs]
  have posted : HeadKept x (postIf (state == .lost) .peerLost
      (mapEntry id (fun e => { e with state := state, silence := if fresh then 0 else e.silence }) x)) :=
    headKept_of_mu (by simp [postIf_eq]) (by simp [postIf_eq]) (by simp [postIf_eq])
  split
  next hgone =>
    refine posted.trans (destinationGone_headKept fun hopen => ?_)
    obtain hsame | ⟨hl, ha⟩ := h (posted.openHeadFor_iff.1 hopen)
    · exact hs hsame
    · simp [hl, ha] at hgone
  · exact posted

/-- What each step of a walk over the IDs keeps, the walk keeps. -/
theorem forEachId_preserves {P : State → Prop} {f : StationId → State → State} (hf : ∀ id y, P y → P (f id y)) (x : State)
    (h : P x) : P (forEachId f x) := by
  unfold forEachId
  generalize List.finRange 32 = ids
  induction ids generalizing x with
  | nil => exact h
  | cons id ids ih => exact ih _ (hf id x h)

/-- A walk over the IDs that changes each entry by itself keeps the head unless it ends mail for the head's destination. -/
theorem forEachId_headKept {f : StationId → State → State} {g : StationId → RosterEntry → RosterEntry} (own : StationId)
    (hf : ∀ id y, y.sid = own → (f id y).sid = own ∧
      ∀ j : StationId, (f id y).mc.roster[j.val] = if j = id then g id y.mc.roster[id.val] else y.mc.roster[j.val])
    (hk : ∀ id y, y.sid = own → (openHeadFor id y → entryStays y.mc.roster[id.val] (g id y.mc.roster[id.val])) →
      HeadKept y (f id y))
    (x : State) (hx : x.sid = own) (h : ∀ id, openHeadFor id x → entryStays x.mc.roster[id.val] (g id x.mc.roster[id.val])) :
    HeadKept x (forEachId f x) := by
  have walk (ids : List StationId) (hn : ids.Nodup) : ∀ y : State, y.sid = own →
      (∀ id ∈ ids, openHeadFor id y → entryStays y.mc.roster[id.val] (g id y.mc.roster[id.val])) →
      HeadKept y (ids.foldl (fun s i => f i s) y) := by
    induction ids with
    | nil => intro y _ _; exact .refl y
    | cons id ids ih =>
      intro y hy hstays
      obtain ⟨hid, hn⟩ := List.nodup_cons.1 hn
      obtain ⟨hown, hroster⟩ := hf id y hy
      have first := hk id y hy (hstays id List.mem_cons_self)
      refine first.trans (ih hn _ hown fun j hj hopen => ?_)
      have hne : j ≠ id := fun he => hid (he ▸ hj)
      rw [hroster, if_neg hne]
      exact hstays j (List.mem_cons_of_mem _ hj) (first.openHeadFor_iff.1 hopen)
  exact walk _ (List.nodup_finRange 32) x hx fun id _ => h id

/-! #### Silence counting, entry by entry (R40) -/

/-- An entry of the roster after silence counting, the own one included (R36, R40). -/
def countedAt (n : Nat) (own id : StationId) (e : RosterEntry) : RosterEntry := if id = own then e else countedEntry n e

theorem silenceCounted_roster (hid : id ≠ x.sid) (j : StationId) : (silenceCounted id x).mc.roster[j.val] =
    if j = id then { x.mc.roster[id.val] with silence := x.mc.roster[id.val].silence + 1 } else x.mc.roster[j.val] := by
  rw [silenceCounted_eq hid]
  exact roster_set _ _ _ _

theorem countSilenceOf_roster (n : Nat) (id j : StationId) (x : State) : (countSilenceOf n id x).mc.roster[j.val] =
    if j = id then countedAt n x.sid id x.mc.roster[id.val] else x.mc.roster[j.val] := by
  by_cases hidle : id = x.sid ∨ (x.mc.roster[id.val].state ≠ .member ∧ x.mc.roster[id.val].state ≠ .leaving)
  · rw [countSilenceOf_idle n hidle]
    by_cases hj : j = id
    · subst hj
      obtain hown | ⟨hm, hl⟩ := hidle
      · simp [countedAt, hown]
      · simp [countedAt, countedEntry, hm, hl]
    · simp [hj]
  · obtain ⟨hid, hcounts⟩ := not_or.1 hidle
    have hs : x.mc.roster[id.val].state = .member ∨ x.mc.roster[id.val].state = .leaving := by
      by_contra hno
      exact hcounts (not_or.1 hno)
    have hne : x.mc.roster[id.val].state ≠ .lost := by rcases hs with h | h <;> simp [h]
    rw [countSilenceOf_counts n hid hs]
    by_cases hn : n ≤ x.mc.roster[id.val].silence + 1
    · have hsid : (silenceCounted id x).sid = x.sid := by rw [silenceCounted_eq hid]
      rw [if_pos hn, setEntryState_roster, silenceCounted_roster hid, silenceCounted_roster hid, hsid]
      by_cases hj : j = id <;> simp [hj, hid, hne, countedAt, countedEntry, hs, hn]
    · rw [if_neg hn, silenceCounted_roster hid]
      by_cases hj : j = id
      · simp [hj, hid, countedAt, countedEntry, hs, hn]
      · simp [hj]

theorem countSilenceOf_headKept (n : Nat)
    (h : openHeadFor id x → entryStays x.mc.roster[id.val] (countedAt n x.sid id x.mc.roster[id.val])) :
    HeadKept x (countSilenceOf n id x) := by
  by_cases hidle : id = x.sid ∨ (x.mc.roster[id.val].state ≠ .member ∧ x.mc.roster[id.val].state ≠ .leaving)
  · rw [countSilenceOf_idle n hidle]; exact .refl x
  · obtain ⟨hid, hcounts⟩ := not_or.1 hidle
    have hs : x.mc.roster[id.val].state = .member ∨ x.mc.roster[id.val].state = .leaving := by
      by_contra hno
      exact hcounts (not_or.1 hno)
    have hne : x.mc.roster[id.val].state ≠ .lost := by rcases hs with h | h <;> simp [h]
    have counted : HeadKept x (silenceCounted id x) := mapEntry_headKept _
    rw [countSilenceOf_counts n hid hs]
    split
    next hn =>
      refine counted.trans (setEntryState_headKept _ _ fun hopen => ?_)
      have hstays := h (counted.openHeadFor_iff.1 hopen)
      simp [entryStays, countedAt, countedEntry, hid, hs, hn, Ne.symm hne] at hstays
    · exact counted

theorem countSilence_roster (n : Nat) (hg : groupState x.mc.station = true) (id : StationId) :
    (countSilence n x).mc.roster[id.val] = countedAt n x.sid id x.mc.roster[id.val] := by
  rw [countSilence, if_pos hg]
  refine forEachId_roster (g := countedAt n x.sid) x.sid (fun j y hy => ⟨by simp [hy], fun k => ?_⟩) x rfl id
  rw [countSilenceOf_roster, hy]

theorem countSilence_headKept (n : Nat)
    (h : ∀ id, openHeadFor id x → entryStays x.mc.roster[id.val] (countedAt n x.sid id x.mc.roster[id.val])) :
    HeadKept x (countSilence n x) := by
  unfold countSilence
  split
  · refine forEachId_headKept (g := countedAt n x.sid) x.sid (fun j y hy => ⟨by simp [hy], fun k => ?_⟩)
      (fun id y hy hstays => countSilenceOf_headKept n ?_) x rfl h
    · rw [countSilenceOf_roster, hy]
    · rwa [hy]
  · exact .refl x

/-! #### A mask adopted, entry by entry (R41) -/

/-- An entry of the roster after a mask is adopted, the own one included (R36, R41). -/
def adoptedAt (mask : MemberMask) (from_ : Option StationId) (own id : StationId) (e : RosterEntry) : RosterEntry :=
  if id = own then e else adoptedEntry (inMask mask id) (from_ == some id) e

/-- The step of `adoptMask` at one ID (R41). -/
def adoptAt (mask : MemberMask) (from_ : Option StationId) (id : StationId) (x : State) : State :=
  setEntryState id
    (if from_ = some id && !inMask mask id then .absent else adoptedState (inMask mask id) x.mc.roster[id.val].state)
    ((if from_ = some id && !inMask mask id then .absent
      else adoptedState (inMask mask id) x.mc.roster[id.val].state) == .member) x

theorem adoptMask_eq (mask : MemberMask) (from_ : Option StationId) (x : State) :
    adoptMask mask from_ x = forEachId (adoptAt mask from_) x := rfl

/-- The state that adoption gives an entry (R41). -/
theorem adoptedEntry_state (mask : MemberMask) (from_ : Option StationId) (id : StationId) (e : RosterEntry) :
    (if from_ = some id && !inMask mask id then .absent else adoptedState (inMask mask id) e.state) =
      (adoptedEntry (inMask mask id) (from_ == some id) e).state := by
  cases inMask mask id <;> by_cases hfrom : from_ = some id <;> cases he : e.state <;>
    simp [hfrom, he, adoptedEntry, adoptedState]

theorem adoptAt_roster (mask : MemberMask) (from_ : Option StationId) (id j : StationId) (x : State) :
    (adoptAt mask from_ id x).mc.roster[j.val] =
      if j = id then adoptedAt mask from_ x.sid id x.mc.roster[id.val] else x.mc.roster[j.val] := by
  rw [adoptAt, setEntryState_roster, adoptedEntry_state]
  by_cases hj : j = id
  · subst hj
    by_cases hs : j = x.sid
    · simp [hs, adoptedAt]
    · generalize x.mc.roster[j.val] = e
      obtain ⟨state, silence, heard, report, error⟩ := e
      rw [adoptedAt, if_neg hs]
      cases inMask mask j <;> by_cases hfrom : from_ = some j <;> cases state <;> simp [hs, hfrom, adoptedEntry]
  · simp [hj]

theorem adoptMask_headKept (mask : MemberMask) (from_ : Option StationId)
    (h : ∀ id, openHeadFor id x → id ≠ x.sid →
      entryStays x.mc.roster[id.val] (adoptedEntry (inMask mask id) (from_ == some id) x.mc.roster[id.val])) :
    HeadKept x (adoptMask mask from_ x) := by
  rw [adoptMask_eq]
  refine forEachId_headKept (g := adoptedAt mask from_ x.sid) x.sid (fun j y hy => ⟨by simp [adoptAt, hy], fun k => ?_⟩)
    (fun id y hy hstays => ?_) x rfl fun id hopen => ?_
  · rw [adoptAt_roster, hy]
  · by_cases hid : id = x.sid
    · rw [adoptAt, setEntryState, if_pos (hid.trans hy.symm)]; exact .refl y
    · refine setEntryState_headKept _ _ fun hopen => ?_
      rw [adoptedEntry_state]
      have := hstays hopen
      rw [adoptedAt, if_neg hid] at this
      exact this.imp_left Eq.symm
  · unfold adoptedAt
    split
    · exact entryStays_refl _
    next hid => exact h id hopen hid

/-! #### A retry that is due at a boundary (R127) -/

theorem pastDeadline_slots (s : State) : (pastDeadline s).lc.slots = { s.lc.slots with beacon := (pastDeadline s).lc.slots.beacon } ∧
    (pastDeadline s).lc.txOn = s.lc.txOn := by
  unfold pastDeadline
  split
  · exact ⟨rfl, rfl⟩
  · exact ⟨rfl, rfl⟩

theorem headKept_boundaryTimed (cfg : ConfigRecord) (s : State) : HeadKept s (boundaryTimed cfg s) := by
  obtain ⟨-, -, -, -, -, hmu, hlc⟩ := boundaryTimed_kept cfg s
  obtain ⟨hslots, htx⟩ := pastDeadline_slots s
  exact headKept_of_mu hmu (by rw [hlc, hslots]) (by rw [hlc, htx])

theorem retryHead_fills (head : OutMail) (rest : List OutMail) (hq : x.mu.queue = head :: rest) (h : x.mu.retryDue = true) :
    retryHead x = { x with mu := { x.mu with retryDue := false }, lc := (fillSlot (mailFrame head) x).lc } := by
  have fills : retryHead x = fillSlot (mailFrame head) (mapMu (fun mu => { mu with retryDue := false }) x) := by
    simp [retryHead, hq, h]
  exact fills

theorem retryHead_mu (x : State) : (retryHead x).mu = { x.mu with retryDue := (retryHead x).mu.retryDue } := by
  unfold retryHead
  split
  · rfl
  · split <;> rfl

/-- A retry that is due has a mail to retry (R127). -/
def retryHasMail (x : State) : Prop := x.mu.retryDue = true → x.mu.queue ≠ []

theorem retryHead_retryDue (h : retryHasMail x) : (retryHead x).mu.retryDue = false := by
  cases hdue : x.mu.retryDue with
  | false => rw [retryHead_idle hdue]; exact hdue
  | true =>
    obtain ⟨head, rest, hq⟩ := List.exists_cons_of_ne_nil (h hdue)
    rw [retryHead_fills head rest hq hdue]

/-- The slots that a retry leaves alone. -/
theorem retryHead_slots (x : State) :
    (retryHead x).lc.slots = { x.lc.slots with mail := (retryHead x).lc.slots.mail } := by
  unfold retryHead
  split
  · rfl
  · split
    · rw [fillSlot_slots, slotsFilled]
      split <;> rfl
    · rfl

/-- Where MC keeps the head of the queue at a boundary, MU retries it if a retry is due. -/
theorem retryTaken_of (hroster : t.mc.roster = y.mc.roster) (hmu : t.mu = (retryHead y).mu)
    (hlc : t.lc = (retryHead y).lc) (h : (∀ id, openHeadFor id s → peerStays s y id) → HeadKept s y) : retryTaken s t := by
  intro hpeers
  have kept := h fun id ⟨head, hq, ho, hd⟩ => by
    have := hpeers head hq ho
    rw [peerStays, hroster, hd] at this
    exact this
  obtain ⟨hslots, htx⟩ := pastDeadline_slots s
  rw [hmu, hlc]
  refine ⟨?_, ?_, fun hno => ?_, fun head rest hq ho hdue => ?_⟩
  · rw [retryHead_mu]; exact kept.head
  · rw [retryHead_mu]; exact kept.inFlight
  · have hidle := kept.retryDue.trans hno
    rw [retryHead_idle hidle]
    exact ⟨hidle, kept.slot⟩
  · obtain ⟨rest', hq'⟩ : ∃ rest', y.mu.queue = head :: rest' := List.head?_eq_some_iff.1 (kept.head.trans (by rw [hq]; rfl))
    rw [retryHead_fills head rest' hq' (kept.retryDue.trans hdue)]
    refine ⟨rfl, ?_⟩
    rw [fillSlot_slots, slotsFilled, slotsFilled, kept.txOn, htx, hslots]
    split
    · rfl
    · exact kept.slot

/-! #### A retry always has its mail (R127) -/

theorem completeHeads_retryDue (fuel : Nat) (x : State) : (completeHeads fuel x).mu.retryDue = x.mu.retryDue := by
  induction fuel generalizing x with
  | zero => rfl
  | succ n ih => unfold completeHeads; (repeat' split) <;> simp [ih, post, fillSlot]

theorem destinationGone_retryHasMail (id : StationId) (x : State) (h : retryHasMail x) : retryHasMail (destinationGone id x) := by
  by_cases hopen : openHeadFor id x
  · obtain ⟨head, hq, ho, hd⟩ := hopen
    obtain ⟨rest, hlost⟩ : ∃ rest, (mailsLost id x).mu.queue = head :: rest :=
      List.head?_eq_some_iff.1 (by rw [mailsLost_mu]; exact (loseBehind_head? id _).trans hq)
    cases hf : x.mu.inFlight with
    | true => rw [destinationGone_inFlight head rest hlost hd ho hf]; exact fun _ => by simp
    | false =>
      have hfalse : (destinationGone id x).mu.retryDue = false := by
        rw [destinationGone_waiting head rest hlost hd ho hf, settleQueue, completeHeads_retryDue]
      exact fun hdue => by simp [hfalse] at hdue
  · have kept := destinationGone_headKept hopen
    intro hdue hnil
    have hq := kept.head
    rw [hnil, List.head?_nil] at hq
    exact h (kept.retryDue ▸ hdue) (List.head?_eq_none_iff.1 hq.symm)

end Sys2Proof.Machine
end

section
namespace Sys2Proof.Machine

variable {s x y z t : State} {cfg : ConfigRecord}

/-! ### A boundary at a station of a group, step by step (R2, R29, R40) -/

/-- The state of a boundary once silence has been counted (R40). -/
def boundarySilence (cfg : ConfigRecord) (s : State) : State :=
  countSilence cfg.lossEpochs (mapMc (fun mc => { mc with statusFilled := false }) (boundaryTimed cfg s))

/-- What MC does at a boundary in each state of a group, between the silence counting and the STATUS fill (R2). -/
def boundaryDuty (cfg : ConfigRecord) (x : State) : State :=
  match x.mc.station with
  | .joining => joinBoundary x
  | .member => memberBoundary cfg x
  | .leaving => if x.mc.role = .reference then handoverBoundary cfg x else leaveBoundary x
  | _ => x

theorem boundaryMc_eq (cfg : ConfigRecord) (s : State) :
    boundaryMc cfg (boundaryTimed cfg s) = fillStatus 0 (boundaryDuty cfg (boundarySilence cfg s)) := rfl

/-- What stands at a boundary after the silence counting, in a station of a group. -/
structure Silenced (cfg : ConfigRecord) (s y : State) : Prop where
  host : hostKept s y
  tb : y.tb = boundaryTb cfg s.tb
  pcu : y.pcu = s.pcu
  tc : y.tc = s.tc
  mc : y.mc = { s.mc with
    statusFilled := false, beaconDeadline := deadlineLeft s
    listenTimer := if s.tb.boundary = .none then s.mc.listenTimer.map (· + 1) else s.mc.listenTimer
    election := if s.tb.boundary = .none then s.mc.election.map (fun e => { e with carriers := e.carriers + 1 })
      else s.mc.election
    roster := y.mc.roster }
  roster : ∀ id : StationId, y.mc.roster[id.val] = countedAt cfg.lossEpochs s.sid id s.mc.roster[id.val]
  slots : y.lc.slots = { (pastDeadline s).lc.slots with mail := y.lc.slots.mail }
  txOn : y.lc.txOn = s.lc.txOn
  inbound : y.mu.bufA = s.mu.bufA ∧ y.mu.bufB = s.mu.bufB ∧ y.mu.overflow = s.mu.overflow ∧ y.mu.ticket = s.mu.ticket
  lp : eventsBetween 0 lossEvents s y
  headKept : (∀ id, openHeadFor id s → entryStays s.mc.roster[id.val] (countedAt cfg.lossEpochs s.sid id s.mc.roster[id.val])) →
    HeadKept s y
  retryHasMail : retryHasMail s → retryHasMail y

theorem setEntryState_retryHasMail (id : StationId) (state : EntryState) (fresh : Bool) (x : State) (h : retryHasMail x) :
    retryHasMail (setEntryState id state fresh x) := by
  have posted (f : RosterEntry → RosterEntry) (c : Bool) (e : Event) : retryHasMail (postIf c e (mapEntry id f x)) := by
    rw [postIf_eq]
    simpa [retryHasMail] using h
  unfold setEntryState
  dsimp only
  split
  · exact h
  · split
    · exact h
    · split
      · exact destinationGone_retryHasMail id _ (posted _ _ _)
      · exact posted _ _ _

theorem countSilence_retryHasMail (n : Nat) (x : State) (h : retryHasMail x) : retryHasMail (countSilence n x) := by
  unfold countSilence
  split
  · refine forEachId_preserves (fun id y hy => ?_) x h
    by_cases hidle : id = y.sid ∨ (y.mc.roster[id.val].state ≠ .member ∧ y.mc.roster[id.val].state ≠ .leaving)
    · rw [countSilenceOf_idle n hidle]; exact hy
    · obtain ⟨hid, hcounts⟩ := not_or.1 hidle
      have hs : y.mc.roster[id.val].state = .member ∨ y.mc.roster[id.val].state = .leaving := by
        by_contra hno
        exact hcounts (not_or.1 hno)
      have counted : retryHasMail (silenceCounted id y) := by simpa [retryHasMail, silenceCounted] using hy
      rw [countSilenceOf_counts n hid hs]
      split
      · exact setEntryState_retryHasMail id _ _ _ counted
      · exact counted
  · exact h

theorem silenced_boundarySilence (cfg : ConfigRecord) (s : State) (hg : groupState s.mc.station = true) :
    Silenced cfg s (boundarySilence cfg s) := by
  obtain ⟨host, htb, hpcu, htc, hlp, hmu, hlc⟩ := boundaryTimed_kept cfg s
  have hmc := boundaryTimed_mc cfg s
  have timed := headKept_boundaryTimed cfg s
  have hsid : (boundaryTimed cfg s).sid = s.sid := host.sid
  have hroster : (boundaryTimed cfg s).mc.roster = s.mc.roster := by rw [hmc]
  have hstation : (boundaryTimed cfg s).mc.station = s.mc.station := by rw [hmc]
  obtain ⟨x, hx⟩ : ∃ x, x = mapMc (fun mc => { mc with statusFilled := false }) (boundaryTimed cfg s) := ⟨_, rfl⟩
  have moved := peersMoved_countSilence cfg.lossEpochs x
  have hxroster : x.mc.roster = s.mc.roster := by rw [hx]; exact hroster
  have hxsid : x.sid = s.sid := by rw [hx]; exact hsid
  have hxmu : x.mu = s.mu := by rw [hx]; exact hmu
  have hxlc : x.lc = (pastDeadline s).lc := by rw [hx]; exact hlc
  have cleared : HeadKept s x := timed.trans (by rw [hx]; exact headKept_of_mu rfl rfl rfl)
  have hsil : boundarySilence cfg s = countSilence cfg.lossEpochs x := by rw [hx]; rfl
  rw [hsil]
  constructor
  case host => exact hostKept_trans (by rw [hx]; exact host) moved.host
  case tb => rw [moved.tb, hx]; exact htb
  case pcu => rw [moved.pcu, hx]; exact hpcu
  case tc => rw [moved.tc, hx]; exact htc
  case mc => rw [moved.mc, hx, mapMc_mc, hmc]
  case roster =>
    intro id
    have hxg : groupState x.mc.station = true := by rw [hx]; simpa [hstation] using hg
    rw [countSilence_roster _ hxg, hxroster, hxsid]
  case slots => rw [moved.lc, hxlc]
  case txOn => rw [moved.lc, hxlc, (pastDeadline_slots s).2]
  case inbound => rw [moved.mu, hxmu]; exact ⟨rfl, rfl, rfl, rfl⟩
  case lp =>
    obtain ⟨a, ha, hev⟩ := moved.lp
    have hxlp : x.lp = s.lp := by rw [hx]; exact hlp
    exact ⟨a, ha, by rw [hev, hxlp]⟩
  case headKept =>
    intro h
    refine cleared.trans (countSilence_headKept _ fun id hopen => ?_)
    rw [hxroster, hxsid]
    exact h id (cleared.openHeadFor_iff.1 hopen)
  case retryHasMail =>
    intro h
    exact countSilence_retryHasMail _ _ (by rw [retryHasMail, hxmu]; exact h)

theorem countedAt_peer (n : Nat) (own id : StationId) (e : RosterEntry) (h : id ≠ own) : countedAt n own id e = countedEntry n e :=
  if_neg h

theorem countedAt_own (n : Nat) (own : StationId) (e : RosterEntry) : countedAt n own own e = e := if_pos rfl

theorem Silenced.station (h : Silenced cfg s y) : y.mc.station = s.mc.station := by rw [h.mc]

theorem Silenced.role (h : Silenced cfg s y) : y.mc.role = s.mc.role := by rw [h.mc]

theorem Silenced.sid (h : Silenced cfg s y) : y.sid = s.sid := h.host.sid

/-- Where MC makes a roster that keeps the entry of an open head's destination, silence counting has kept it too: an entry
counted LOST stays so. -/
theorem Silenced.headStays (h : Silenced cfg s y)
    (hpeers : ∀ id, openHeadFor id s → peerStays s y id) : HeadKept s y := by
  refine h.headKept fun id hopen => ?_
  rw [← h.roster id]
  exact hpeers id hopen

/-! #### The last part of a boundary: PCU, TC and MU -/

theorem retryHead_congr (hmu : x.mu = y.mu) (hlc : x.lc = y.lc) :
    (retryHead x).mu = (retryHead y).mu ∧ (retryHead x).lc = (retryHead y).lc := by
  cases hq : y.mu.queue with
  | nil =>
    have hx : retryHead x = x := by simp [retryHead, hmu, hq]
    have hy : retryHead y = y := by simp [retryHead, hq]
    rw [hx, hy]
    exact ⟨hmu, hlc⟩
  | cons head rest =>
    cases hdue : y.mu.retryDue with
    | false =>
      rw [retryHead_idle hdue, retryHead_idle (by rw [hmu]; exact hdue)]
      exact ⟨hmu, hlc⟩
    | true =>
      rw [retryHead_fills head rest hq hdue, retryHead_fills head rest (by rw [hmu]; exact hq) (by rw [hmu]; exact hdue)]
      exact ⟨by rw [hmu], fillSlot_lc_congr _ hlc⟩

/-- The events that PCU and TC can post at a boundary (R78, R79, R100). -/
def boundaryEvents : EventSet := eventMask .dutyDue ||| eventMask .dutyDropped ||| eventMask .rearmed

theorem boundaryPcu_events (hc : x.config = some cfg) (e : Event) (he : hasEvent boundaryEvents e = false) :
    hasEvent (boundaryPcu x).lp.events e = hasEvent x.lp.events e := by
  simp only [boundaryEvents, hasEvent_or, hasEvent_eventMask, Bool.or_eq_false_iff, decide_eq_false_iff_not] at he
  obtain ⟨⟨hdue, hdropped⟩, -⟩ := he
  by_cases hother : ∀ r, x.pcu.timed.head? = some r → r.epoch ≠ x.tb.epoch
  · rw [boundaryPcu_other hother]
  · push Not at hother
    obtain ⟨r, hr, hepoch⟩ := hother
    obtain ⟨rest, hlist⟩ : ∃ rest, x.pcu.timed = r :: rest := List.head?_eq_some_iff.1 hr
    by_cases htaken : ∃ a, x.tb.startMark = .taken a
    · obtain ⟨a, ha⟩ := htaken
      rw [boundaryPcu_started cfg r rest a hc hlist hepoch ha]
      simp [hasEvent_or, hasEvent_eventIf, hasEvent_eventMask, hdue, hdropped]
    · rw [boundaryPcu_due r rest hlist hepoch, dueAfterStart_other (by exact fun a ha => htaken ⟨a, ha⟩)]
      simp [hasEvent_or, hasEvent_eventIf, hdropped]

theorem boundaryTc_idle (h : ¬(x.tc.trip = .rearm ∧ lockHeld x.tb.lock = true)) : boundaryTc x = x :=
  boundaryTc_stays ((not_and_or.1 h).imp_right Bool.eq_false_iff.2)

theorem boundaryTc_events (e : Event) (he : hasEvent boundaryEvents e = false) :
    hasEvent (boundaryTc x).lp.events e = hasEvent x.lp.events e := by
  simp only [boundaryEvents, hasEvent_or, hasEvent_eventMask, Bool.or_eq_false_iff, decide_eq_false_iff_not] at he
  by_cases h : x.tc.trip = .rearm ∧ lockHeld x.tb.lock = true
  · rw [boundaryTc_rearms h.1 h.2]
    simp [hasEvent_or, hasEvent_eventMask, he.2]
  · rw [boundaryTc_idle h]

/-- What PCU, TC and MU leave of what MC makes of a boundary (R2). -/
theorem takeBoundary_after (hc : s.config = some cfg) :
    (takeBoundary cfg s).mc = (boundaryMc cfg (boundaryTimed cfg s)).mc ∧
    (takeBoundary cfg s).tb = (boundaryMc cfg (boundaryTimed cfg s)).tb ∧
    (takeBoundary cfg s).mu = (retryHead (boundaryMc cfg (boundaryTimed cfg s))).mu ∧
    (takeBoundary cfg s).lc = (retryHead (boundaryMc cfg (boundaryTimed cfg s))).lc ∧
    ∀ e, hasEvent boundaryEvents e = false →
      hasEvent (takeBoundary cfg s).lp.events e = hasEvent (boundaryMc cfg (boundaryTimed cfg s)).lp.events e := by
  obtain ⟨⟨-, -, -, -, -, hcfg⟩, -⟩ := boundaryTimed_kept cfg s
  obtain ⟨kept, -⟩ := boundaryMc_moved cfg (boundaryTimed cfg s)
  have hconfig : (boundaryMc cfg (boundaryTimed cfg s)).config = some cfg := by rw [kept.1.config, hcfg, hc]
  rw [takeBoundary_eq]
  generalize boundaryMc cfg (boundaryTimed cfg s) = y at *
  obtain ⟨-, ktb, kmc, klc, kmu⟩ := boundaryTc_pcu_kept y
  obtain ⟨-, rtb, rmc, -, -, rlp⟩ := retryHead_blocks (boundaryTc (boundaryPcu y))
  obtain ⟨hmu, hlc⟩ := retryHead_congr (x := boundaryTc (boundaryPcu y)) kmu klc
  refine ⟨rmc.trans kmc, rtb.trans ktb, hmu, hlc, fun e he => ?_⟩
  rw [rlp, boundaryTc_events e he, boundaryPcu_events hconfig e he]

/-- What PCU and TC are to take of a boundary is that of the state before it, while the station stays on the line (R2). -/
theorem beforePcu_boundaryMc (hstays : ¬leavesAtBoundary s.mc) : BeforePcu s (boundaryMc cfg (boundaryTimed cfg s)) := by
  obtain ⟨-, moved⟩ := boundaryMc_moved cfg (boundaryTimed cfg s)
  obtain ⟨host, htb, hpcu, htc, hlp, -, -⟩ := boundaryTimed_kept cfg s
  have hmc := boundaryTimed_mc cfg s
  obtain ⟨khost, ktb, kpcu, ktc, kst, klp⟩ := moved (by rw [hmc]; exact hstays)
  rw [htb] at ktb
  constructor
  case config => exact khost.config.trans host.config
  case pcu => exact kpcu.trans hpcu
  case tc => exact ktc.trans htc
  case station => rw [kst, hmc]
  case events =>
    intro e he
    rw [hasEvent_of_eventsBetween klp e (by revert e; decide), hlp]
  all_goals rw [ktb]; rfl

/-- What PCU and TC make of a boundary at a station that stays on the line (R78, R79, R100). -/
theorem takeBoundary_records (hc : s.config = some cfg) (hstays : ¬leavesAtBoundary s.mc) :
    (∀ r rest, s.pcu.timed = r :: rest → r.epoch = s.tb.epoch + 1 → (takeBoundary cfg s).pcu.timed = rest ∧
      ((∀ a, s.tb.startMark ≠ .taken a) → (takeBoundary cfg s).pcu.due = some r.settings)) ∧
    ((∀ r, s.pcu.timed.head? = some r → r.epoch ≠ s.tb.epoch + 1) →
      (takeBoundary cfg s).pcu.timed = s.pcu.timed ∧ (takeBoundary cfg s).pcu.due = s.pcu.due) ∧
    (s.tc.trip = .rearm → lockHeld s.tb.lock = true → (takeBoundary cfg s).tc = { s.tc with trip := .armed, origins := [] }) ∧
    (s.tc.trip ≠ .rearm ∨ lockHeld s.tb.lock = false → (takeBoundary cfg s).tc = s.tc) := by
  have before := beforePcu_boundaryMc (cfg := cfg) hstays
  rw [takeBoundary_eq]
  generalize boundaryMc cfg (boundaryTimed cfg s) = y at *
  obtain ⟨p, ev, hp, taken⟩ := recordTaken_boundaryPcu cfg hc before
  obtain ⟨-, -, -, rpcu, rtc, -⟩ := retryHead_blocks (boundaryTc (boundaryPcu y))
  have hpcu : (boundaryTc (boundaryPcu y)).pcu = { p with output := (boundaryTc (boundaryPcu y)).pcu.output } := by
    by_cases h : (boundaryPcu y).tc.trip = .rearm ∧ lockHeld (boundaryPcu y).tb.lock = true
    · rw [boundaryTc_rearms h.1 h.2, hp]
    · rw [boundaryTc_idle h, hp]
  have htc : (boundaryPcu y).tc = s.tc := by rw [hp]; exact before.tc
  have hlock : (boundaryPcu y).tb.lock = s.tb.lock := by rw [hp]; exact before.lock
  rw [rpcu, rtc, hpcu]
  refine ⟨fun r rest hl he => ?_, fun hno => ?_, fun hr hl => ?_, fun hno => ?_⟩
  · by_cases ht : ∃ a, s.tb.startMark = .taken a
    · obtain ⟨a, ha⟩ := ht
      obtain ⟨happlied, -⟩ := taken.appliedAtOnce r rest a hl he ha
      exact ⟨by rw [happlied cfg hc], fun hbefore => absurd ha (hbefore a)⟩
    · obtain ⟨hp', -⟩ := taken.becomesDue r rest hl he fun a ha => ht ⟨a, ha⟩
      rw [hp']
      exact ⟨rfl, fun _ => rfl⟩
  · obtain ⟨hp', -⟩ := taken.notDue fun ⟨r, hr, he⟩ => hno r hr he
    rw [hp']
    exact ⟨rfl, rfl⟩
  · rw [boundaryTc_rearms (by rw [htc, hr]) (by rw [hlock, hl]), htc]
  · rw [boundaryTc_stays (by rw [htc, hlock]; exact hno), htc]

end Sys2Proof.Machine
end

section
namespace Sys2Proof.Machine

variable {s x y z t : State} {cfg : ConfigRecord}

/-! ### The STATUS of carrier 0 and the slots of LC at a boundary (R29) -/

theorem fillStatus_mc (c : Nat) (x : State) :
    (fillStatus c x).mc = { x.mc with statusFilled := (fillStatus c x).mc.statusFilled } := by
  unfold fillStatus
  repeat' split
  all_goals rfl

theorem fillStatus_slots (c : Nat) (x : State) :
    (fillStatus c x).lc.slots = { x.lc.slots with status := (fillStatus c x).lc.slots.status } := by
  have filled (f : StatusReport) (g : Membership → Membership) : (mapMc g (fillSlot (.status f) x)).lc.slots =
      { x.lc.slots with status := (mapMc g (fillSlot (.status f) x)).lc.slots.status } := by
    rw [mapMc_lc, fillSlot_slots, slotsFilled]
    split <;> rfl
  unfold fillStatus
  split
  · split
    · split
      · exact filled _ _
      · rfl
    · rfl
  · rfl

theorem headKept_fillStatus (c : Nat) (x : State) : HeadKept x (fillStatus c x) :=
  headKept_of_mu (by simp) (by rw [fillStatus_slots]) (by simp)

theorem fillStatus_zero_iff (record : EpochRecord) (slot : Slot) (hc : x.config = some cfg) (hrec : x.mc.record = some record)
    (hs : record.slot = some slot) (hst : slotState x.mc.station = true) (hf : x.mc.statusFilled = false) :
    (fillStatus 0 x).mc.statusFilled = true ↔ slot.rank % epochCarriers cfg = 0 := by
  by_cases h : slot.rank % epochCarriers cfg = 0
  · rw [fillStatus_fills 0 cfg record slot hc hrec hs hst hf (by omega)]
    simp [h]
  · rw [fillStatus_early 0 cfg record slot hc hrec hs (by omega)]
    simp [h, hf]

theorem fillBeacon_slots (mask : MemberMask) (handover : Bool) (x : State) : (fillBeacon cfg mask handover x).lc.slots =
    { x.lc.slots with beacon := (slotsFilled x.lc (.beacon (beaconFrame cfg mask handover))).beacon } := by
  rw [fillBeacon_eq]
  dsimp only
  rw [fillSlot_slots, slotsFilled]
  split <;> rfl

theorem headKept_fillBeacon (mask : MemberMask) (handover : Bool) (x : State) :
    HeadKept x (fillBeacon cfg mask handover x) :=
  headKept_of_mu rfl (by rw [fillBeacon_slots]) (by simp)

/-- A beacon filled at a boundary goes into the slot that the deadline before it has left (R49, R50). -/
theorem Silenced.beaconFilled (h : Silenced cfg s y) (f : Beacon) :
    (slotsFilled y.lc (.beacon f)).beacon = (slotsFilled (pastDeadline s).lc (.beacon f)).beacon := by
  rw [slotsFilled, slotsFilled, h.txOn, (pastDeadline_slots s).2, h.slots]
  split <;> rfl

/-! ### EPOCH_BOUNDARY at a MEMBER that is not the reference (R29, R40, R51, R52, R78, R100, R127) -/

theorem memberBoundary_other (hrole : x.mc.role ≠ .reference) (h : ¬(x.mc.role = .candidate ∧ fillPointNow x.mc = true)) :
    memberBoundary cfg x = x := by
  unfold memberBoundary candidateFill
  rw [if_neg hrole]
  split
  next hp => exact if_neg fun hc => h ⟨hc, hp⟩
  · rfl

theorem memberBoundary_candidate (hrole : x.mc.role = .candidate) (h : fillPointNow x.mc = true) :
    memberBoundary cfg x = fillBeacon cfg (buildMask x) false x := by
  rw [memberBoundary, if_neg (by simp [hrole]), if_pos h, candidateFill, if_pos hrole]

/-- A follower or a candidate at a boundary fills a beacon at most, and nothing else of it changes. -/
structure BeaconAtMost (x y : State) : Prop where
  mc : y.mc = { x.mc with beaconDeadline := y.mc.beaconDeadline }
  tb : y.tb = x.tb
  sid : y.sid = x.sid
  config : y.config = x.config
  mu : y.mu = x.mu
  slots : y.lc.slots = { x.lc.slots with beacon := y.lc.slots.beacon }
  txOn : y.lc.txOn = x.lc.txOn

theorem beaconAtMost_memberBoundary (hrole : x.mc.role ≠ .reference) : BeaconAtMost x (memberBoundary cfg x) := by
  by_cases h : x.mc.role = .candidate ∧ fillPointNow x.mc = true
  · rw [memberBoundary_candidate h.1 h.2]
    exact ⟨rfl, rfl, rfl, rfl, rfl, by rw [fillBeacon_slots], by simp⟩
  · rw [memberBoundary_other hrole h]
    exact ⟨rfl, rfl, rfl, rfl, rfl, rfl, rfl⟩

theorem fillPointNow_iff (mc : Membership) : fillPointNow mc = true ↔ ∃ e standing, mc.election = some e ∧
    e.standing = some standing ∧ ∃ j : Nat, e.carriers = 2 + 2 * standing.rank + 2 * standing.count * j := by
  unfold fillPointNow
  split
  next he => simp [he]
  next e he =>
    split
    next hs => simp [he, hs]
    next standing hs => simp [he, hs, isFillPoint_iff]

theorem exec_epochBoundary (hr : s.pins.resetn = true) (hc : s.config = some cfg) (hb : s.tb.boundary ≠ .overtaken)
    (hst : s.mc.station ≠ .listening) : exec .epochBoundary s = .next (takeBoundary cfg s) := by
  have stays : boundaryFounds cfg s ≠ true := fun h => hst ((boundaryFounds_iff cfg s).1 h).2.1
  exact exec_high hr (by simp only [exec, execEpochBoundary, hc, if_neg hb, if_neg stays])

/-- What a boundary leaves of MC's duty: the STATUS of carrier 0, and the retry of the head of the mail queue. -/
structure DutyTaken (s z t : State) : Prop where
  mc : t.mc = { z.mc with statusFilled := (fillStatus 0 z).mc.statusFilled }
  tb : t.tb = z.tb
  beacon : t.lc.slots.beacon = z.lc.slots.beacon
  join : t.lc.slots.join = z.lc.slots.join
  leave : t.lc.slots.leave = z.lc.slots.leave
  retryDue : retryHasMail z → t.mu.retryDue = false
  retry : ((∀ id, openHeadFor id s → peerStays s z id) → HeadKept s z) → retryTaken s t
  events : ∀ e, hasEvent boundaryEvents e = false → hasEvent t.lp.events e = hasEvent z.lp.events e

theorem dutyTaken_takeBoundary (hc : s.config = some cfg) (hz : boundaryDuty cfg (boundarySilence cfg s) = z) :
    DutyTaken s z (takeBoundary cfg s) := by
  obtain ⟨tmc, ttb, tmu, tlc, tev⟩ := takeBoundary_after hc
  rw [boundaryMc_eq, hz] at tmc ttb tmu tlc tev
  have slots : (takeBoundary cfg s).lc.slots = { z.lc.slots with
      mail := (takeBoundary cfg s).lc.slots.mail, status := (takeBoundary cfg s).lc.slots.status } := by
    rw [tlc, retryHead_slots, fillStatus_slots]
  constructor
  case mc => rw [tmc, fillStatus_mc]
  case tb => rw [ttb]; simp
  case beacon => rw [slots]
  case join => rw [slots]
  case leave => rw [slots]
  case retryDue =>
    intro h
    rw [tmu]
    exact retryHead_retryDue (by simpa [retryHasMail] using h)
  case retry =>
    intro h
    refine retryTaken_of (by rw [tmc]) tmu tlc fun hpeers => ?_
    refine (h fun id hopen => ?_).trans (headKept_fillStatus 0 z)
    have := hpeers id hopen
    rw [peerStays, (show (fillStatus 0 z).mc.roster = z.mc.roster by simp)] at this
    exact this
  case events => intro e he; rw [tev e he]; simp

/-- The election counts the carrier that a boundary commanded by itself is (R51, log 2). -/
theorem Silenced.election (h : Silenced cfg s y) {e : Election} {carriers : Nat} (he : s.mc.election = some e)
    (hcar : carriers = if s.tb.boundary = .none then e.carriers + 1 else e.carriers) :
    y.mc.election = some { e with carriers := carriers } := by
  rw [h.mc, hcar]
  dsimp only
  split <;> simp [he]

theorem Silenced.election_back (h : Silenced cfg s y) {e : Election} (he : y.mc.election = some e) :
    ∃ e', s.mc.election = some e' ∧ e'.standing = e.standing := by
  rw [h.mc] at he
  dsimp only at he
  split at he
  · obtain ⟨e', he', rfl⟩ := Option.map_eq_some_iff.1 he
    exact ⟨e', he', rfl⟩
  · exact ⟨e, he, rfl⟩

/-- The mask a member builds after the silence counting (R40, R48, R52). -/
theorem Silenced.buildMask_member (h : Silenced cfg s y) (hst : s.mc.station = .member) (id : StationId) :
    inMask (buildMask y) id = true ↔ id = s.sid ∨ (countedEntry cfg.lossEpochs s.mc.roster[id.val]).state = .member ∨
      (countedEntry cfg.lossEpochs s.mc.roster[id.val]).state = .joining := by
  rw [inMask_buildMask_member id (h.station.trans hst), h.sid, h.roster]
  by_cases hid : id = s.sid
  · simp [hid]
  · rw [countedAt_peer _ _ _ _ hid]

/-- Settles O34: `boundarySilence`, the duty of a member that is not the reference, and the STATUS of carrier 0. -/
theorem memberBoundary_holds : Obligations.MemberBoundary := by
  intro s cfg hr hc hb hst hrole hlaw
  obtain ⟨y, hy⟩ : ∃ y, boundarySilence cfg s = y := ⟨_, rfl⟩
  have silent : Silenced cfg s y := hy ▸ silenced_boundarySilence cfg s (by rw [hst]; rfl)
  have hyrole : y.mc.role ≠ .reference := by rw [silent.role]; exact hrole
  have hyst : y.mc.station = .member := silent.station.trans hst
  obtain ⟨z, hz⟩ : ∃ z, memberBoundary cfg y = z := ⟨_, rfl⟩
  have duty : BeaconAtMost y z := hz ▸ beaconAtMost_memberBoundary hyrole
  have taken : DutyTaken s z (takeBoundary cfg s) := dutyTaken_takeBoundary hc (by
    rw [hy, ← hz]
    simp only [boundaryDuty, hyst])
  obtain ⟨recDue, recOther, tcRearms, tcStays⟩ := takeBoundary_records hc (by simp [leavesAtBoundary, hst])
  obtain ⟨-, -, -, -, -, hasMail⟩ := hlaw
  have ttb : (takeBoundary cfg s).tb = boundaryTb cfg s.tb := by rw [taken.tb, duty.tb, silent.tb]
  have troster : (takeBoundary cfg s).mc.roster = y.mc.roster := by rw [taken.mc, duty.mc]
  have other (h : ¬(s.mc.role = .candidate ∧ fillPointNow y.mc = true)) :
      (takeBoundary cfg s).lc.slots.beacon = (pastDeadline s).lc.slots.beacon ∧
        (takeBoundary cfg s).mc.beaconDeadline = deadlineLeft s := by
    have still := memberBoundary_other (cfg := cfg) hyrole (by rw [silent.role]; exact h)
    rw [taken.beacon, taken.mc, ← hz, still, silent.slots, silent.mc]
    exact ⟨rfl, rfl⟩
  refine ⟨takeBoundary cfg s, exec_epochBoundary hr hc hb (by simp [hst]), ?_, ?_, ?_, ?_, ?_, ?_, fun id hid => ?_, ?_,
    fun record slot hrec hs => ?_, recDue, recOther, tcRearms, tcStays, taken.retryDue ?_, taken.retry fun hpeers => ?_,
    fun h => other ?_, fun e standing carriers hcand he hstand hcar => ⟨?_, fun hno => other ?_, fun hpoint => ?_⟩⟩
  · rw [taken.mc, duty.mc, silent.mc]; exact hst
  · rw [taken.mc, duty.mc, silent.mc]
  · rw [taken.mc, duty.mc, silent.mc]
  · rw [ttb]; rfl
  · rw [ttb]; rfl
  · rw [ttb]; rfl
  · rw [troster, silent.roster, countedAt_peer _ _ _ _ hid]
  · rw [troster, silent.roster, countedAt_own]
  · rw [taken.mc]
    refine fillStatus_zero_iff record slot ?_ ?_ hs ?_ ?_
    · rw [duty.config, silent.host.config, hc]
    · rw [duty.mc, silent.mc]; exact hrec
    · rw [duty.mc]; simp [hyst, slotState]
    · rw [duty.mc, silent.mc]
  · rw [retryHasMail, duty.mu]
    refine silent.retryHasMail fun hdue hnil => ?_
    obtain ⟨head, rest, hq, -⟩ := hasMail (.inr hdue)
    simp [hnil] at hq
  · have kept : HeadKept s y := silent.headStays fun id hopen => by
      have := hpeers id hopen
      rw [peerStays, duty.mc] at this
      exact this
    exact kept.trans (headKept_of_mu duty.mu (by rw [duty.slots]) duty.txOn)
  · rintro ⟨hcand, hpoint⟩
    obtain ⟨e, standing, he, hs, -⟩ := (fillPointNow_iff _).1 hpoint
    obtain ⟨e', he', hstanding⟩ := silent.election_back he
    rcases h with h | h
    · exact h hcand
    · simp [he', hstanding, hs] at h
  · rw [taken.mc, duty.mc]
    exact silent.election he hcar
  · rintro ⟨-, hpoint⟩
    obtain ⟨e', standing', he', hs', j, hj⟩ := (fillPointNow_iff _).1 hpoint
    obtain rfl : { e with carriers := carriers } = e' := by simpa [silent.election he hcar] using he'
    obtain rfl : standing = standing' := by simpa [hstand] using hs'
    exact hno j hj
  · have hfills : fillPointNow y.mc = true := (fillPointNow_iff _).2 ⟨_, standing, silent.election he hcar, hstand, hpoint⟩
    have filled := memberBoundary_candidate (cfg := cfg) (x := y) (by rw [silent.role]; exact hcand) hfills
    rw [taken.mc, taken.beacon, ← hz, filled]
    refine ⟨rfl, buildMask y, silent.buildMask_member hst, ?_⟩
    rw [fillBeacon_slots]
    exact silent.beaconFilled _

end Sys2Proof.Machine
end

section
namespace Sys2Proof.Machine

variable {s x y z t : State} {cfg : ConfigRecord}

/-! ### EPOCH_BOUNDARY at the reference (R40, R47, R48, R49) -/

theorem adoptMask_rosterAt (mask : MemberMask) (from_ : Option StationId) (x : State) (id : StationId) :
    (adoptMask mask from_ x).mc.roster[id.val] = adoptedAt mask from_ x.sid id x.mc.roster[id.val] := by
  rw [adoptMask_eq]
  refine forEachId_roster (g := adoptedAt mask from_ x.sid) x.sid (fun j y hy => ⟨by simp [adoptAt, hy], fun k => ?_⟩) x rfl id
  rw [adoptAt_roster, hy]

/-- The state of the reference once it has filled its record and given its target (R47, R64). -/
def renewed (cfg : ConfigRecord) (mask : MemberMask) (x : State) : State :=
  giveTarget false (setRecord (some (referenceRecord cfg x.sid x.tb.epoch mask)) (adoptMask mask none x))

theorem referenceBoundary_eq (cfg : ConfigRecord) (x : State) : referenceBoundary cfg x =
    fillBeacon cfg (buildMask x) false
      (postIf (maskChanged x.mc.record (buildMask x)) .membership (renewed cfg (buildMask x) x)) := by
  simp only [referenceBoundary, renewed, adoptMask_frame]

theorem maskChanged_eq (old : Option EpochRecord) (mask : MemberMask) :
    maskChanged old mask = decide (old.map (·.mask) ≠ some mask) := by
  rw [maskChanged, Bool.eq_iff_iff, bne_iff_ne, decide_eq_true_eq]

/-- What the reference makes of a boundary, over a mask that holds its own ID (R47, R48, R49, R64). -/
structure MaskRenewed (cfg : ConfigRecord) (mask : MemberMask) (x y : State) : Prop where
  mc : y.mc = { x.mc with
    record := some
      { epoch := x.tb.epoch, mask := mask, reference := some x.sid, slot := some (slotIn cfg mask x.sid), handover := false }
    beaconDeadline := true, roster := y.mc.roster }
  roster : ∀ id : StationId, y.mc.roster[id.val] = adoptedAt mask none x.sid id x.mc.roster[id.val]
  tb : y.tb = { x.tb with target := (slotIn cfg mask x.sid).target }
  beacon : y.lc.slots.beacon = (slotsFilled x.lc (.beacon (beaconFrame cfg mask false))).beacon
  membership : hasEvent y.lp.events .membership = (hasEvent x.lp.events .membership || maskChanged x.mc.record mask)
  headKept : (∀ id, openHeadFor id x → peerStays x y id) → HeadKept x y

theorem maskRenewed_referenceBoundary (x : State) (hown : inMask (buildMask x) x.sid = true) :
    MaskRenewed cfg (buildMask x) x (referenceBoundary cfg x) := by
  rw [referenceBoundary_eq]
  generalize buildMask x = mask at *
  have moved := peersMoved_adoptMask mask none x
  have roster := adoptMask_rosterAt mask none x
  have kept := adoptMask_headKept (x := x) mask none
  obtain ⟨y, hy⟩ : ∃ y, adoptMask mask none x = y := ⟨_, rfl⟩
  rw [hy] at moved roster kept
  have target := giveTarget_false (x := setRecord (some (referenceRecord cfg x.sid x.tb.epoch mask)) y)
    (slotIn cfg mask x.sid) (by simp [setRecord, referenceRecord, hown])
  have hrenewed : renewed cfg mask x = giveTarget false (setRecord (some (referenceRecord cfg x.sid x.tb.epoch mask)) y) := by
    rw [renewed, hy]
  rw [hrenewed, target]
  have hlost : hasEvent y.lp.events .membership = hasEvent x.lp.events .membership :=
    hasEvent_of_eventsBetween moved.lp .membership (by decide)
  have lc (f : TxFrame) : (slotsFilled y.lc f).beacon = (slotsFilled x.lc f).beacon := by
    rw [moved.lc, slotsFilled, slotsFilled]
    split
    · cases frameKind f <;> rfl
    · rfl
  constructor
  case mc =>
    have filled (c d : Bool) (u : State) : (fillBeacon cfg mask false (postIf c .membership (postIf d .migrated u))).mc =
        { u.mc with beaconDeadline := true } := by simp [fillBeacon]
    rw [filled, mapTb_mc, setRecord, mapMc_mc, moved.mc]
    simp [referenceRecord, hown]
  case roster => intro id; simpa [fillBeacon, setRecord] using roster id
  case tb => simp [fillBeacon, setRecord, moved.tb]
  case beacon =>
    rw [fillBeacon_slots, ← lc]
    simp [setRecord]
  case membership => simp [fillBeacon, setRecord, hlost]
  case headKept =>
    intro hpeers
    have adopted : HeadKept x y := kept fun id hopen hid => by
      have stays := hpeers id hopen
      rw [peerStays] at stays
      have hroster := roster id
      rw [adoptedAt, if_neg hid] at hroster
      rw [← hroster]
      simpa [entryStays, fillBeacon, setRecord] using stays
    exact adopted.trans (headKept_of_mu (by simp [setRecord, fillBeacon]) (by rw [fillBeacon_slots]; simp [setRecord])
      (by simp [setRecord, fillBeacon]))

theorem countedEntry_state (n : Nat) (e : RosterEntry) : (countedEntry n e).state = e.state ∨ (countedEntry n e).state = .lost := by
  unfold countedEntry
  split
  · dsimp only
    split
    · exact .inr rfl
    · exact .inl rfl
  · exact .inl rfl

/-- An entry counted LOST is not in the mask the reference builds, and stays LOST: so where an entry stays through the whole
boundary, it stays through each part (R40, R41, R48). -/
theorem entryStays_parts (n : Nat) (member : Bool) (e : RosterEntry)
    (hmember : member = true → (countedEntry n e).state = .member ∨ (countedEntry n e).state = .joining)
    (h : entryStays e (adoptedEntry member false (countedEntry n e))) :
    entryStays e (countedEntry n e) ∧ entryStays (countedEntry n e) (adoptedEntry member false (countedEntry n e)) := by
  obtain hsame | hlost := countedEntry_state n e
  · refine ⟨.inl hsame, ?_⟩
    rwa [entryStays, hsame]
  · have hout : member = false := by
      cases member
      · rfl
      · simp [hlost] at hmember
    have hadopted : (adoptedEntry member false (countedEntry n e)).state = .lost := by simp [adoptedEntry, hout, hlost]
    obtain hs | ⟨hl, -⟩ := h
    · exact ⟨.inl (by rw [hlost, ← hs, hadopted]), .inl (by rw [hadopted, hlost])⟩
    · exact absurd hadopted hl

/-- Settles O35: `boundarySilence`, and the mask that the reference builds, adopts and sends. -/
theorem referenceBoundary_holds : Obligations.ReferenceBoundary := by
  intro s cfg hr hc hb hst hrole
  obtain ⟨y, hy⟩ : ∃ y, boundarySilence cfg s = y := ⟨_, rfl⟩
  have silent : Silenced cfg s y := hy ▸ silenced_boundarySilence cfg s (by rw [hst]; rfl)
  have hyrole : y.mc.role = .reference := silent.role.trans hrole
  have hyst : y.mc.station = .member := silent.station.trans hst
  have inNext (id : StationId) := silent.buildMask_member hst id
  obtain ⟨mask, hmask⟩ : ∃ mask, buildMask y = mask := ⟨_, rfl⟩
  have hown : inMask (buildMask y) y.sid = true := (inNext y.sid).2 (.inl silent.sid)
  obtain ⟨z, hz⟩ : ∃ z, referenceBoundary cfg y = z := ⟨_, rfl⟩
  have duty : MaskRenewed cfg mask y z := hmask ▸ hz ▸ maskRenewed_referenceBoundary y hown
  have taken : DutyTaken s z (takeBoundary cfg s) := dutyTaken_takeBoundary hc (by
    rw [hy, ← hz]
    simp only [boundaryDuty, hyst, memberBoundary, hyrole, if_true])
  have ttb : (takeBoundary cfg s).tb = { boundaryTb cfg s.tb with target := (slotIn cfg mask s.sid).target } := by
    rw [taken.tb, duty.tb, silent.tb, silent.sid]
  have yepoch : y.tb.epoch = s.tb.epoch + 1 := by rw [silent.tb]; rfl
  rw [hmask] at inNext
  refine ⟨takeBoundary cfg s, mask, exec_epochBoundary hr hc hb (by simp [hst]), inNext, fun id hid => ?_, ?_, ?_, ?_, ?_, ?_,
    ?_, ?_, ?_, ?_, taken.retry fun hpeers => ?_⟩
  · have hroster : (takeBoundary cfg s).mc.roster = z.mc.roster := by rw [taken.mc]
    rw [hroster, duty.roster, silent.roster, adoptedAt, if_neg (by rw [silent.sid]; exact hid), countedAt_peer _ _ _ _ hid]
    rfl
  · rw [taken.mc, duty.mc, yepoch, silent.sid]
  · rw [taken.mc, duty.mc]; exact hyrole
  · rw [taken.mc, duty.mc]; exact hyst
  · rw [taken.mc, duty.mc]
  · rw [ttb]
  · rw [ttb]; rfl
  · rw [ttb]; rfl
  · rw [taken.beacon, duty.beacon]
    exact silent.beaconFilled _
  · have hlost : hasEvent y.lp.events .membership = hasEvent s.lp.events .membership :=
      hasEvent_of_eventsBetween silent.lp .membership (by decide)
    have hrecord : y.mc.record = s.mc.record := by rw [silent.mc]
    rw [taken.events _ (by decide), duty.membership, hlost, hrecord, maskChanged_eq]
  · have parts (id : StationId) (hopen : openHeadFor id s) : peerStays s y id ∧ peerStays y z id := by
      have stays := hpeers id hopen
      rw [peerStays, duty.roster, silent.roster, silent.sid] at stays
      rw [peerStays, peerStays, duty.roster, silent.roster, silent.sid]
      by_cases hid : id = s.sid
      · subst hid
        rw [adoptedAt, if_pos rfl, countedAt_own]
        exact ⟨.inl rfl, .inl rfl⟩
      · rw [adoptedAt, if_neg hid, countedAt_peer _ _ _ _ hid] at stays ⊢
        exact entryStays_parts _ _ _ (fun hm => ((inNext id).1 hm).resolve_left hid) stays
    have kept := silent.headStays fun id hopen => (parts id hopen).1
    exact kept.trans (duty.headKept fun id hopen => (parts id (kept.openHeadFor_iff.1 hopen)).2)

end Sys2Proof.Machine
end

section
namespace Sys2Proof.Machine

variable {s x y z t : State} {cfg : ConfigRecord}

/-! ### A boundary that takes the station off the line (R25, R26, R32, R59) -/

/-- PCU, TC and MU have nothing left to do at a boundary for a station that has left the line (R18, R91, R100, R134). -/
theorem boundary_over (hslot : slotState z.mc.station = false) (htimed : z.pcu.timed = []) (hlock : z.tb.lock = .free)
    (hretry : z.mu.retryDue = false) : retryHead (boundaryTc (boundaryPcu (fillStatus 0 z))) = z := by
  rw [fillStatus_idle 0 (.inl hslot), boundaryPcu_other (by simp [htimed]), boundaryTc_stays (.inr (by simp [hlock, lockHeld])),
    retryHead_idle hretry]

theorem takeBoundary_over (hz : boundaryDuty cfg (boundarySilence cfg s) = z) (hslot : slotState z.mc.station = false)
    (htimed : z.pcu.timed = []) (hlock : z.tb.lock = .free) (hretry : z.mu.retryDue = false) : takeBoundary cfg s = z := by
  rw [takeBoundary_eq, boundaryMc_eq, hz, boundary_over hslot htimed hlock hretry]

/-- Leaving the line at a boundary, as seen from the state before it. -/
theorem Silenced.leftTheLine (h : Silenced cfg s y) (hmu : x.mu = y.mu) (htc : x.tc = y.tc) (host : hostKept y x)
    {to_ : StationState} (left : LeftTheLine to_ x t) : LeftTheLine to_ s t :=
  { leftTheLine_from left hmu htc host with
    output := fun _ hcfg => left.output _ (host.config.trans (h.host.config.trans hcfg))
    inbound := by
      obtain ⟨ha, hb, ho, ht⟩ := left.inbound
      obtain ⟨ka, kb, ko, kt⟩ := h.inbound
      rw [hmu] at ha hb ho ht
      exact ⟨ha.trans ka, hb.trans kb, ho.trans ko, ht.trans kt⟩
    causes := by
      obtain ⟨hc, he⟩ := left.causes
      rw [htc, h.tc] at hc he
      exact ⟨hc, he⟩
    host := hostKept_trans (hostKept_trans h.host host) left.host }

theorem leaveDone_mapMc (f : Membership → Membership) (x : State) : leaveDone (mapMc f x) = leaveDone x := by
  rw [leaveDone_eq, leaveDone_eq, leaveLine_mapMc]

/-! ### EPOCH_BOUNDARY in LEAVING (R32, R59) -/

/-- What a LEAVING station does at a boundary, by its role (R32, R59). -/
def leavingDuty (cfg : ConfigRecord) (x : State) : State :=
  if x.mc.role = .reference then handoverBoundary cfg x else leaveBoundary x

theorem leavingDuty_over (h : 3 ≤ x.mc.leaveAttempts) : leavingDuty cfg x = leaveDone x := by
  have four : 4 ≤ x.mc.leaveAttempts + 1 := by omega
  unfold leavingDuty handoverBoundary leaveBoundary
  simp only [mapMc_mc, if_pos four, leaveDone_mapMc, ite_self]

/-- A follower that goes on leaving fills a LEAVE until one is acknowledged (R32). -/
theorem leavingDuty_follower (hrole : x.mc.role ≠ .reference) (h : x.mc.leaveAttempts < 3) : leavingDuty cfg x = { x with
    mc := { x.mc with leaveAttempts := x.mc.leaveAttempts + 1 }
    lc := if x.mc.leaveAcked then x.lc else (fillSlot .leave x).lc } := by
  have goes : leavingDuty cfg x = if x.mc.leaveAcked then mapMc (fun mc => { mc with leaveAttempts := mc.leaveAttempts + 1 }) x
      else fillLeave (mapMc (fun mc => { mc with leaveAttempts := mc.leaveAttempts + 1 }) x) := by
    have before : ¬4 ≤ x.mc.leaveAttempts + 1 := by omega
    exact (if_neg hrole).trans (if_neg before)
  rw [goes]
  cases x.mc.leaveAcked <;> rfl

/-- The reference that goes on leaving renews its record's epoch and fills a handover beacon (R59). -/
theorem leavingDuty_reference (hrole : x.mc.role = .reference) (h : x.mc.leaveAttempts < 3) : leavingDuty cfg x =
    fillBeacon cfg (buildMask x) true { x with
      mc := { x.mc with
        leaveAttempts := x.mc.leaveAttempts + 1, record := x.mc.record.map fun r => { r with epoch := x.tb.epoch } } } := by
  have before : ¬4 ≤ x.mc.leaveAttempts + 1 := by omega
  exact (if_pos hrole).trans (if_neg before)

/-- The mask of a handover beacon leaves the sender out (R48, R59). -/
theorem Silenced.buildMask_leaving (h : Silenced cfg s y) (hst : s.mc.station = .leaving) (id : StationId) :
    inMask (buildMask y) id = true ↔ id ≠ s.sid ∧ ((countedEntry cfg.lossEpochs s.mc.roster[id.val]).state = .member ∨
      (countedEntry cfg.lossEpochs s.mc.roster[id.val]).state = .joining) := by
  rw [inMask_buildMask]
  by_cases hid : id = s.sid
  · subst hid
    have own := rosterEntry_own y
    rw [h.sid, h.station, hst] at own
    simp [own, mirroredState]
  · rw [rosterEntry_peer id (by rw [h.sid]; exact hid), h.roster, countedAt_peer _ _ _ _ hid]
    simp [hid]

/-- A leave that goes on: the try is counted, and only frames of MC's own are filled. -/
structure LeaveGoesOn (x y : State) : Prop where
  mc : y.mc = { x.mc with
    leaveAttempts := x.mc.leaveAttempts + 1, record := y.mc.record, beaconDeadline := y.mc.beaconDeadline }
  mu : y.mu = x.mu
  mail : y.lc.slots.mail = x.lc.slots.mail
  txOn : y.lc.txOn = x.lc.txOn
  lp : y.lp = x.lp

theorem fillLeave_slots (x : State) :
    (fillSlot .leave x).lc.slots = { x.lc.slots with leave := (slotsFilled x.lc .leave).leave } := by
  rw [fillSlot_slots, slotsFilled]
  split <;> rfl

theorem leaveGoesOn (h : x.mc.leaveAttempts < 3) : LeaveGoesOn x (leavingDuty cfg x) := by
  by_cases hrole : x.mc.role = .reference
  · rw [leavingDuty_reference hrole h]
    exact ⟨rfl, rfl, by rw [fillBeacon_slots], by simp, by simp [fillBeacon]⟩
  · rw [leavingDuty_follower hrole h]
    refine ⟨rfl, rfl, ?_, ?_, rfl⟩
    · dsimp only
      split
      · rfl
      · rw [fillLeave_slots]
    · dsimp only
      split
      · rfl
      · simp

theorem boundaryDuty_leaving (hst : x.mc.station = .leaving) : boundaryDuty cfg x = leavingDuty cfg x := by
  simp only [boundaryDuty, hst, leavingDuty]

/-- The fourth boundary ends the leave, and is nothing more to the blocks after MC (R32, R59). -/
theorem takeBoundary_leaveEnds (hst : (boundarySilence cfg s).mc.station = .leaving)
    (h : 3 ≤ (boundarySilence cfg s).mc.leaveAttempts) : takeBoundary cfg s = leaveDone (boundarySilence cfg s) := by
  have left := leftTheLine_leaveDone (boundarySilence cfg s)
  obtain ⟨-, -, -, -, htimed⟩ := left.duty
  obtain ⟨-, -, hretry, -⟩ := left.mail
  exact takeBoundary_over ((boundaryDuty_leaving hst).trans (leavingDuty_over h)) (by rw [left.station]; rfl) htimed
    left.lock.1 hretry

/-! ### EPOCH_BOUNDARY in JOINING (R25, R26) -/

/-- A JOIN that is due is filled again (R25). -/
def joinRefilled (x : State) : State := if x.mc.joinRefillDue then fillJoin x else x

/-- A join sequence that goes on: the counter and the wait of the station, and its JOIN slot (R25, R26). -/
structure JoinGoesOn (cfg : ConfigRecord) (filled : Bool) (attempts : Nat) (admission : AdmissionWait) (x y : State) : Prop where
  mc : y.mc = { x.mc with joinRefillDue := false, joinAttempts := attempts, admission := admission }
  host : hostKept x y
  tb : y.tb = x.tb
  tc : y.tc = x.tc
  mu : y.mu = x.mu
  lp : y.lp = x.lp
  slots : y.lc.slots = if filled then slotsFilled x.lc (ownJoin cfg) else x.lc.slots
  txOn : y.lc.txOn = x.lc.txOn

theorem JoinGoesOn.mailSlot {filled : Bool} {attempts : Nat} {admission : AdmissionWait}
    (h : JoinGoesOn cfg filled attempts admission x y) : y.lc.slots.mail = x.lc.slots.mail := by
  rw [h.slots, slotsFilled]
  repeat' split
  all_goals rfl

theorem joinGoesOn_refilled (hc : x.config = some cfg) :
    JoinGoesOn cfg x.mc.joinRefillDue x.mc.joinAttempts x.mc.admission x (joinRefilled x) := by
  unfold joinRefilled
  cases hdue : x.mc.joinRefillDue with
  | false => exact ⟨by rw [if_neg (by simp), ← hdue], ⟨rfl, rfl, rfl, rfl, rfl, rfl⟩, rfl, rfl, rfl, rfl, rfl, rfl⟩
  | true =>
    rw [if_pos rfl, fillJoin_eq cfg hc]
    exact ⟨rfl, ⟨rfl, rfl, rfl, rfl, rfl, rfl⟩, rfl, rfl, rfl, rfl, fillSlot_slots _ x, by simp⟩

theorem slotsFilled_again (f : TxFrame) (h : x.lc.slots = slotsFilled y.lc f ∨ x.lc.slots = y.lc.slots) (htx : x.lc.txOn = y.lc.txOn) :
    slotsFilled x.lc f = slotsFilled y.lc f := by
  unfold slotsFilled at *
  rw [htx]
  cases hon : y.lc.txOn with
  | false => simpa [hon] using h
  | true =>
    rcases h with h | h
    · rw [h]
      simp only [hon, if_true]
      cases frameKind f <;> rfl
    · rw [h]

/-- What the admission wait of a station makes of a boundary. -/
def waitedAdmission (a : AdmissionWait) : AdmissionWait :=
  if a.accepted = true ∧ a.boundaries < 2 then { accepted := true, boundaries := a.boundaries + 1 } else a

/-- The boundary is the second of an admission wait (R26). -/
def waitEnds (a : AdmissionWait) : Bool := a.accepted && decide (a.boundaries = 1)

theorem waitEnds_iff (a : AdmissionWait) : waitEnds a = true ↔ a = { accepted := true, boundaries := 1 } := by
  cases a
  simp [waitEnds]

theorem joinGoesOn_joinBoundary (hc : x.config = some cfg) (h : ¬(waitEnds x.mc.admission = true ∧ 3 ≤ x.mc.joinAttempts)) :
    JoinGoesOn cfg (x.mc.joinRefillDue || waitEnds x.mc.admission)
      (x.mc.joinAttempts + (waitEnds x.mc.admission).toNat) (waitedAdmission x.mc.admission) x (joinBoundary x) := by
  have refilled := joinGoesOn_refilled hc
  have hjoin : joinBoundary x = waitBoundary (joinRefilled x) := rfl
  have hadm : (joinRefilled x).mc.admission = x.mc.admission := by rw [refilled.mc]
  rw [hjoin]
  generalize joinRefilled x = y at *
  by_cases hends : x.mc.admission = { accepted := true, boundaries := 1 }
  · have hlt : y.mc.joinAttempts < 3 := by
      rw [refilled.mc]
      exact Nat.lt_of_not_le fun h3 => h ⟨(waitEnds_iff _).2 hends, h3⟩
    rw [waitBoundary_second (hadm.trans hends), countTry_goesOn fillJoin (by exact hlt),
      fillJoin_eq cfg (by exact refilled.host.config.trans hc)]
    refine ⟨?_, refilled.host, refilled.tb, refilled.tc, refilled.mu, refilled.lp, ?_, ?_⟩
    · simp [refilled.mc, hends, waitEnds, waitedAdmission]
    · have again : slotsFilled y.lc (ownJoin cfg) = slotsFilled x.lc (ownJoin cfg) := by
        refine slotsFilled_again _ ?_ refilled.txOn
        rw [refilled.slots]
        cases x.mc.joinRefillDue <;> simp
      simp [fillSlot_slots, again, hends, waitEnds]
    · simpa using refilled.txOn
  · have hno : waitEnds x.mc.admission = false := Bool.eq_false_iff.2 fun h => hends ((waitEnds_iff _).1 h)
    rw [hno, Bool.or_false]
    by_cases hfirst : x.mc.admission = { accepted := true, boundaries := 0 }
    · rw [waitBoundary_first (hadm.trans hfirst)]
      refine ⟨?_, refilled.host, refilled.tb, refilled.tc, refilled.mu, refilled.lp, refilled.slots, refilled.txOn⟩
      simp [refilled.mc, hfirst, waitedAdmission]
    · have idle : x.mc.admission.accepted = false ∨ 2 ≤ x.mc.admission.boundaries := by
        cases hadm' : x.mc.admission with
        | mk accepted boundaries =>
          rw [hadm'] at hends hfirst
          cases accepted with
          | false => exact .inl rfl
          | true =>
            simp only [AdmissionWait.mk.injEq, true_and] at hends hfirst
            exact .inr (show 2 ≤ boundaries by omega)
      have hwaited : waitedAdmission x.mc.admission = x.mc.admission := by
        refine if_neg fun ⟨ha, hb⟩ => ?_
        rcases idle with h | h
        · simp [h] at ha
        · omega
      rw [waitBoundary_idle (by rw [hadm]; exact idle), hwaited]
      exact refilled

theorem boundaryDuty_joining (hst : x.mc.station = .joining) : boundaryDuty cfg x = joinBoundary x := by
  simp only [boundaryDuty, hst]

/-- The fourth try that fails ends the join sequence (R25, R26). -/
theorem joinBoundary_fails (hends : waitEnds x.mc.admission = true) (h3 : 3 ≤ x.mc.joinAttempts) (hc : x.config = some cfg) :
    joinBoundary x = joinFails (joinRefilled x) := by
  have refilled := joinGoesOn_refilled hc
  have hjoin : joinBoundary x = waitBoundary (joinRefilled x) := rfl
  rw [hjoin, waitBoundary_second (by rw [refilled.mc]; exact (waitEnds_iff _).1 hends),
    countTry_fails _ (by rw [mapMc_mc, refilled.mc]; exact h3), joinFails_mapMc]

/-- The JOIN slot after a boundary (R25, R26). -/
theorem JoinGoesOn.joinSlot {filled : Bool} {attempts : Nat} {admission : AdmissionWait}
    (h : JoinGoesOn cfg filled attempts admission y z) (silent : Silenced cfg s y) :
    z.lc.slots.join = if filled then (slotsFilled s.lc (ownJoin cfg)).join else s.lc.slots.join := by
  have hslot : y.lc.slots.join = s.lc.slots.join := by rw [silent.slots, (pastDeadline_slots s).1]
  rw [h.slots]
  cases filled
  · exact hslot
  · rw [if_pos rfl, if_pos rfl, slotsFilled, slotsFilled, silent.txOn]
    split
    · rfl
    · exact hslot

/-- The fourth try's wait ends at a boundary, and there is nothing more of it for the blocks after MC (R25, R26). -/
theorem takeBoundary_joinEnds (hst : y.mc.station = .joining) (hc : y.config = some cfg) (hy : boundarySilence cfg s = y)
    (hends : waitEnds y.mc.admission = true) (h3 : 3 ≤ y.mc.joinAttempts) :
    takeBoundary cfg s = joinFails (joinRefilled y) := by
  have duty : boundaryDuty cfg (boundarySilence cfg s) = joinFails (joinRefilled y) := by
    rw [hy, boundaryDuty_joining hst, joinBoundary_fails hends h3 hc]
  have left := leftTheLine_joinFailed (joinRefilled y)
  obtain ⟨-, -, -, -, htimed⟩ := left.duty
  obtain ⟨-, -, hretry, -⟩ := left.mail
  rw [joinFails_eq] at duty ⊢
  exact takeBoundary_over duty rfl htimed left.lock.1 hretry

/-- A station that has left the line and then listens has left the line but for the listening. -/
theorem LeftTheLine.listening (h : LeftTheLine .configured s x) : LeftTheLine .configured s
    { x with mc := { x.mc with station := .configured, listenTimer := none } } := by
  have same : { x with mc := { x.mc with station := .configured, listenTimer := none } } = x := by
    rw [← h.station, ← h.timer]
  rw [same]
  exact h

/-- Settles O36: `boundarySilence`, and then what a LEAVING and a JOINING station do, by whether this boundary ends it. -/
theorem leavingBoundary : Obligations.LeavingBoundary := by
  refine ⟨fun s cfg hr hc hb hst => ?_, fun s cfg hr hc hb hst => ?_⟩
  · obtain ⟨y, hy⟩ : ∃ y, boundarySilence cfg s = y := ⟨_, rfl⟩
    have silent : Silenced cfg s y := hy ▸ silenced_boundarySilence cfg s (by rw [hst]; rfl)
    have hyst : y.mc.station = .leaving := silent.station.trans hst
    have hattempts : y.mc.leaveAttempts = s.mc.leaveAttempts := by rw [silent.mc]
    refine ⟨takeBoundary cfg s, exec_epochBoundary hr hc hb (by simp [hst]), fun h3 => ?_, fun h3 => ?_⟩
    · rw [takeBoundary_leaveEnds (by rw [hy]; exact hyst) (by rw [hy, hattempts]; exact h3), hy]
      refine ⟨silent.leftTheLine rfl rfl ⟨rfl, rfl, rfl, rfl, rfl, rfl⟩ (leftTheLine_leaveDone y), by rw [leaveDone_slots]; rfl, ?_⟩
      rw [leaveDone_lp y]
      simp [hasEvent_or, hasEvent_eventMask]
    · have hlt : y.mc.leaveAttempts < 3 := by rw [hattempts]; exact h3
      obtain ⟨z, hz⟩ : ∃ z, leavingDuty cfg y = z := ⟨_, rfl⟩
      have duty : LeaveGoesOn y z := hz ▸ leaveGoesOn hlt
      have taken : DutyTaken s z (takeBoundary cfg s) := dutyTaken_takeBoundary hc (by
        rw [hy, boundaryDuty_leaving hyst, hz])
      have hleft : hasEvent y.lp.events .left = hasEvent s.lp.events .left :=
        hasEvent_of_eventsBetween silent.lp .left (by decide)
      refine ⟨?_, ?_, ?_, taken.retry fun hpeers => ?_, fun id hid => ?_, ?_, fun hrole => ?_, fun hrole => ?_⟩
      · rw [taken.mc, duty.mc]; exact hyst
      · rw [taken.mc, duty.mc, silent.mc]
      · rw [taken.mc, duty.mc, silent.mc]
      · have kept : HeadKept s y := silent.headStays fun id hopen => by
          have := hpeers id hopen
          rw [peerStays, duty.mc] at this
          exact this
        exact kept.trans (headKept_of_mu duty.mu duty.mail duty.txOn)
      · have hroster : (takeBoundary cfg s).mc.roster = y.mc.roster := by rw [taken.mc, duty.mc]
        rw [hroster, silent.roster, countedAt_peer _ _ _ _ hid]
      · rw [taken.events _ (by decide), duty.lp, hleft]
      · have follows := leavingDuty_follower (cfg := cfg) (x := y) (by rw [silent.role]; exact hrole) hlt
        have hacked : y.mc.leaveAcked = s.mc.leaveAcked := by rw [silent.mc]
        have hslot : y.lc.slots.leave = s.lc.slots.leave := by rw [silent.slots, (pastDeadline_slots s).1]
        rw [taken.mc, taken.leave, ← hz, follows, hacked]
        refine ⟨by rw [silent.mc], ?_⟩
        dsimp only
        split
        · exact hslot
        · rw [fillLeave_slots, slotsFilled, slotsFilled, silent.txOn]
          split
          · rfl
          · exact hslot
      · have leads := leavingDuty_reference (cfg := cfg) (x := y) (silent.role.trans hrole) hlt
        have hepoch : y.tb.epoch = s.tb.epoch + 1 := by rw [silent.tb]; rfl
        rw [taken.mc, taken.beacon, ← hz, leads]
        refine ⟨?_, buildMask y, silent.buildMask_leaving hst, ?_⟩
        · rw [fillBeacon_eq, hepoch, silent.mc]
        · rw [fillBeacon_slots]
          exact silent.beaconFilled _
  · intro counts
    obtain ⟨y, hy⟩ : ∃ y, boundarySilence cfg s = y := ⟨_, rfl⟩
    have silent : Silenced cfg s y := hy ▸ silenced_boundarySilence cfg s (by rw [hst]; rfl)
    have hyst : y.mc.station = .joining := silent.station.trans hst
    have hyc : y.config = some cfg := silent.host.config.trans hc
    have hattempts : y.mc.joinAttempts = s.mc.joinAttempts := by rw [silent.mc]
    have hadm : y.mc.admission = s.mc.admission := by rw [silent.mc]
    have hdue : y.mc.joinRefillDue = s.mc.joinRefillDue := by rw [silent.mc]
    have hcounts : waitEnds y.mc.admission = true ↔ counts := by
      rw [hadm, waitEnds, Bool.and_eq_true, decide_eq_true_eq]
    refine ⟨takeBoundary cfg s, exec_epochBoundary hr hc hb (by simp [hst]), fun hends h3 => ?_, fun hstays => ?_⟩
    · have refilled := joinGoesOn_refilled hyc
      have left := silent.leftTheLine (x := joinRefilled y) refilled.mu refilled.tc refilled.host (leftTheLine_joinFailed _)
      rw [takeBoundary_joinEnds hyst hyc hy (hcounts.2 hends) (by rw [hattempts]; exact h3), joinFails_eq]
      refine ⟨rfl, rfl, left.listening, by dsimp only; rw [joinFailed_slots]; rfl, ?_⟩
      dsimp only
      rw [joinFailed_lp (joinRefilled y)]
      simp [hasEvent_or, hasEvent_eventMask]
    · obtain ⟨z, hz⟩ : ∃ z, joinBoundary y = z := ⟨_, rfl⟩
      have duty := joinGoesOn_joinBoundary hyc (by rw [hcounts, hattempts]; exact hstays)
      rw [hz] at duty
      have taken : DutyTaken s z (takeBoundary cfg s) := dutyTaken_takeBoundary hc (by
        rw [hy, boundaryDuty_joining hyst, hz])
      have slot := duty.joinSlot silent
      have hfailed : hasEvent y.lp.events .joinFailed = hasEvent s.lp.events .joinFailed :=
        hasEvent_of_eventsBetween silent.lp .joinFailed (by decide)
      refine ⟨?_, ?_, ?_, ?_, taken.retry fun hpeers => ?_, fun id hid => ?_, ?_, ?_, fun hyes => ?_, fun hno => ?_,
        fun hacc hlt => ?_, fun hidle => ?_, fun hfills => ?_, fun hnodue hno => ?_⟩
      · rw [taken.mc, duty.mc]; exact hyst
      · rw [taken.mc, duty.mc, silent.mc]
      · rw [taken.mc, duty.mc, silent.mc]
      · rw [taken.tb, duty.tb, silent.tb]; rfl
      · have kept : HeadKept s y := silent.headStays fun id hopen => by
          have := hpeers id hopen
          rw [peerStays, duty.mc] at this
          exact this
        exact kept.trans (headKept_of_mu duty.mu duty.mailSlot duty.txOn)
      · have hroster : (takeBoundary cfg s).mc.roster = y.mc.roster := by rw [taken.mc, duty.mc]
        rw [hroster, silent.roster, countedAt_peer _ _ _ _ hid]
      · rw [taken.mc, duty.mc]
      · rw [taken.events _ (by decide), duty.lp, hfailed]
      · rw [taken.mc, duty.mc, hcounts.2 hyes, hattempts]; rfl
      · rw [taken.mc, duty.mc, Bool.eq_false_iff.2 (mt hcounts.1 hno), hattempts]; rfl
      · rw [taken.mc, duty.mc, hadm]
        exact if_pos ⟨hacc, hlt⟩
      · rw [taken.mc, duty.mc, hadm]
        refine if_neg fun ⟨hacc, hlt⟩ => ?_
        rcases hidle with h | h
        · simp [h] at hacc
        · omega
      · have hfilled : (y.mc.joinRefillDue || waitEnds y.mc.admission) = true := by
          rw [Bool.or_eq_true, hdue, hcounts]
          exact hfills
        rw [taken.join, slot, hfilled]
        rfl
      · have hempty : (y.mc.joinRefillDue || waitEnds y.mc.admission) = false := by
          rw [Bool.or_eq_false_iff, hdue]
          exact ⟨hnodue, Bool.eq_false_iff.2 (mt hcounts.1 hno)⟩
        rw [taken.join, slot, hempty]
        rfl

end Sys2Proof.Machine
end

section
namespace Sys2Proof.Machine

variable {s x y z t : State} {cfg : ConfigRecord}

/-! ### What TB does with an accepted beacon, as the other blocks see it (R5 to R11, R13) -/

/-- The events that TB, and PCU and TC by it, can post for an accepted beacon. -/
def timeEvents : EventSet := eventMask .locked ||| eventMask .lockLost ||| eventMask .dutyDropped ||| eventMask .rearmed

/-- A step of TB's own. -/
structure TimeMoved (s t : State) : Prop where
  host : hostKept s t
  mc : t.mc = s.mc
  lc : t.lc = s.lc
  mu : t.mu = s.mu
  settings : settingsKept s t
  run : t.pcu.run = s.pcu.run
  pending : t.pcu.pendingDuty = s.pcu.pendingDuty
  causes : t.tc.causes = s.tc.causes ∧ t.tc.tripEpoch = s.tc.tripEpoch
  lp : eventsBetween 0 timeEvents s t

theorem TimeMoved.refl (s : State) : TimeMoved s s :=
  ⟨⟨rfl, rfl, rfl, rfl, rfl, rfl⟩, rfl, rfl, rfl, ⟨rfl, rfl, rfl, rfl⟩, rfl, rfl, ⟨rfl, rfl⟩, eventsBetween_refl _ s⟩

theorem settingsKept_trans (h : settingsKept s x) (k : settingsKept x t) : settingsKept s t := by
  obtain ⟨ha, hu, hv, hw⟩ := h
  obtain ⟨ka, ku, kv, kw⟩ := k
  exact ⟨ka.trans ha, ku.trans hu, kv.trans hv, kw.trans hw⟩

theorem TimeMoved.trans (h : TimeMoved s x) (k : TimeMoved x t) : TimeMoved s t where
  host := hostKept_trans h.host k.host
  mc := k.mc.trans h.mc
  lc := k.lc.trans h.lc
  mu := k.mu.trans h.mu
  settings := settingsKept_trans h.settings k.settings
  run := k.run.trans h.run
  pending := k.pending.trans h.pending
  causes := ⟨k.causes.1.trans h.causes.1, k.causes.2.trans h.causes.2⟩
  lp := eventsBetween_trans h.lp k.lp

theorem timeMoved_mapTb (f : TimeBase → TimeBase) (x : State) : TimeMoved x (mapTb f x) :=
  { TimeMoved.refl x with host := ⟨rfl, rfl, rfl, rfl, rfl, rfl⟩ }

theorem timeMoved_regate (x : State) : TimeMoved x (regate x) :=
  { TimeMoved.refl x with host := ⟨rfl, rfl, rfl, rfl, rfl, rfl⟩ }

theorem timeMoved_postIf (c : Bool) (e : Event) (x : State) (he : eventMask e &&& timeEvents = eventMask e) :
    TimeMoved x (postIf c e x) := by
  rw [postIf_eq]
  refine { TimeMoved.refl x with
    host := ⟨rfl, rfl, rfl, rfl, rfl, rfl⟩, lp := ⟨eventIf (c = true) e, ?_, by simp⟩ }
  cases c
  · simp [eventIf]
  · simpa [eventIf] using he

theorem timeMoved_rebase (x : State) : TimeMoved x (rebase x) := by
  have hpcu := rebase_pcu x
  refine ⟨by simp [hostKept], by simp, by simp, by simp, ⟨by rw [hpcu], rebase_settings x⟩, by simp, by rw [hpcu],
    by simp, ?_⟩
  rw [eventsBetween, (show (rebase x).lp = x.lp by simp)]
  exact eventsBetween_refl _ x

theorem timeMoved_setEpoch (n : EpochNumber) (x : State) : TimeMoved x (setEpoch n x) := by
  have within : plannedEvents x.tb.epoch n x.pcu &&& timeEvents = plannedEvents x.tb.epoch n x.pcu := by
    unfold plannedEvents eventIf
    split
    · decide
    · simp
  rw [setEpoch_eq]
  exact { TimeMoved.refl x with
    host := ⟨rfl, rfl, rfl, rfl, rfl, rfl⟩
    lp := ⟨plannedEvents x.tb.epoch n x.pcu, within, by simp⟩ }

theorem timeMoved_setLock_locked (x : State) : TimeMoved x (setLock .locked x) := by
  rw [setLock_locked]
  exact ((timeMoved_mapTb _ x).trans (timeMoved_postIf _ _ _ (by decide))).trans (timeMoved_regate _)

theorem timeMoved_setLock_acquire (x : State) : TimeMoved x (setLock .acquire x) := by
  have within : (eventIf (lockHeld x.tb.lock = true) .lockLost ||| unlockedEvents x.tc) &&& timeEvents =
      eventIf (lockHeld x.tb.lock = true) .lockLost ||| unlockedEvents x.tc := by
    unfold eventIf unlockedEvents
    split <;> split <;> decide
  rw [setLock_acquire]
  refine { TimeMoved.refl x with
    host := ⟨rfl, rfl, rfl, rfl, rfl, rfl⟩, causes := ?_
    lp := ⟨eventIf (lockHeld x.tb.lock = true) .lockLost ||| unlockedEvents x.tc, within, by simp [BitVec.or_assoc]⟩ }
  unfold unlockedTrip
  split <;> exact ⟨rfl, rfl⟩

theorem timeMoved_jump (e : Int) (adopted : EpochNumber) (x : State) : TimeMoved x (jump e adopted x) := by
  unfold jump
  split
  · exact .refl x
  · exact ((timeMoved_mapTb _ x).trans (timeMoved_rebase _)).trans (timeMoved_setEpoch _ _)

theorem timeMoved_actOnError (cfg : ConfigRecord) (e : Int) (adopted : EpochNumber) (x : State) :
    TimeMoved x (actOnError cfg e adopted x) := by
  have measured (f : TimeBase → TimeBase) : TimeMoved x (setEpoch adopted (mapTb f x)) :=
    (timeMoved_mapTb f x).trans (timeMoved_setEpoch _ _)
  unfold actOnError
  split
  · exact (timeMoved_jump e adopted x).trans (timeMoved_setLock_acquire _)
  · split
    · exact timeMoved_jump e adopted x
    · dsimp only
      split
      · exact (measured _).trans (timeMoved_setLock_locked _)
      · exact measured _
  all_goals
    split
    · exact (timeMoved_setLock_acquire x).trans (timeMoved_jump e adopted _)
    · exact (measured _).trans (timeMoved_setLock_locked _)

theorem timeMoved_measureBeacon (b : Beacon) (x : State) : TimeMoved x (measureBeacon b x) := by
  have handed : TimeMoved x (handOver x) := timeMoved_mapTb _ x
  unfold measureBeacon
  split
  · exact .refl x
  · split
    · exact handed
    · exact (handed.trans (timeMoved_mapTb _ _)).trans (timeMoved_actOnError _ _ _ _)

/-- An accepted beacon touches the trip state only where it leaves the station unlocked (R100). -/
def tripFollowsLock (s t : State) : Prop := t.tc = s.tc ∨ (lockHeld t.tb.lock = false ∧ t.tc = unlockedTrip s.tc)

theorem tripFollowsLock_of (h : tripFollowsLock y z) (htc : y.tc = x.tc) : tripFollowsLock x z := by
  rwa [tripFollowsLock, htc] at h

theorem setLock_locked_tc (x : State) : (setLock .locked x).tc = x.tc := by rw [setLock_locked]; simp

theorem actOnError_trip (cfg : ConfigRecord) (e : Int) (adopted : EpochNumber) (x : State) :
    tripFollowsLock x (actOnError cfg e adopted x) := by
  unfold actOnError
  split
  · exact .inr (by rw [setLock_acquire]; exact ⟨rfl, by simp⟩)
  · split
    · exact .inl (by simp)
    · dsimp only
      split
      · exact .inl (by rw [setLock_locked_tc]; simp)
      · exact .inl (by simp)
  all_goals
    split
    · exact .inr (by simp [setLock_acquire, acquireTb, lockHeld])
    · exact .inl (by rw [setLock_locked_tc]; simp)

theorem measureBeacon_trip (b : Beacon) (x : State) : tripFollowsLock x (measureBeacon b x) := by
  unfold measureBeacon
  split
  · exact .inl rfl
  · split
    · exact .inl rfl
    · exact tripFollowsLock_of (actOnError_trip _ _ _ _) rfl

/-- What TB does with a beacon once its target is given: it locks as the reference, or measures the beacon (R13, R44, R61). -/
def beaconTimed (b : Beacon) (takes : Bool) (x : State) : State :=
  if takes then dropSample (lockAsReference x) else measureBeacon b x

theorem beaconTimed_takes (b : Beacon) (x : State) : beaconTimed b true x = dropSample (regate (postIf (x.tb.lock != .locked) .locked
    (mapTb (fun tb => { lockedTb tb with residual := 0, missed := 0 }) x))) := by
  rw [beaconTimed, if_pos rfl, lockAsReference_eq]

theorem timeMoved_beaconTimed (b : Beacon) (takes : Bool) (x : State) : TimeMoved x (beaconTimed b takes x) := by
  cases takes
  · exact timeMoved_measureBeacon b x
  · rw [beaconTimed_takes]
    exact (((timeMoved_mapTb _ x).trans (timeMoved_postIf _ _ _ (by decide))).trans (timeMoved_regate _)).trans
      (timeMoved_mapTb _ _)

theorem beaconTimed_trip (b : Beacon) (takes : Bool) (x : State) : tripFollowsLock x (beaconTimed b takes x) := by
  cases takes
  · exact measureBeacon_trip b x
  · exact .inl (by rw [beaconTimed_takes, dropSample]; simp)

end Sys2Proof.Machine
end

section
namespace Sys2Proof.Machine

variable {s x y z t u : State} {cfg : ConfigRecord} {src : StationId} {b : Beacon}

/-! ### The peers that an adopted mask loses (R41) -/

theorem completeHeads_peerLost (fuel : Nat) (x : State) :
    hasEvent (completeHeads fuel x).lp.events .peerLost = hasEvent x.lp.events .peerLost := by
  induction fuel generalizing x with
  | zero => rfl
  | succ n ih => unfold completeHeads; (repeat' split) <;> simp [ih]

/-- The end of a destination is not what posts PEER_LOST (R41, R129). -/
theorem destinationGone_peerLost (id : StationId) (x : State) :
    hasEvent (destinationGone id x).lp.events .peerLost = hasEvent x.lp.events .peerLost := by
  by_cases hopen : openHeadFor id x
  · obtain ⟨head, hq, ho, hd⟩ := hopen
    obtain ⟨rest, hlost⟩ : ∃ rest, (mailsLost id x).mu.queue = head :: rest :=
      List.head?_eq_some_iff.1 (by rw [mailsLost_mu]; exact (loseBehind_head? id _).trans hq)
    cases hf : x.mu.inFlight with
    | true => rw [destinationGone_inFlight head rest hlost hd ho hf]; rfl
    | false => rw [destinationGone_waiting head rest hlost hd ho hf, settleQueue, completeHeads_peerLost]; rfl
  · rw [destinationGone_other fun head hq => ?_]
    · rfl
    · by_cases hd : head.destination = id
      · exact .inr fun ho => hopen ⟨head, hq, ho, hd⟩
      · exact .inl hd

/-- A change of a peer's entry to LOST posts PEER_LOST, and no other change does (R41). -/
theorem setEntryState_peerLost (id : StationId) (state : EntryState) (fresh : Bool) (x : State) :
    hasEvent (setEntryState id state fresh x).lp.events .peerLost = true ↔ hasEvent x.lp.events .peerLost = true ∨
      (id ≠ x.sid ∧ state = .lost ∧ x.mc.roster[id.val].state ≠ .lost) := by
  unfold setEntryState
  by_cases hid : id = x.sid
  · simp [hid]
  by_cases hs : x.mc.roster[id.val].state = state
  · rw [if_neg hid]
    dsimp only
    rw [if_pos hs]
    simp [hs]
  rw [if_neg hid]
  dsimp only
  rw [if_neg hs]
  have posted (y : State) (c : Prop) [Decidable c] :
      hasEvent (if c then destinationGone id y else y).lp.events .peerLost = hasEvent y.lp.events .peerLost := by
    split
    · exact destinationGone_peerLost id y
    · rfl
  rw [posted, hasEvent_postIf]
  by_cases hl : state = .lost
  · subst hl
    simp [hid, hs]
  · simp [hl]

/-- What a walk over the IDs posts, where each step posts it by its own entry. -/
theorem forEachId_event {f : StationId → State → State} {g : StationId → RosterEntry → RosterEntry}
    {P : StationId → RosterEntry → Prop} (e : Event) (own : StationId)
    (hf : ∀ id y, y.sid = own → (f id y).sid = own ∧
      ∀ j : StationId, (f id y).mc.roster[j.val] = if j = id then g id y.mc.roster[id.val] else y.mc.roster[j.val])
    (he : ∀ id y, y.sid = own →
      (hasEvent (f id y).lp.events e = true ↔ hasEvent y.lp.events e = true ∨ P id y.mc.roster[id.val]))
    (x : State) (hx : x.sid = own) :
    hasEvent (forEachId f x).lp.events e = true ↔
      hasEvent x.lp.events e = true ∨ ∃ id : StationId, P id x.mc.roster[id.val] := by
  have walk (ids : List StationId) (hn : ids.Nodup) : ∀ y : State, y.sid = own →
      (hasEvent (ids.foldl (fun s i => f i s) y).lp.events e = true ↔
        hasEvent y.lp.events e = true ∨ ∃ id ∈ ids, P id y.mc.roster[id.val]) := by
    induction ids with
    | nil => intro y _; simp
    | cons id ids ih =>
      intro y hy
      obtain ⟨hid, hn⟩ := List.nodup_cons.1 hn
      obtain ⟨hs, hr⟩ := hf id y hy
      have rest : (∃ j ∈ ids, P j (f id y).mc.roster[j.val]) ↔ ∃ j ∈ ids, P j y.mc.roster[j.val] := by
        refine exists_congr fun j => and_congr_right fun hj => ?_
        rw [hr, if_neg fun h : j = id => hid (h ▸ hj)]
      rw [List.foldl_cons, ih hn _ hs, he id y hy, rest]
      simp only [List.mem_cons, exists_eq_or_imp, or_assoc]
  refine (walk _ (List.nodup_finRange 32) x hx).trans (or_congr_right ?_)
  simp only [List.mem_finRange, true_and]

theorem adoptMask_peerLost (mask : MemberMask) (from_ : Option StationId) (x : State) :
    hasEvent (adoptMask mask from_ x).lp.events .peerLost = true ↔ hasEvent x.lp.events .peerLost = true ∨
      ∃ id : StationId, id ≠ x.sid ∧ (adoptMask mask from_ x).mc.roster[id.val].state = .lost ∧
        x.mc.roster[id.val].state ≠ .lost := by
  have event := forEachId_event (f := adoptAt mask from_) (g := adoptedAt mask from_ x.sid)
    (P := fun id e => id ≠ x.sid ∧ (adoptedEntry (inMask mask id) (from_ == some id) e).state = .lost ∧ e.state ≠ .lost)
    .peerLost x.sid (fun j y hy => ⟨by simp [adoptAt, hy], fun k => by rw [adoptAt_roster, hy]⟩)
    (fun id y hy => by rw [adoptAt, setEntryState_peerLost, adoptedEntry_state, hy]) x rfl
  rw [adoptMask_eq, event]
  refine or_congr_right (exists_congr fun id => and_congr_right fun hid => ?_)
  rw [← adoptMask_eq, adoptMask_rosterAt, adoptedAt, if_neg hid]

/-! ### An accepted beacon: the record, the role and the mask (R41, R44, R57, R61) -/

/-- The role that an accepted beacon gives before any election ends (R26, R57, R61). -/
def roleUnder (b : Beacon) (x : State) : Role :=
  if takesRole b x then .reference
  else if admits b x || decide (x.mc.role = .reference) then .follower
  else x.mc.role

/-- The sender that an accepted handover beacon excuses from loss (R41). -/
def handoverSource (b : Beacon) (src : StationId) : Option StationId := if b.handover then some src else none

/-- The state of a station whose record and role an accepted beacon has given (R44, R57, R61). -/
def beaconRecorded (cfg : ConfigRecord) (src : StationId) (b : Beacon) (x : State) : State :=
  { x with
    mc := { x.mc with
      role := roleUnder b x, record := acceptedRecord cfg src b x
      beaconDeadline := x.mc.beaconDeadline && decide (x.mc.role ≠ .reference) }
    lc := if x.mc.role = .reference then (emptySlot .beacon x).lc else x.lc }

/-- The state of a station that has adopted the mask of an accepted beacon and given TB its target (R41, R44, R64). -/
def beaconTargeted (cfg : ConfigRecord) (src : StationId) (b : Beacon) (x : State) : State :=
  giveTarget (admits b x) (adoptMask b.mask (handoverSource b src) (beaconRecorded cfg src b x))

theorem beaconRecorded_eq (cfg : ConfigRecord) (src : StationId) (b : Beacon) (x : State) :
    let y := setRecord (acceptedRecord cfg src b x) (if x.mc.role = .reference then setRole .follower (removeBeacon x) else x)
    (if takesRole b x then setRole .reference y else if admits b x then setRole .follower y else y) =
      beaconRecorded cfg src b x := by
  dsimp only
  unfold beaconRecorded roleUnder
  by_cases hrole : x.mc.role = .reference <;> cases takesRole b x <;> cases admits b x <;>
    simp [hrole, setRole, setRecord, mapMc, removeBeacon_eq]

/-- What MC posts of an accepted beacon, once its station state has changed (R44, R57). -/
def beaconPosted (cfg : ConfigRecord) (src : StationId) (b : Beacon) (x z : State) : State :=
  postIf (maskChanged x.mc.record b.mask) .membership
    (postIf (decide (x.mc.role = .reference) ||
      (acceptedRecord cfg src b x).bind (·.reference) != x.mc.record.bind (·.reference)) .referenceChanged z)

theorem acceptBeacon_eq (cfg : ConfigRecord) (src : StationId) (b : Beacon) (x : State) : acceptBeacon cfg src b x =
    beaconPosted cfg src b x (acceptState x.mc.station (admits b x) (decide (x.mc.role = .reference)) b
      (endElection (beaconTimed b (takesRole b x) (beaconTargeted cfg src b x)))) := by
  rw [beaconTargeted, ← beaconRecorded_eq]
  rfl

/-- The target that an accepted beacon gives (R44, R62). -/
def beaconTarget (cfg : ConfigRecord) (b : Beacon) (s : State) : Nat := (slotIn cfg b.mask s.sid).target

/-- TB once a station that an accepted beacon admits is placed (R15, R26, R66). -/
def placedTb (cfg : ConfigRecord) (target : Nat) (tb : TimeBase) : TimeBase :=
  rebasedTb cfg { tb with target := target, current := target, syncLeft := 0 }

theorem placeTarget_eq (target : Nat) (h : x.config = some cfg) : placeTarget target x = { x with
    tb := placedTb cfg target x.tb
    pcu := refreshedPcu (outputCounter cfg (placedTb cfg target x.tb).outPos 0) x.pcu } := by
  have hc : (mapTb (fun tb => { tb with target := target, current := target, syncLeft := 0 }) x).config = some cfg := h
  rw [placeTarget, rebase_eq cfg hc]
  rfl

theorem slotIn_target_zero (cfg : ConfigRecord) (mask : MemberMask) (id : StationId) (h : carrierLength cfg = 0) :
    (slotIn cfg mask id).target = 0 := by simp [slotIn, h]

theorem placedTb_rebased (cfg : ConfigRecord) (target : Nat) (tb : TimeBase) (h : carrierLength cfg = 0 → target = 0) :
    outputRebased cfg (placedTb cfg target tb) := by
  have past : countsPast (placedTb cfg target tb) = countsPast tb := rfl
  refine ⟨?_, rfl, rfl⟩
  rw [past]
  refine Int.toNat_of_nonneg ?_
  by_cases hl : carrierLength cfg = 0
  · rw [h hl, hl]
    simp
    omega
  · exact Int.emod_nonneg _ (by omega)

/-- What an accepted beacon leaves of a station once its target is given (R37, R41, R44, R57, R61, R64). -/
structure BeaconTaken (cfg : ConfigRecord) (src : StationId) (b : Beacon) (s u : State) : Prop where
  host : hostKept s u
  mc : u.mc = { s.mc with
    role := roleUnder b s, record := acceptedRecord cfg src b s
    beaconDeadline := s.mc.beaconDeadline && decide (s.mc.role ≠ .reference), roster := u.mc.roster }
  roster : ∀ id : StationId,
    u.mc.roster[id.val] = adoptedAt b.mask (handoverSource b src) s.sid id (heardRoster src s id)
  slots : u.lc.slots = { s.lc.slots with
    mail := u.lc.slots.mail, beacon := if s.mc.role = .reference then none else s.lc.slots.beacon }
  txOn : u.lc.txOn = s.lc.txOn
  inbound : u.mu.bufA = s.mu.bufA ∧ u.mu.bufB = s.mu.bufB ∧ u.mu.overflow = s.mu.overflow ∧ u.mu.ticket = s.mu.ticket
  tc : u.tc = s.tc
  lp : eventsBetween 0 (lossEvents ||| eventMask .migrated) s u
  peerLost : hasEvent u.lp.events .peerLost = true ↔ hasEvent s.lp.events .peerLost = true ∨
    ∃ id : StationId, id ≠ s.sid ∧ u.mc.roster[id.val].state = .lost ∧ s.mc.roster[id.val].state ≠ .lost
  placed : admits b s = true → u.tb = placedTb cfg (beaconTarget cfg b s) s.tb ∧
    u.pcu = refreshedPcu (outputCounter cfg (placedTb cfg (beaconTarget cfg b s) s.tb).outPos 0) s.pcu
  migrated : admits b s = false → slotUnder b s = true → u.tb = { s.tb with target := beaconTarget cfg b s } ∧ u.pcu = s.pcu
  noSlot : slotUnder b s = false → u.tb = s.tb ∧ u.pcu = s.pcu

theorem admits_slotUnder (h : admits b s = true) : slotUnder b s = true := by
  rw [slotUnder, h]
  simp only [admits, Bool.and_eq_true] at h
  simp [h.2]

theorem maskSize_eq_zero (m : MemberMask) : maskSize m = 0 ↔ m = 0 := by
  rw [maskSize, List.length_eq_zero_iff, maskIds, List.filter_eq_nil_iff]
  constructor
  · intro h
    refine BitVec.eq_of_getLsbD_eq fun i hi => ?_
    have := h ⟨i, hi⟩ (List.mem_finRange _)
    simpa [inMask] using this
  · rintro rfl id -
    simp [inMask]

/-- A handover beacon with an empty mask empties the record (R44). -/
theorem acceptedRecord_none (cfg : ConfigRecord) (src : StationId) (s : State) (h : b.handover = true ∧ b.mask = 0) :
    acceptedRecord cfg src b s = none :=
  if_pos (by simp [h.1, (maskSize_eq_zero _).2 h.2])

/-- Any other accepted beacon fills it (R44). -/
theorem acceptedRecord_some (cfg : ConfigRecord) (src : StationId) (s : State) (h : ¬(b.handover = true ∧ b.mask = 0)) :
    acceptedRecord cfg src b s = some
      { epoch := b.epoch, mask := b.mask, reference := acceptedReference src b s
        slot := if slotUnder b s then some (slotIn cfg b.mask s.sid) else none, handover := b.handover } :=
  if_neg fun hempty => h (by simpa [maskSize_eq_zero] using hempty)

theorem slotUnder_mask (h : slotUnder b s = true) : b.mask ≠ 0 := by
  rintro hm
  simp [slotUnder, hm, inMask] at h

theorem acceptedRecord_slot (cfg : ConfigRecord) (src : StationId) (b : Beacon) (s : State) :
    (acceptedRecord cfg src b s).bind (·.slot) = if slotUnder b s then some (slotIn cfg b.mask s.sid) else none := by
  by_cases hempty : b.handover = true ∧ b.mask = 0
  · rw [acceptedRecord_none cfg src s hempty]
    cases hs : slotUnder b s with
    | false => rfl
    | true => exact absurd hempty.2 (slotUnder_mask hs)
  · rw [acceptedRecord_some cfg src s hempty]
    rfl

/-- What the mask of an accepted beacon leaves of a station, before its target is given (R37, R41). -/
structure BeaconAdopted (cfg : ConfigRecord) (src : StationId) (b : Beacon) (s y : State) : Prop where
  host : hostKept s y
  mc : y.mc = { s.mc with
    role := roleUnder b s, record := acceptedRecord cfg src b s
    beaconDeadline := s.mc.beaconDeadline && decide (s.mc.role ≠ .reference), roster := y.mc.roster }
  roster : ∀ id : StationId,
    y.mc.roster[id.val] = adoptedAt b.mask (handoverSource b src) s.sid id (heardRoster src s id)
  slots : y.lc.slots = { s.lc.slots with
    mail := y.lc.slots.mail, beacon := if s.mc.role = .reference then none else s.lc.slots.beacon }
  txOn : y.lc.txOn = s.lc.txOn
  inbound : y.mu.bufA = s.mu.bufA ∧ y.mu.bufB = s.mu.bufB ∧ y.mu.overflow = s.mu.overflow ∧ y.mu.ticket = s.mu.ticket
  tb : y.tb = s.tb
  pcu : y.pcu = s.pcu
  tc : y.tc = s.tc
  lp : eventsBetween 0 lossEvents s y
  peerLost : hasEvent y.lp.events .peerLost = true ↔ hasEvent s.lp.events .peerLost = true ∨
    ∃ id : StationId, id ≠ s.sid ∧ y.mc.roster[id.val].state = .lost ∧ s.mc.roster[id.val].state ≠ .lost

theorem heardRoster_state (src : StationId) (s : State) (id : StationId) :
    (heardRoster src s id).state = s.mc.roster[id.val].state := by
  unfold heardRoster
  split <;> rfl

theorem beaconAdopted (cfg : ConfigRecord) (src : StationId) (b : Beacon) (s : State) :
    BeaconAdopted cfg src b s (adoptMask b.mask (handoverSource b src) (beaconRecorded cfg src b (sourceReport src s))) := by
  have heard := sourceReport_blocks src s
  have report := sourceReport_roster src s
  obtain ⟨roster, hroster⟩ : ∃ r, (sourceReport src s).mc.roster = r := ⟨_, rfl⟩
  rw [hroster] at heard report
  obtain ⟨x, hx⟩ : ∃ x, beaconRecorded cfg src b (sourceReport src s) = x := ⟨_, rfl⟩
  have hmc : x.mc = { s.mc with
      role := roleUnder b s, record := acceptedRecord cfg src b s
      beaconDeadline := s.mc.beaconDeadline && decide (s.mc.role ≠ .reference), roster := roster } := by
    rw [← hx, heard]
    rfl
  have hlc : x.lc = if s.mc.role = .reference then (emptySlot .beacon s).lc else s.lc := by
    rw [← hx, heard]
    rfl
  have hslots : x.lc.slots = { s.lc.slots with beacon := if s.mc.role = .reference then none else s.lc.slots.beacon } ∧
      x.lc.txOn = s.lc.txOn := by
    rw [hlc]
    split
    · exact ⟨rfl, rfl⟩
    · exact ⟨rfl, rfl⟩
  have host : hostKept s x := by
    rw [← hx, heard]
    exact ⟨rfl, rfl, rfl, rfl, rfl, rfl⟩
  have blocks : x.tb = s.tb ∧ x.pcu = s.pcu ∧ x.tc = s.tc ∧ x.mu = s.mu ∧ x.lp = s.lp := by
    rw [← hx, heard]
    exact ⟨rfl, rfl, rfl, rfl, rfl⟩
  obtain ⟨htb, hpcu, htc, hmu, hlp⟩ := blocks
  have xroster (id : StationId) : x.mc.roster[id.val] = heardRoster src s id := by
    rw [hmc]
    exact report id
  have moved := peersMoved_adoptMask b.mask (handoverSource b src) x
  have adopted := adoptMask_rosterAt b.mask (handoverSource b src) x
  have lost := adoptMask_peerLost b.mask (handoverSource b src) x
  rw [hx]
  generalize adoptMask b.mask (handoverSource b src) x = y at *
  constructor
  case host => exact hostKept_trans host moved.host
  case mc => rw [moved.mc, hmc]
  case roster => intro id; rw [adopted id, xroster, host.sid]
  case slots => rw [moved.lc, hslots.1]
  case txOn => rw [moved.lc, hslots.2]
  case inbound => rw [moved.mu, hmu]; exact ⟨rfl, rfl, rfl, rfl⟩
  case tb => exact moved.tb.trans htb
  case pcu => exact moved.pcu.trans hpcu
  case tc => exact moved.tc.trans htc
  case lp =>
    obtain ⟨a, ha, hev⟩ := moved.lp
    exact ⟨a, ha, by rw [hev, hlp]⟩
  case peerLost =>
    rw [lost, hlp, host.sid]
    simp only [xroster, heardRoster_state]

theorem beaconTaken (src : StationId) (b : Beacon) (s : State) (hc : s.config = some cfg) :
    BeaconTaken cfg src b s (beaconTargeted cfg src b (sourceReport src s)) := by
  have adopted := beaconAdopted cfg src b s
  have hadmits : admits b (sourceReport src s) = admits b s := by rw [sourceReport_blocks]; rfl
  rw [beaconTargeted, hadmits]
  generalize adoptMask b.mask (handoverSource b src) (beaconRecorded cfg src b (sourceReport src s)) = y at *
  have hyc : y.config = some cfg := adopted.host.config.trans hc
  have hslot : y.mc.record.bind (·.slot) = if slotUnder b s then some (slotIn cfg b.mask s.sid) else none := by
    rw [adopted.mc]
    exact acceptedRecord_slot cfg src b s
  have hplaced (h : admits b s = true) : giveTarget true y = placeTarget (beaconTarget cfg b s) y := by
    rw [if_pos (admits_slotUnder h)] at hslot
    simp only [giveTarget, hslot, if_true, beaconTarget]
  have hmigrated (h : slotUnder b s = true) := giveTarget_false (x := y) (slotIn cfg b.mask s.sid) (by rw [hslot, if_pos h])
  have hnone (h : slotUnder b s = false) (place : Bool) := giveTarget_none (x := y) place (by rw [hslot, h]; rfl)
  have lp : eventsBetween 0 (eventMask .migrated) y (giveTarget (admits b s) y) := by
    cases hadm : admits b s with
    | true =>
      rw [hplaced hadm, eventsBetween, (show (placeTarget (beaconTarget cfg b s) y).lp = y.lp by simp)]
      exact eventsBetween_refl _ y
    | false =>
      cases hs : slotUnder b s with
      | true =>
        rw [hmigrated hs, postIf_eq]
        refine ⟨_, ?_, by simp; rfl⟩
        unfold eventIf
        split <;> decide
      | false => rw [hnone hs]; exact eventsBetween_refl _ y
  have frame : (giveTarget (admits b s) y).mc = y.mc ∧ (giveTarget (admits b s) y).lc = y.lc ∧
      (giveTarget (admits b s) y).mu = y.mu ∧ (giveTarget (admits b s) y).tc = y.tc := by simp
  obtain ⟨fmc, flc, fmu, ftc⟩ := frame
  constructor
  case host => exact hostKept_trans adopted.host (by simp [hostKept])
  case mc => rw [fmc]; exact adopted.mc
  case roster => rw [fmc]; exact adopted.roster
  case slots => rw [flc]; exact adopted.slots
  case txOn => rw [flc]; exact adopted.txOn
  case inbound => rw [fmu]; exact adopted.inbound
  case tc => rw [ftc]; exact adopted.tc
  case lp =>
    obtain ⟨a, ha, hev⟩ := adopted.lp
    obtain ⟨a', ha', hev'⟩ := lp
    refine ⟨a' ||| a, or_within ha' ha, ?_⟩
    rw [hev', hev]
    simp only [BitVec.or_zero, show (0 : EventSet) = 0#23 from rfl]
    congr 1
    ac_rfl
  case peerLost =>
    rw [fmc, hasEvent_of_eventsBetween lp .peerLost (by decide)]
    exact adopted.peerLost
  case placed =>
    intro h
    rw [h, hplaced h, placeTarget_eq _ hyc, adopted.tb, adopted.pcu]
    exact ⟨rfl, rfl⟩
  case migrated =>
    intro h hs
    rw [h, hmigrated hs, postIf_eq]
    exact ⟨by rw [mapTb_tb, adopted.tb]; rfl, adopted.pcu⟩
  case noSlot =>
    intro hs
    rw [hnone hs]
    exact ⟨adopted.tb, adopted.pcu⟩

end Sys2Proof.Machine
end

section
namespace Sys2Proof.Machine

variable {s x w q t u : State} {cfg : ConfigRecord} {src : StationId} {b : Beacon}

/-! ### An accepted beacon: the election and the station state (R23, R26, R30, R44, R54, R57) -/

/-- A candidate's role once its election has ended (R54). -/
def endedRole (role : Role) : Role := if role = .candidate then .follower else role

/-- An election, or a candidacy, that an accepted beacon ends. -/
def electing (mc : Membership) : Bool := mc.election.isSome || decide (mc.role = .candidate)

theorem endElection_eq (x : State) : endElection x = { x with
    mc := { x.mc with
      role := endedRole x.mc.role, election := none, beaconDeadline := x.mc.beaconDeadline && !electing x.mc }
    lc := if electing x.mc then (emptySlot .beacon x).lc else x.lc } := by
  unfold endElection electing endedRole
  cases he : x.mc.election <;> by_cases hrole : x.mc.role = .candidate <;>
    simp [hrole, setRole, mapMc, removeBeacon_eq]

theorem setStation_eq (station : StationState) (x : State) : setStation station x = { x with
    mc := { x.mc with station := station }
    pcu := { x.pcu with output := gatedOutput station x.tb.lock x.pcu.run x.tc.trip x.pcu.output } } := by
  rw [setStation, regate_gatedOutput]
  rfl

/-- What a change of the station state by an accepted beacon leaves alone. -/
structure StateTaken (x y : State) : Prop where
  host : hostKept x y
  tb : y.tb = x.tb
  tc : y.tc = x.tc
  mu : y.mu = x.mu
  pcu : y.pcu = { x.pcu with output := y.pcu.output }
  record : y.mc.record = x.mc.record
  roster : y.mc.roster = x.mc.roster
  election : y.mc.election = x.mc.election
  slots : y.lc.slots.trip = x.lc.slots.trip ∧ y.lc.slots.status = x.lc.slots.status
  beacon : x.lc.slots.beacon = none ∧ x.mc.beaconDeadline = false → y.lc.slots.beacon = none ∧ y.mc.beaconDeadline = false
  lp : eventsBetween 0 (eventMask .joined ||| eventMask .displaced) x y

theorem StateTaken.refl (x : State) : StateTaken x x :=
  ⟨⟨rfl, rfl, rfl, rfl, rfl, rfl⟩, rfl, rfl, rfl, rfl, rfl, rfl, rfl, ⟨rfl, rfl⟩, id, eventsBetween_refl _ x⟩

theorem StateTaken.trans {z : State} (h : StateTaken x w) (k : StateTaken w z) : StateTaken x z where
  host := hostKept_trans h.host k.host
  tb := k.tb.trans h.tb
  tc := k.tc.trans h.tc
  mu := k.mu.trans h.mu
  pcu := by rw [k.pcu, h.pcu]
  record := k.record.trans h.record
  roster := k.roster.trans h.roster
  election := k.election.trans h.election
  slots := ⟨k.slots.1.trans h.slots.1, k.slots.2.trans h.slots.2⟩
  beacon := fun hx => k.beacon (h.beacon hx)
  lp := eventsBetween_trans h.lp k.lp

theorem stateTaken_setStation (station : StationState) (x : State) : StateTaken x (setStation station x) := by
  rw [setStation_eq]
  exact { StateTaken.refl x with host := ⟨rfl, rfl, rfl, rfl, rfl, rfl⟩, pcu := rfl }

theorem stateTaken_mapMc {f : Membership → Membership} (x : State) (hrecord : (f x.mc).record = x.mc.record)
    (hroster : (f x.mc).roster = x.mc.roster) (helection : (f x.mc).election = x.mc.election)
    (hdeadline : (f x.mc).beaconDeadline = x.mc.beaconDeadline) : StateTaken x (mapMc f x) :=
  { StateTaken.refl x with
    host := ⟨rfl, rfl, rfl, rfl, rfl, rfl⟩, record := hrecord, roster := hroster, election := helection
    beacon := fun ⟨hs, hd⟩ => ⟨hs, hdeadline.trans hd⟩ }

theorem ownJoin_slots (x : State) : (fillSlot (ownJoin cfg) x).lc.slots =
    { x.lc.slots with join := (slotsFilled x.lc (ownJoin cfg)).join } := by
  rw [fillSlot_slots, slotsFilled]
  split <;> rfl

theorem stateTaken_fillJoin (hc : x.config = some cfg) : StateTaken x (fillJoin x) := by
  rw [fillJoin_eq cfg hc]
  refine { StateTaken.refl x with host := ⟨rfl, rfl, rfl, rfl, rfl, rfl⟩, slots := ?_, beacon := fun ⟨hs, hd⟩ => ⟨?_, hd⟩ }
  · dsimp only
    rw [ownJoin_slots]
    exact ⟨rfl, rfl⟩
  · dsimp only
    rw [ownJoin_slots]
    exact hs

theorem stateTaken_fillLeave (x : State) : StateTaken x (fillLeave x) := by
  refine { StateTaken.refl x with host := ⟨rfl, rfl, rfl, rfl, rfl, rfl⟩, slots := ?_, beacon := fun ⟨hs, hd⟩ => ⟨?_, hd⟩ }
  · rw [fillLeave, fillLeave_slots]
    exact ⟨rfl, rfl⟩
  · rw [fillLeave, fillLeave_slots]
    exact hs

theorem stateTaken_emptyJoin (x : State) : StateTaken x (emptySlot .join x) :=
  { StateTaken.refl x with host := ⟨rfl, rfl, rfl, rfl, rfl, rfl⟩ }

theorem stateTaken_removeBeacon (x : State) : StateTaken x (removeBeacon x) :=
  { StateTaken.refl x with host := ⟨rfl, rfl, rfl, rfl, rfl, rfl⟩, beacon := fun _ => ⟨rfl, rfl⟩ }

theorem stateTaken_post (e : Event) (x : State)
    (he : eventMask e &&& (eventMask .joined ||| eventMask .displaced) = eventMask e) : StateTaken x (post e x) :=
  { StateTaken.refl x with host := ⟨rfl, rfl, rfl, rfl, rfl, rfl⟩, lp := ⟨eventMask e, he, by simp [post]⟩ }

theorem stateTaken_enterJoining (hc : x.config = some cfg) : StateTaken x (enterJoining x) :=
  ((stateTaken_mapMc x rfl rfl rfl rfl).trans (stateTaken_setStation _ _)).trans (stateTaken_fillJoin (by simpa using hc))

theorem stateTaken_takeAdmission (x : State) : StateTaken x (takeAdmission x) :=
  (((stateTaken_mapMc x rfl rfl rfl rfl).trans (stateTaken_setStation _ _)).trans (stateTaken_emptyJoin _)).trans
    (stateTaken_post _ _ (by decide))

theorem stateTaken_displace (hc : x.config = some cfg) : StateTaken x (displace x) :=
  (((stateTaken_removeBeacon x).trans (stateTaken_mapMc _ rfl rfl rfl rfl)).trans
    (stateTaken_enterJoining (by simpa [setRole] using hc))).trans (stateTaken_post _ _ (by decide))

theorem stateTaken_resumeLeave (x : State) : StateTaken x (resumeLeave x) :=
  (stateTaken_mapMc x rfl rfl rfl rfl).trans (stateTaken_fillLeave _)

/-- What a station does that enters JOINING (R23, R26, R30). -/
theorem enterJoining_mc (hc : x.config = some cfg) : (enterJoining x).mc = { x.mc with
    station := .joining, joinAttempts := 0, joinRefillDue := false, admission := { accepted := false, boundaries := 0 }
    listenTimer := none } := by
  rw [enterJoining, setStation_eq, fillJoin_eq cfg (by exact hc)]
  rfl

theorem enterJoining_join (hc : x.config = some cfg) :
    (enterJoining x).lc.slots.join = (slotsFilled x.lc (ownJoin cfg)).join := by
  rw [enterJoining, setStation_eq, fillJoin_eq cfg (by exact hc)]
  dsimp only
  rw [ownJoin_slots]
  rfl

/-- What a displaced station does (R30). -/
theorem displace_mc (hc : x.config = some cfg) : (displace x).mc = { x.mc with
    station := .joining, role := .none, joinAttempts := 0, joinRefillDue := false
    admission := { accepted := false, boundaries := 0 }, listenTimer := none, beaconDeadline := false } := by
  have joins := enterJoining_mc (x := setRole .none (removeBeacon x)) (cfg := cfg) (by exact hc)
  exact joins

theorem displace_join (hc : x.config = some cfg) :
    (displace x).lc.slots.join = (slotsFilled x.lc (ownJoin cfg)).join := by
  have joins := enterJoining_join (x := setRole .none (removeBeacon x)) (cfg := cfg) (by exact hc)
  have same : (slotsFilled (setRole .none (removeBeacon x)).lc (ownJoin cfg)).join = (slotsFilled x.lc (ownJoin cfg)).join := by
    have htx : (setRole .none (removeBeacon x)).lc.txOn = x.lc.txOn := rfl
    rw [slotsFilled, slotsFilled, htx]
    split <;> rfl
  exact joins.trans same

/-- The station state that follows from an accepted beacon, where the station stays on the line (R23, R26, R30, R44, R57). -/
structure StateFollows (cfg : ConfigRecord) (b : Beacon) (s w q : State) : Prop where
  taken : StateTaken w q
  slot : slotUnder b s = true →
    q.mc.station = (if s.mc.station = .leaving then .leaving else .member) ∧ q.mc.role = w.mc.role
  noSlot : slotUnder b s = false → q.mc.station = .joining ∧
    (q.mc.role = .none ∨ (slotState s.mc.station = false ∧ q.mc.role = w.mc.role))
  enters : s.mc.station = .listening ∨ (s.mc.station = .member ∧ slotUnder b s = false) →
    q.mc.joinAttempts = 0 ∧ q.mc.admission = { accepted := false, boundaries := 0 } ∧ q.mc.listenTimer = none ∧
      q.lc.slots.join = (slotsFilled w.lc (ownJoin cfg)).join
  admitted : s.mc.station = .joining → slotUnder b s = true → q.lc.slots.join = none ∧ q.mc.joinAttempts = 0
  resumes : s.mc.station = .leaving → s.mc.role = .reference → w.mc.role ≠ .reference →
    q.mc.leaveAttempts = 0 ∧ q.mc.leaveAcked = false ∧ q.lc.slots.leave = (slotsFilled w.lc .leave).leave
  joined : hasEvent q.lp.events .joined =
    (hasEvent w.lp.events .joined || (decide (s.mc.station = .joining) && slotUnder b s))
  displaced : hasEvent q.lp.events .displaced =
    (hasEvent w.lp.events .displaced || (decide (s.mc.station = .member) && !slotUnder b s))

/-- The station state by an accepted beacon (R44). -/
def stateAfter (b : Beacon) (s w : State) : State :=
  acceptState s.mc.station (admits b s) (decide (s.mc.role = .reference)) b w

theorem slotUnder_listening (h : s.mc.station = .listening) : slotUnder b s = false := by
  simp [slotUnder, admits, slotState, h]

theorem slotUnder_joining (h : s.mc.station = .joining) : slotUnder b s = admits b s := by
  cases hm : inMask b.mask s.sid <;> simp [slotUnder, admits, slotState, h, hm]

theorem slotUnder_slotState (h : slotState s.mc.station = true) : slotUnder b s = inMask b.mask s.sid := by
  simp [slotUnder, h]

theorem stateFollows_listening (hc : w.config = some cfg) (h : s.mc.station = .listening) :
    StateFollows cfg b s w (stateAfter b s w) := by
  have hq : stateAfter b s w = enterJoining w := by simp only [stateAfter, acceptState, h]
  have hslot := slotUnder_listening (b := b) h
  have hmc := enterJoining_mc hc
  rw [hq]
  constructor
  case taken => exact stateTaken_enterJoining hc
  case noSlot => exact fun _ => ⟨by rw [hmc], .inr ⟨by simp [h, slotState], by rw [hmc]⟩⟩
  case enters => exact fun _ => ⟨by rw [hmc], by rw [hmc], by rw [hmc], enterJoining_join hc⟩
  case joined => simp [h]
  case displaced => simp [h]
  all_goals simp [hslot, h]

theorem stateFollows_joining (hw : w.mc.station = s.mc.station) (h : s.mc.station = .joining) :
    StateFollows cfg b s w (stateAfter b s w) := by
  have hslot := slotUnder_joining (b := b) h
  cases hadm : admits b s with
  | true =>
    have hq : stateAfter b s w = takeAdmission w := by simp [stateAfter, acceptState, h, hadm]
    rw [hadm] at hslot
    rw [hq]
    refine ⟨stateTaken_takeAdmission w, fun _ => ?_, ?_, ?_, fun _ _ => ?_, ?_, ?_, ?_⟩
    · simp [takeAdmission, setStation_eq, h]
    · simp [hslot]
    · simp [h]
    · simp [takeAdmission, setStation_eq, emptySlot, setSlot]
    · simp [h]
    · simp [takeAdmission, setStation_eq, h, hslot]
    · simp [takeAdmission, setStation_eq, h]
  | false =>
    have hq : stateAfter b s w = w := by simp [stateAfter, acceptState, h, hadm]
    rw [hadm] at hslot
    rw [hq]
    refine ⟨.refl w, ?_, fun _ => ⟨hw.trans h, .inr ⟨by simp [h, slotState], rfl⟩⟩, ?_, ?_, ?_, ?_, ?_⟩
    all_goals simp [hslot, h]

theorem stateFollows_member (hc : w.config = some cfg) (hid : w.sid = s.sid) (hw : w.mc.station = s.mc.station) (h : s.mc.station = .member) :
    StateFollows cfg b s w (stateAfter b s w) := by
  have hslot := slotUnder_slotState (b := b) (s := s) (by simp [h, slotState])
  cases hm : inMask b.mask s.sid with
  | true =>
    have hq : stateAfter b s w = w := by simp [stateAfter, acceptState, h, hid, hm]
    rw [hm] at hslot
    rw [hq]
    refine ⟨.refl w, fun _ => ⟨by simp [hw, h], rfl⟩, ?_, ?_, ?_, ?_, ?_, ?_⟩
    all_goals simp [hslot, h]
  | false =>
    have hq : stateAfter b s w = displace w := by simp [stateAfter, acceptState, h, hid, hm]
    have hmc := displace_mc hc
    rw [hm] at hslot
    rw [hq]
    refine ⟨stateTaken_displace hc, ?_, fun _ => ⟨by rw [hmc], .inl (by rw [hmc])⟩,
      fun _ => ⟨by rw [hmc], by rw [hmc], by rw [hmc], displace_join hc⟩, ?_, ?_, ?_, ?_⟩
    · simp [hslot]
    · simp [h]
    · simp [h]
    · simp [displace, setRole, h]
    · simp [displace, setRole, h, hslot]

theorem stateFollows_leaving (hid : w.sid = s.sid) (hw : w.mc.station = s.mc.station) (h : s.mc.station = .leaving)
    (hm : inMask b.mask s.sid = true) : StateFollows cfg b s w (stateAfter b s w) := by
  have hslot := slotUnder_slotState (b := b) (s := s) (by simp [h, slotState])
  rw [hm] at hslot
  by_cases hyields : s.mc.role = .reference ∧ w.mc.role ≠ .reference
  · have hq : stateAfter b s w = resumeLeave w := by simp [stateAfter, acceptState, h, hid, hm, hyields]
    rw [hq]
    refine ⟨stateTaken_resumeLeave w, fun _ => ⟨?_, rfl⟩, ?_, ?_, ?_, fun _ _ _ => ⟨rfl, rfl, ?_⟩, ?_, ?_⟩
    · simpa [resumeLeave, fillLeave, h] using hw.trans h
    · simp [hslot]
    · simp [h]
    · simp [h]
    · rw [resumeLeave, fillLeave, fillLeave_slots]
      rfl
    · simp [resumeLeave, fillLeave, h]
    · simp [resumeLeave, fillLeave, h]
  · have hq : stateAfter b s w = w := by
      by_cases hr : s.mc.role = .reference
      · have hwr : w.mc.role = .reference := by_contra fun hno => hyields ⟨hr, hno⟩
        simp [stateAfter, acceptState, h, hid, hm, hwr]
      · simp [stateAfter, acceptState, h, hid, hm, hr]
    rw [hq]
    refine ⟨.refl w, fun _ => ⟨by simp [hw, h], rfl⟩, ?_, ?_, ?_, fun _ hr hno => absurd ⟨hr, hno⟩ hyields, ?_, ?_⟩
    all_goals simp [hslot, h]

/-- A beacon is accepted in LISTENING, JOINING, MEMBER and LEAVING (R43). -/
theorem acceptedBy43_station (h : acceptedBy43 src s) :
    s.mc.station = .listening ∨ s.mc.station = .joining ∨ s.mc.station = .member ∨ s.mc.station = .leaving := by
  unfold acceptedBy43 at h
  cases hst : s.mc.station <;> simp [hst] at h ⊢

theorem stateFollows_stateAfter (hc : w.config = some cfg) (hid : w.sid = s.sid) (hw : w.mc.station = s.mc.station) (h : acceptedBy43 src s)
    (hout : ¬(s.mc.station = .leaving ∧ inMask b.mask s.sid = false)) : StateFollows cfg b s w (stateAfter b s w) := by
  obtain hst | hst | hst | hst := acceptedBy43_station h
  · exact stateFollows_listening hc hst
  · exact stateFollows_joining hw hst
  · exact stateFollows_member hc hid hw hst
  · exact stateFollows_leaving hid hw hst (Bool.eq_true_of_not_eq_false fun hm => hout ⟨hst, hm⟩)

/-! ### The role that an accepted beacon gives (R20, R26, R54, R57, R61) -/

/-- In the role law's terms, a station that holds a slot is the reference or a follower, as the beacon says. -/
theorem endedRole_slot (hrole : s.mc.role ≠ .none ↔ slotState s.mc.station = true) (h : slotUnder b s = true) :
    endedRole (roleUnder b s) = if takesRole b s then .reference else .follower := by
  unfold endedRole roleUnder
  cases ht : takesRole b s with
  | true => simp
  | false =>
    cases hadm : admits b s with
    | true => simp
    | false =>
      have hst : slotState s.mc.station = true := by
        simp only [slotUnder, hadm, Bool.or_false, Bool.and_eq_true] at h
        exact h.2
      have hnone := hrole.2 hst
      cases hr : s.mc.role <;> simp [hr] at hnone ⊢

/-- A station without a slot before and after a beacon has no role. -/
theorem endedRole_noSlot (hrole : s.mc.role ≠ .none ↔ slotState s.mc.station = true) (h : slotUnder b s = false)
    (hst : slotState s.mc.station = false) : endedRole (roleUnder b s) = .none := by
  have hnone : s.mc.role = .none := by_contra fun hno => by simp [hrole.1 hno] at hst
  have hadm : admits b s = false := Bool.eq_false_iff.2 fun hadm => by simp [admits_slotUnder hadm] at h
  simp [endedRole, roleUnder, takesRole, h, hadm, hnone]

theorem slotAfter_iff (b : Beacon) (s : State) : slotAfter b s ↔ slotUnder b s = true := by
  unfold slotAfter slotUnder admits
  cases inMask b.mask s.sid <;> cases hst : s.mc.station <;> simp [slotState]

theorem takesRole_iff (b : Beacon) (s : State) :
    takesRole b s = true ↔ b.handover = true ∧ lowestId b.mask = some s.sid ∧ slotAfter b s := by
  simp [takesRole, slotAfter_iff, and_assoc]

/-- The reference that an accepted beacon gives (R44, R61). -/
theorem referenceAfter_acceptedReference (src : StationId) (b : Beacon) (s : State) :
    referenceAfter src b s (acceptedReference src b s) := by
  refine ⟨fun h => ?_, fun h hl => ?_, fun h hl hno => ?_⟩
  · simp [acceptedReference, h]
  · rw [acceptedReference, if_pos h, if_neg]
    rcases hl with hl | hs
    · simp [hl]
    · simp [(slotAfter_iff b s).1 hs]
  · have hslot : slotUnder b s = false := Bool.eq_false_iff.2 (mt (slotAfter_iff b s).2 hno)
    rw [acceptedReference, if_pos h, if_pos (by simp [hl, hslot])]

end Sys2Proof.Machine
end

section
namespace Sys2Proof.Machine

variable {s x y w q t u : State} {cfg : ConfigRecord} {src : StationId} {b : Beacon}

/-! ### An accepted beacon, as a whole (R37, R41, R44) -/

/-- The state of a station once an accepted beacon has ended any election (R44, R54). -/
def beaconDecided (cfg : ConfigRecord) (src : StationId) (b : Beacon) (s : State) : State :=
  endElection (beaconTimed b (takesRole b s) (beaconTargeted cfg src b (sourceReport src s)))

theorem deliverBeacon_accepts (hc : x.config = some cfg) (hgeo : sameGeometry cfg b.period b.mode b.length = true)
    (hacc : acceptedBy43 src x) : deliverBeacon src b x = acceptBeacon cfg src b x := by
  simp only [deliverBeacon, hc, hgeo]
  by_cases hst : x.mc.station = .listening
  · rw [if_pos hst, if_pos trivial]
  · rw [if_neg hst, if_pos (by rw [(acceptsBeacon_iff src x hst).2 hacc]; rfl)]

theorem exec_beaconReceived_accepted (hr : s.pins.resetn = true) (hc : s.config = some cfg)
    (hgeo : sameGeometry cfg b.period b.mode b.length = true) (hacc : acceptedBy43 src s) :
    exec (.beaconReceived src b) s =
      .next (planReply true false (beaconPosted cfg src b s (stateAfter b s (beaconDecided cfg src b s)))) := by
  have accepted := (acceptedBy43_sourceReport src s).2 hacc
  have delivered := (deliverBeacon_accepts (x := sourceReport src s) (by simpa using hc) hgeo accepted).trans
    (acceptBeacon_eq cfg src b _)
  have before (z : State) : beaconPosted cfg src b (sourceReport src s) z = beaconPosted cfg src b s z := by
    rw [sourceReport_blocks]
    rfl
  have state (z : State) : acceptState (sourceReport src s).mc.station (admits b (sourceReport src s))
      (decide ((sourceReport src s).mc.role = .reference)) b z = stateAfter b s z := by
    rw [sourceReport_blocks]
    rfl
  have takes : takesRole b (sourceReport src s) = takesRole b s := by
    rw [sourceReport_blocks]
    rfl
  rw [before, state, takes] at delivered
  exact exec_high hr (congrArg (fun z => goes s (planReply true false z)) delivered)

/-- What posting the changes and acknowledging the beacon leave alone (R37, R44). -/
structure BeaconAnswered (cfg : ConfigRecord) (src : StationId) (b : Beacon) (s q t : State) : Prop where
  host : hostKept q t
  tb : t.tb = q.tb
  mc : t.mc = q.mc
  pcu : t.pcu = q.pcu
  tc : t.tc = q.tc
  mu : t.mu = q.mu
  lc : t.lc = { q.lc with replyAck := true, replyRefuse := false }
  events : ∀ e, hasEvent t.lp.events e = ((hasEvent q.lp.events e ||
    ((decide (s.mc.role = .reference) ||
      (acceptedRecord cfg src b s).bind (·.reference) != s.mc.record.bind (·.reference)) &&
        decide (e = .referenceChanged))) || (maskChanged s.mc.record b.mask && decide (e = .membership)))

theorem beaconAnswered (cfg : ConfigRecord) (src : StationId) (b : Beacon) (s q : State) :
    BeaconAnswered cfg src b s q (planReply true false (beaconPosted cfg src b s q)) := by
  unfold beaconPosted
  constructor
  case lc => simp [planReply]
  case events => intro e; simp [planReply]
  all_goals simp [hostKept]

/-- What an accepted beacon leaves of a station once any election has ended (R44, R54). -/
structure BeaconDecided (cfg : ConfigRecord) (src : StationId) (b : Beacon) (s u w : State) : Prop where
  taken : BeaconTaken cfg src b s u
  timed : TimeMoved u (beaconTimed b (takesRole b s) u)
  host : hostKept s w
  mc : w.mc = { s.mc with
    role := endedRole (roleUnder b s), record := acceptedRecord cfg src b s, beaconDeadline := w.mc.beaconDeadline
    election := none, roster := u.mc.roster }
  slots : w.lc.slots = { s.lc.slots with mail := w.lc.slots.mail, beacon := w.lc.slots.beacon }
  txOn : w.lc.txOn = s.lc.txOn
  beacon : electionLaw s → s.mc.role = .reference ∨ s.mc.role = .candidate ∨ s.mc.election ≠ none →
    w.lc.slots.beacon = none ∧ w.mc.beaconDeadline = false
  inbound : w.mu.bufA = s.mu.bufA ∧ w.mu.bufB = s.mu.bufB ∧ w.mu.overflow = s.mu.overflow ∧ w.mu.ticket = s.mu.ticket
  tb : w.tb = (beaconTimed b (takesRole b s) u).tb
  pcu : w.pcu = (beaconTimed b (takesRole b s) u).pcu
  tc : w.tc = (beaconTimed b (takesRole b s) u).tc
  lp : w.lp = (beaconTimed b (takesRole b s) u).lp

theorem beaconDecided_of (src : StationId) (b : Beacon) (hc : s.config = some cfg) :
    BeaconDecided cfg src b s (beaconTargeted cfg src b (sourceReport src s)) (beaconDecided cfg src b s) := by
  have taken := beaconTaken src b s hc
  have timed := timeMoved_beaconTimed b (takesRole b s) (beaconTargeted cfg src b (sourceReport src s))
  unfold beaconDecided
  generalize beaconTargeted cfg src b (sourceReport src s) = u at *
  obtain ⟨v, hv⟩ : ∃ v, beaconTimed b (takesRole b s) u = v := ⟨_, rfl⟩
  have ended := endElection_eq v
  have vslots : (endElection v).lc.slots = { v.lc.slots with beacon := (endElection v).lc.slots.beacon } ∧
      (endElection v).lc.txOn = v.lc.txOn := by
    rw [ended]
    dsimp only
    split
    · exact ⟨rfl, rfl⟩
    · exact ⟨rfl, rfl⟩
  rw [hv] at timed ⊢
  have electing_iff : electing v.mc = (s.mc.election.isSome || decide (roleUnder b s = .candidate)) := by
    rw [electing, timed.mc, taken.mc]
  constructor
  case taken => exact taken
  case timed => rw [hv]; exact timed
  case host => exact hostKept_trans (hostKept_trans taken.host timed.host) (by rw [ended]; exact ⟨rfl, rfl, rfl, rfl, rfl, rfl⟩)
  case mc =>
    rw [ended]
    dsimp only
    rw [timed.mc, taken.mc]
  case slots => rw [vslots.1, timed.lc, taken.slots]
  case txOn => rw [vslots.2, timed.lc, taken.txOn]
  case beacon =>
    intro law h
    rw [ended]
    dsimp only
    cases hel : electing v.mc with
    | true => exact ⟨rfl, by simp⟩
    | false =>
      rw [electing_iff, Bool.or_eq_false_iff] at hel
      have hnone : s.mc.election = none := by simpa using hel.1
      have hrole : s.mc.role = .reference := by
        rcases h with h | h | h
        · exact h
        · exact absurd hnone (law h)
        · exact absurd hnone h
      rw [if_neg (by simp), timed.lc, timed.mc, taken.slots, taken.mc]
      simp [hrole]
  case inbound => rw [ended, timed.mu]; exact taken.inbound
  all_goals rw [ended, hv]

theorem slotsFilled_join {lc lc' : LineController} (htx : lc.txOn = lc'.txOn) (h : lc.slots.join = lc'.slots.join) :
    (slotsFilled lc (ownJoin cfg)).join = (slotsFilled lc' (ownJoin cfg)).join := by
  rw [slotsFilled, slotsFilled, htx]
  split
  · rfl
  · exact h

theorem slotsFilled_leave {lc lc' : LineController} (htx : lc.txOn = lc'.txOn) (h : lc.slots.leave = lc'.slots.leave) :
    (slotsFilled lc .leave).leave = (slotsFilled lc' .leave).leave := by
  rw [slotsFilled, slotsFilled, htx]
  split
  · rfl
  · exact h

theorem admits_iff (b : Beacon) (s : State) : admits b s = true ↔ s.mc.station = .joining ∧ slotUnder b s = true := by
  refine ⟨fun h => ⟨?_, admits_slotUnder h⟩, fun ⟨hst, hs⟩ => by rwa [slotUnder_joining hst] at hs⟩
  simp only [admits, Bool.and_eq_true, beq_iff_eq] at h
  exact h.1.1

/-- What an accepted beacon leaves of PCU before the beacon is measured (R72, R90). -/
theorem BeaconTaken.duty (h : BeaconTaken cfg src b s u) : settingsKept s u ∧ u.pcu.run = s.pcu.run ∧
    u.pcu.pendingDuty = s.pcu.pendingDuty ∧ u.pcu.timed = s.pcu.timed ∧ u.pcu.due = s.pcu.due := by
  have same (hp : u.pcu = s.pcu) : settingsKept s u ∧ u.pcu.run = s.pcu.run ∧
      u.pcu.pendingDuty = s.pcu.pendingDuty ∧ u.pcu.timed = s.pcu.timed ∧ u.pcu.due = s.pcu.due := by
    rw [settingsKept, hp]
    exact ⟨⟨rfl, rfl, rfl, rfl⟩, rfl, rfl, rfl, rfl⟩
  cases hadm : admits b s with
  | true =>
    rw [settingsKept, (h.placed hadm).2]
    exact ⟨⟨rfl, rfl, rfl, rfl⟩, rfl, rfl, rfl, rfl⟩
  | false =>
    cases hs : slotUnder b s with
    | true => exact same (h.migrated hadm hs).2
    | false => exact same (h.noSlot hs).2

/-- What a placement moves of TB (R15, R26, R66). -/
theorem BeaconTaken.time (h : BeaconTaken cfg src b s u) : u.tb = { s.tb with
    target := u.tb.target, current := u.tb.current, syncLeft := u.tb.syncLeft, outPos := u.tb.outPos
    netStep := u.tb.netStep, inCarrier := u.tb.inCarrier, startMark := u.tb.startMark } := by
  cases hadm : admits b s with
  | true => rw [(h.placed hadm).1]; rfl
  | false =>
    cases hs : slotUnder b s with
    | true => rw [(h.migrated hadm hs).1]
    | false => rw [(h.noSlot hs).1]

theorem BeaconTaken.target (h : BeaconTaken cfg src b s u) (hs : slotUnder b s = true) :
    u.tb.target = (slotIn cfg b.mask s.sid).target := by
  cases hadm : admits b s with
  | true => rw [(h.placed hadm).1]; rfl
  | false => rw [(h.migrated hadm hs).1]; rfl

theorem BeaconTaken.onlyTarget (h : BeaconTaken cfg src b s u) (hadm : admits b s = false) :
    u.tb = { s.tb with target := u.tb.target } := by
  cases hs : slotUnder b s with
  | true => rw [(h.migrated hadm hs).1]
  | false => rw [(h.noSlot hs).1]

theorem BeaconTaken.channels (h : BeaconTaken cfg src b s u) (hadm : admits b s = false) : u.pcu = s.pcu := by
  cases hs : slotUnder b s with
  | true => exact (h.migrated hadm hs).2
  | false => exact (h.noSlot hs).2

theorem slotUnder_leaving (hst : s.mc.station = .leaving) (hout : ¬(s.mc.station = .leaving ∧ inMask b.mask s.sid = false)) :
    slotUnder b s = true := by
  rw [slotUnder_slotState (by simp [hst, slotState])]
  exact Bool.eq_true_of_not_eq_false fun hm => hout ⟨hst, hm⟩

/-- TB and PCU of a station that a beacon gives the role: it is LOCKED as the reference, and only its gate moves (R13, R61). -/
theorem beaconTimed_reference (b : Beacon) (u : State) :
    (beaconTimed b true u).tb = { u.tb with
      lock := .locked, inWindow := 2, residual := 0, missed := 0, sample := none, expired := false } ∧
    (beaconTimed b true u).pcu = { u.pcu with output := (beaconTimed b true u).pcu.output } ∧
    ∀ e, e ≠ .locked → hasEvent (beaconTimed b true u).lp.events e = hasEvent u.lp.events e := by
  rw [beaconTimed_takes, regate_gatedOutput]
  refine ⟨?_, ?_, fun e he => ?_⟩
  · simp [dropSample, lockedTb]
  · simp [dropSample]
  · simp [dropSample, he]

/-- What a station hands on of PCU's lists and channels is what the measured, or the untouched, state has of them. -/
theorem beaconTimed_lists (b : Beacon) (takes : Bool) (u v : State) (hv : takes = true → v = u)
    (hm : takes = false → v = measureBeacon b u) :
    (beaconTimed b takes u).pcu = { v.pcu with output := (beaconTimed b takes u).pcu.output } ∧
      hasEvent (beaconTimed b takes u).lp.events .dutyDropped = hasEvent v.lp.events .dutyDropped := by
  cases takes
  · rw [hm rfl]
    exact ⟨rfl, rfl⟩
  · obtain ⟨-, hpcu, hev⟩ := beaconTimed_reference b u
    rw [hv rfl]
    exact ⟨hpcu, hev _ (by decide)⟩

/-- The events that TB, the roster and a change of target can add (R37, R41, R68). -/
def decidingEvents : EventSet := timeEvents ||| lossEvents ||| eventMask .migrated

theorem BeaconDecided.event (h : BeaconDecided cfg src b s u w) (e : Event) (he : hasEvent decidingEvents e = false) :
    hasEvent w.lp.events e = hasEvent s.lp.events e := by
  simp only [decidingEvents, hasEvent_or, Bool.or_eq_false_iff] at he
  obtain ⟨⟨ht, hl⟩, hm⟩ := he
  rw [h.lp, hasEvent_of_eventsBetween h.timed.lp e ht, hasEvent_of_eventsBetween h.taken.lp e (by rw [hasEvent_or, hl, hm]; rfl)]

/-- A LEAVING station that the mask leaves out has left the line (R32, R44). -/
theorem BeaconDecided.leaves (h : BeaconDecided cfg src b s u w) (answered : BeaconAnswered cfg src b s (leaveDone w) t) :
    LeftTheLine .configured s t ∧ t.lc.slots.leave = none ∧ hasEvent t.lp.events .left = true ∧ t.lc.replyAck = true ∧
      t.lc.replyRefuse = false := by
  have left := leftTheLine_leaveDone w
  have slots := leaveDone_slots w
  have leftNow : LeftTheLine .configured w t := by
    refine leftTheLine_of_blocks left answered.mc answered.tb answered.mu answered.tc answered.host ?_ ?_
    · rw [answered.pcu]; exact left.duty
    · rw [answered.lc]; exact left.slots
  refine ⟨{ leftNow with
    output := fun _ hcfg => leftNow.output _ (h.host.config.trans hcfg)
    inbound := ?_, causes := ?_, host := hostKept_trans h.host leftNow.host }, ?_, ?_, ?_, ?_⟩
  · obtain ⟨ha, hb, ho, ht⟩ := leftNow.inbound
    obtain ⟨ka, kb, ko, kt⟩ := h.inbound
    exact ⟨ha.trans ka, hb.trans kb, ho.trans ko, ht.trans kt⟩
  · obtain ⟨hc, he⟩ := leftNow.causes
    obtain ⟨kc, ke⟩ := h.timed.causes
    rw [h.tc, kc, h.taken.tc] at hc
    rw [h.tc, ke, h.taken.tc] at he
    exact ⟨hc, he⟩
  · rw [answered.lc, slots]; rfl
  · rw [answered.events, leaveDone_lp w]
    simp [hasEvent_or, hasEvent_eventMask]
  · rw [answered.lc]
  · rw [answered.lc]

/-- Settles O41: the record, role and mask by `beaconTaken`, TB by `beaconTimed`, the election by `endElection_eq` and the
station state by `stateFollows_stateAfter`. -/
theorem beaconAccepted : Obligations.BeaconAccepted := by
  intro src b s cfg hr hrole helection hc hgeo hacc takes join
  obtain ⟨-, hroles, -, -⟩ := hrole
  have decided := beaconDecided_of src b hc
  have executed := exec_beaconReceived_accepted hr hc hgeo hacc
  have answered := beaconAnswered cfg src b s (stateAfter b s (beaconDecided cfg src b s))
  generalize beaconTargeted cfg src b (sourceReport src s) = u at *
  generalize beaconDecided cfg src b s = w at *
  refine ⟨fun hst hm => ⟨_, executed, ?_⟩, fun hout => ⟨_, u, executed, ?_⟩⟩
  · have hq : stateAfter b s w = leaveDone w := by simp [stateAfter, acceptState, hst, decided.host.sid, hm]
    rw [hq] at answered ⊢
    exact decided.leaves answered
  have hwst : w.mc.station = s.mc.station := by rw [decided.mc]
  have follows := stateFollows_stateAfter (b := b) (decided.host.config.trans hc) decided.host.sid hwst hacc hout
  generalize stateAfter b s w = q at *
  generalize planReply true false (beaconPosted cfg src b s q) = t at *
  have taken := decided.taken
  have state := follows.taken
  obtain ⟨usettings, urun, upending, utimed, udue⟩ := taken.duty
  obtain ⟨bufA, bufB, -, ticket⟩ := decided.inbound
  have hslot : slotAfter b s ↔ slotUnder b s = true := slotAfter_iff b s
  have htakes : takes ↔ takesRole b s = true := (takesRole_iff b s).symm
  have hwrole : w.mc.role = endedRole (roleUnder b s) := by rw [decided.mc]
  have hrecord : t.mc.record = acceptedRecord cfg src b s := by rw [answered.mc, state.record, decided.mc]
  have hroster : t.mc.roster = u.mc.roster := by rw [answered.mc, state.roster, decided.mc]
  have htb : t.tb = (beaconTimed b (takesRole b s) u).tb := by rw [answered.tb, state.tb, decided.tb]
  have htc : t.tc = (beaconTimed b (takesRole b s) u).tc := by rw [answered.tc, state.tc, decided.tc]
  have hpcu : t.pcu = { (beaconTimed b (takesRole b s) u).pcu with output := t.pcu.output } := by
    rw [answered.pcu, state.pcu, decided.pcu]
  have event (e : Event) (h1 : e ≠ .referenceChanged) (h2 : e ≠ .membership) :
      hasEvent t.lp.events e = hasEvent q.lp.events e := by
    rw [answered.events]
    simp [h1, h2]
  refine ⟨hostKept_trans decided.host (hostKept_trans state.host answered.host), fun hh hm => ?_, fun hempty => ?_,
    fun id hid => ?_, ?_, ?_, fun hs => ?_, fun hs => ?_, fun hs => ?_, fun hst hs => ?_, fun hst href hno => ?_, fun h => ?_,
    ?_, ?_, ?_, ?_, taken.host.config, congrArg (·.carrier) taken.time, congrArg (·.position) taken.time,
    congrArg (·.epoch) taken.time, congrArg (·.lock) taken.time, congrArg (·.inWindow) taken.time,
    congrArg (·.residual) taken.time, congrArg (·.sample) taken.time, congrArg (·.missed) taken.time,
    congrArg (·.boundary) taken.time, fun hs => taken.target (hslot.1 hs), fun hs => (taken.noSlot ?_).1, fun hst => ?_,
    fun hst hs => ?_, fun h ch => ?_, utimed, udue, hasEvent_of_eventsBetween taken.lp _ (by decide), fun v hv hm => ?_, fun hno => ?_,
    fun hyes => ?_, ?_, ?_, ?_, ?_, ?_, ?_, ?_, ?_, ?_, ?_, ?_, ?_, ?_, ?_, fun e he => ?_⟩
  · rw [hrecord]; exact acceptedRecord_none cfg src s ⟨hh, hm⟩
  · refine ⟨_, hrecord.trans (acceptedRecord_some cfg src s hempty), rfl, rfl, rfl, referenceAfter_acceptedReference src b s,
      fun hs => if_pos (hslot.1 hs), fun hs => if_neg (mt hslot.2 hs)⟩
  · rw [hroster, taken.roster, adoptedAt, if_neg hid, handoverSource]
    congr 1
    cases b.handover <;> simp [eq_comm]
  · rw [hroster, taken.roster, adoptedAt, if_pos rfl, heardRoster, if_neg]
    rintro ⟨heq, hne, -⟩
    exact hne heq.symm
  · rw [answered.mc, state.election, decided.mc]
  · obtain ⟨hstation, hqrole⟩ := follows.slot (hslot.1 hs)
    have role := hwrole.trans (endedRole_slot hroles (hslot.1 hs))
    rw [answered.mc, hqrole, role, hstation]
    exact ⟨rfl, fun ht => if_pos (htakes.1 ht), fun ht => if_neg (mt htakes.2 ht)⟩
  · have hs' : slotUnder b s = false := Bool.eq_false_iff.2 (mt hslot.2 hs)
    obtain ⟨hstation, hqrole⟩ := follows.noSlot hs'
    rw [answered.mc]
    refine ⟨hstation, ?_⟩
    rcases hqrole with h | ⟨hst, h⟩
    · exact h
    · rw [h, hwrole]
      exact endedRole_noSlot hroles hs' hst
  · obtain ⟨hj, ha, hl, hslots⟩ := follows.enters (hs.imp_right fun ⟨hm, hno⟩ => ⟨hm, Bool.eq_false_iff.2 (mt hslot.2 hno)⟩)
    rw [answered.mc, answered.lc]
    exact ⟨hj, ha, hl, hslots.trans (slotsFilled_join decided.txOn (by rw [decided.slots]))⟩
  · rw [answered.mc, answered.lc]
    exact follows.admitted hst (hslot.1 hs)
  · have hwno : w.mc.role ≠ .reference := by
      rw [hwrole, endedRole_slot hroles (slotUnder_leaving hst hout), if_neg (mt htakes.2 hno)]
      simp
    obtain ⟨ha, hk, hl⟩ := follows.resumes hst href hwno
    rw [answered.mc, answered.lc]
    exact ⟨ha, hk, hl.trans (slotsFilled_leave decided.txOn (by rw [decided.slots]))⟩
  · rw [answered.mc, answered.lc]
    exact state.beacon (decided.beacon helection h)
  · rw [answered.lc]
  · rw [answered.lc]
  · rw [answered.lc, state.slots.1, decided.slots]
  · rw [answered.lc, state.slots.2, decided.slots]
  · exact Bool.eq_false_iff.2 (mt hslot.2 hs)
  · exact taken.onlyTarget (Bool.eq_false_iff.2 fun h => hst ((admits_iff b s).1 h).1)
  · obtain ⟨placed, formed⟩ := taken.placed ((admits_iff b s).2 ⟨hst, hslot.1 hs⟩)
    rw [placed, formed]
    exact ⟨rfl, rfl, placedTb_rebased cfg _ _ (slotIn_target_zero cfg _ _), requestsFormed_refreshedPcu _ _⟩
  · rw [taken.channels (Bool.eq_false_iff.2 fun hadm => ?_)]
    obtain ⟨hst, hs⟩ := (admits_iff b s).1 hadm
    exact h.elim (fun hno => hno hst) fun hno => hno (hslot.2 hs)
  · obtain ⟨hlists, hdropped⟩ := beaconTimed_lists b (takesRole b s) u v (fun h => hv (htakes.2 h)) fun h => hm (by simp [htakes, h])
    rw [hpcu, hlists]
    refine ⟨rfl, rfl, fun ch => by cases ch <;> rfl, ?_⟩
    rw [event _ (by decide) (by decide), hasEvent_of_eventsBetween state.lp _ (by decide), decided.lp, hdropped]
  · rw [htb, Bool.eq_false_iff.2 (mt htakes.2 hno)]
    rfl
  · rw [htb, htakes.1 hyes, (beaconTimed_reference b u).1]
  · exact settingsKept_trans usettings (by
      have := decided.timed.settings
      rwa [settingsKept, hpcu])
  · rw [hpcu]; exact decided.timed.run.trans urun
  · rw [hpcu]; exact decided.timed.pending.trans upending
  · rw [htc, decided.timed.causes.1, taken.tc]
  · rw [htc, decided.timed.causes.2, taken.tc]
  · have trip := beaconTimed_trip b (takesRole b s) u
    rwa [tripFollowsLock, ← htc, ← htb, taken.tc] at trip
  · rw [answered.mu, state.mu, bufA]
  · rw [answered.mu, state.mu, bufB]
  · rw [answered.mu, state.mu, ticket]
  · rw [event _ (by decide) (by decide), follows.joined, decided.event _ (by decide)]
    simp [hslot]
  · rw [event _ (by decide) (by decide), follows.displaced, decided.event _ (by decide)]
    simp [hslot]
  · rw [answered.events, hasEvent_of_eventsBetween state.lp _ (by decide), decided.event _ (by decide), hrecord]
    simp
  · rw [answered.events, hasEvent_of_eventsBetween state.lp _ (by decide), decided.event _ (by decide), maskChanged_eq]
    simp
  · rw [event _ (by decide) (by decide), hasEvent_of_eventsBetween state.lp _ (by decide), decided.lp,
      hasEvent_of_eventsBetween decided.timed.lp _ (by decide), taken.peerLost, hroster]
  · have quiet : e ≠ .referenceChanged ∧ e ≠ .membership ∧ hasEvent (eventMask .joined ||| eventMask .displaced) e = false ∧
        hasEvent decidingEvents e = false := by
      revert e
      decide
    obtain ⟨h1, h2, h3, h4⟩ := quiet
    rw [event e h1 h2, hasEvent_of_eventsBetween state.lp e h3, decided.event e h4]

end Sys2Proof.Machine
end

section
namespace Sys2Proof.Machine

/-! ### Slots of a mask (R62, R63) -/

theorem mem_maskIds (m : MemberMask) (id : StationId) : id ∈ maskIds m ↔ inMask m id = true := by simp [maskIds]

theorem maskIds_increasing (m : MemberMask) : (maskIds m).Pairwise (· < ·) := (List.pairwise_lt_finRange 32).filter _

theorem maskIds_nodup (m : MemberMask) : (maskIds m).Nodup := (maskIds_increasing m).imp ne_of_lt

theorem maskSize_eq_card (m : MemberMask) :
    maskSize m = (Finset.univ.filter fun i : StationId => inMask m i = true).card := by
  rw [maskSize, ← List.toFinset_card_of_nodup (maskIds_nodup m)]
  congr 1
  ext i
  simp [mem_maskIds]

theorem maskRank_eq_card (m : MemberMask) (id : StationId) :
    maskRank m id = (Finset.univ.filter fun i : StationId => inMask m i = true ∧ i < id).card := by
  rw [maskRank, ← List.toFinset_card_of_nodup ((maskIds_nodup m).filter _)]
  congr 1
  ext i
  simp [mem_maskIds]

/-- The IDs below a member are not all the members: the member itself is missing. -/
theorem maskRank_lt_maskSize (m : MemberMask) (id : StationId) (h : inMask m id = true) : maskRank m id < maskSize m :=
  List.length_filter_lt_length_iff_exists.2 ⟨id, (mem_maskIds m id).2 h, by simp⟩

/-- Between two members the lower one itself counts for the higher one's rank. -/
theorem maskRank_lt_maskRank (m : MemberMask) (id other : StationId) (h : inMask m id = true) (hlt : id < other) :
    maskRank m id < maskRank m other := by
  rw [maskRank_eq_card, maskRank_eq_card]
  refine Finset.card_lt_card ((Finset.ssubset_iff_of_subset fun i hi => ?_).2 ⟨id, ?_, ?_⟩)
  · obtain ⟨hin, hi⟩ := (Finset.mem_filter_univ i).1 hi
    exact (Finset.mem_filter_univ i).2 ⟨hin, hi.trans hlt⟩
  · exact (Finset.mem_filter_univ id).2 ⟨h, hlt⟩
  · simp

theorem lowestId_eq_some_iff (m : MemberMask) (id : StationId) (h : inMask m id = true) :
    lowestId m = some id ↔ ∀ i, inMask m i = true → id ≤ i := by
  have member := mem_maskIds m
  have increasing := maskIds_increasing m
  rw [lowestId]
  generalize maskIds m = ids at member increasing
  cases ids with
  | nil => exact absurd ((member id).2 h) List.not_mem_nil
  | cons low rest =>
    have least (i : StationId) (hi : inMask m i = true) : low ≤ i := by
      rcases List.mem_cons.1 ((member i).2 hi) with rfl | hrest
      · exact le_refl i
      · exact (List.rel_of_pairwise_cons increasing hrest).le
    have lowIn : inMask m low = true := (member low).1 List.mem_cons_self
    rw [List.head?_cons, Option.some.injEq]
    exact ⟨fun heq => heq ▸ least, fun hle => le_antisymm (least id h) (hle low lowIn)⟩

/-- The lowest ID of a mask has no ID below it, so rank and target are 0 (R62). -/
theorem slotIn_lowest (cfg : ConfigRecord) (m : MemberMask) (id : StationId) (h : ∀ i, inMask m i = true → id ≤ i) :
    slotIn cfg m id = { rank := 0, target := 0 } := by
  have hrank : maskRank m id = 0 := by
    rw [maskRank_eq_card, Finset.card_filter_eq_zero_iff]
    rintro i - ⟨hin, hlt⟩
    exact hlt.not_ge (h i hin)
  simp [slotIn, hrank]

/-- The shortest carrier of an accepted record is 1,200 counts, in either mode (R139). -/
theorem carrierLength_ge (cfg : ConfigRecord) (h : acceptedValues cfg) : 1200 ≤ carrierLength cfg := by
  obtain ⟨⟨hm, hp, -⟩ | ⟨hm, hp, -⟩, -⟩ := h
  · simpa [carrierLength, hm] using hp
  · simp only [carrierLength, hm]
    omega

/-- Targets of ascending ranks stand at least `gap` counts apart where K slots of `gap` counts fit in L. -/
theorem target_add_le {rank next length size gap : Nat} (hsize : 0 < size) (hfit : gap * size ≤ length) (h : rank < next) :
    rank * length / size + gap ≤ next * length / size := by
  rw [Nat.le_div_iff_mul_le hsize]
  calc (rank * length / size + gap) * size
      = rank * length / size * size + gap * size := Nat.add_mul ..
    _ ≤ rank * length + length := Nat.add_le_add (Nat.div_mul_le_self ..) hfit
    _ = (rank + 1) * length := (Nat.succ_mul ..).symm
    _ ≤ next * length := Nat.mul_le_mul_right _ h

/-- From one rank to the next the target grows by floor(L/K), and by one more where the remainders carry. -/
theorem target_succ {rank length size : Nat} (hsize : 0 < size) :
    (rank + 1) * length / size = rank * length / size + length / size ∨
      (rank + 1) * length / size = rank * length / size + length / size + 1 := by
  rw [Nat.succ_mul, Nat.add_div hsize]
  split
  · exact .inr rfl
  · exact .inl rfl

/-- Settles O52: ranks count the lower IDs, by `maskRank_eq_card`, and targets divide a carrier of at least 1,200 counts
among at most 32 members, by `target_add_le` and `target_succ`. -/
theorem slotsOfMask : Obligations.SlotsOfMask := by
  intro cfg mask id hcfg hid
  have hrank : maskRank mask id < maskSize mask := maskRank_lt_maskSize mask id hid
  have hsize : 0 < maskSize mask := Nat.zero_lt_of_lt hrank
  have hlength : 1200 ≤ carrierLength cfg := carrierLength_ge cfg hcfg
  have hfit : 37 * maskSize mask ≤ carrierLength cfg := by
    have := maskSize_le mask
    omega
  have hlow := lowestId_eq_some_iff mask id hid
  have hbelow : maskRank mask id * carrierLength cfg < carrierLength cfg * maskSize mask := by
    rw [Nat.mul_comm]
    exact Nat.mul_lt_mul_of_pos_left hrank (by omega)
  refine ⟨maskRank_eq_card mask id, maskSize_eq_card mask, hrank, Nat.div_mul_le_self .., ?_,
    (Nat.div_lt_iff_lt_mul hsize).2 hbelow, hlow, fun h => slotIn_lowest cfg mask id (hlow.1 h), fun other _ hlt => ?_⟩
  · exact (Nat.div_lt_iff_lt_mul hsize).1 (Nat.lt_succ_self _)
  · have hranks := maskRank_lt_maskRank mask id other hid hlt
    refine ⟨hranks, target_add_le hsize hfit hranks, fun hnext => ?_⟩
    have hnext : maskRank mask other = maskRank mask id + 1 := hnext
    simp only [slotIn, hnext]
    exact target_succ hsize

end Sys2Proof.Machine
end

section
namespace Sys2Proof.Machine

variable {s x t : State}

/-! ### The trip law and the output law over the shared operations (R87, R88, R93, R102) -/

/-- The output state is OFF exactly when a condition of the gate fails (R87): the first half of the output law. -/
def gateLaw (s : State) : Prop := s.pcu.output = .off ↔ gateOpen s = false

/-- The output state is ACTIVE only once a record has been applied (R88): the second half of the output law. -/
def appliedLaw (s : State) : Prop := s.pcu.output = .active → s.pcu.hasApplied = true

theorem outputLaw_iff (s : State) : outputLaw s ↔ gateLaw s ∧ appliedLaw s := Iff.rfl

/-- What an operation keeps that leaves the gate to be taken afresh after it. -/
structure Ungated (s t : State) : Prop where
  resetn : t.pins.resetn = s.pins.resetn
  trip : tripLaw s → tripLaw t
  applied : appliedLaw s → appliedLaw t

/-- What an operation keeps whose output state is in line with the gate after it (R87, R88). -/
structure Gated (s t : State) : Prop extends Ungated s t where
  gate : gateLaw s → gateLaw t

theorem Ungated.refl (s : State) : Ungated s s := ⟨rfl, id, id⟩

theorem Ungated.trans (h : Ungated s x) (k : Ungated x t) : Ungated s t :=
  ⟨k.resetn.trans h.resetn, k.trip ∘ h.trip, k.applied ∘ h.applied⟩

theorem Gated.refl (s : State) : Gated s s := { Ungated.refl s with gate := id }

theorem Gated.trans (h : Gated s x) (k : Gated x t) : Gated s t :=
  { h.toUngated.trans k.toUngated with gate := k.gate ∘ h.gate }

theorem Gated.output (h : Gated s t) : outputLaw s → outputLaw t := fun ⟨hg, ha⟩ => ⟨h.gate hg, h.applied ha⟩

/-- RESETN stands, and all that the gate and the output law speak of, the trip state left out. -/
def gateKept (s t : State) : Prop :=
  t.pins.resetn = s.pins.resetn ∧ t.mc.station = s.mc.station ∧ t.tb.lock = s.tb.lock ∧ t.pcu.run = s.pcu.run ∧
    t.pcu.output = s.pcu.output ∧ t.pcu.hasApplied = s.pcu.hasApplied

theorem gateOpen_congr (h : gateKept x t) (ht : t.tc.trip = x.tc.trip) : gateOpen t = gateOpen x := by
  obtain ⟨-, hst, hl, hr, -, -⟩ := h
  simp only [gateOpen, hst, hl, hr, ht]

theorem ungated_of_output (h : Ungated s x) (htrip : tripLaw x → tripLaw t) (ho : t.pcu.output = x.pcu.output)
    (ha : t.pcu.hasApplied = x.pcu.hasApplied) (hr : t.pins.resetn = x.pins.resetn) : Ungated s t :=
  h.trans ⟨hr, htrip, fun hx => by simpa only [appliedLaw, ho, ha] using hx⟩

/-- A step of TC alone that leaves the trip state. -/
theorem gated_of_trip (h : Gated s x) (k : gateKept x t) (ht : t.tc.trip = x.tc.trip) (htrip : tripLaw x → tripLaw t) :
    Gated s t := by
  obtain ⟨hr, -, -, -, ho, ha⟩ := id k
  exact { ungated_of_output h.toUngated htrip ho ha hr with
    gate := fun hs => by simpa only [gateLaw, gateOpen_congr k ht, ho] using h.gate hs }

/-- An operation that touches nothing of what the two laws speak of. -/
theorem gated_of_kept (h : Gated s x) (k : gateKept x t) (htc : t.tc = x.tc) : Gated s t :=
  gated_of_trip h k (by rw [htc]) (by simp only [tripLaw, htc]; exact id)

theorem gated_ite {c : Prop} [Decidable c] {a b : State} (ha : c → Gated s a) (hb : ¬c → Gated s b) :
    Gated s (if c then a else b) := by
  split
  · exact ha ‹_›
  · exact hb ‹_›

theorem gateLaw_regate (x : State) : gateLaw (regate x) := by
  have hopen : gateOpen (regate x) = gateOpen x := by simp [gateOpen]
  refine ⟨fun ho => ?_, fun hc => regate_closed x (hopen ▸ hc)⟩
  rw [hopen]
  by_contra hg
  exact regate_open x (by simpa using hg) ho

/-- Whatever has changed of the gate's conditions, taking it afresh brings the output state into line (R87, R88). -/
theorem gated_regate (h : Ungated s x) : Gated s (regate x) where
  resetn := by simpa using h.resetn
  trip := by simpa [tripLaw] using h.trip
  applied hs ha := by simpa [regate_output] using h.applied hs (active_of_regate ha)
  gate _ := gateLaw_regate x

/-! #### Trips (R96 to R102) -/

theorem appendOrigin_bounded (id : StationId) (list : List StationId) (h : list.length ≤ 8) (hn : list.Nodup) :
    (appendOrigin id list).length ≤ 8 ∧ (appendOrigin id list).Nodup := by
  unfold appendOrigin
  split
  · exact ⟨h, hn⟩
  next hnew =>
    simp only [Bool.or_eq_true, List.contains_iff_mem, decide_eq_true_eq, not_or] at hnew
    obtain ⟨hmem, hlen⟩ := hnew
    refine ⟨by simp; omega, List.nodup_append.2 ⟨hn, List.nodup_singleton _, ?_⟩⟩
    rintro a ha b hb rfl
    exact hmem (List.mem_singleton.1 hb ▸ ha)

theorem anyCause_addCause (c : CauseSet) (cause : TripCause) : anyCause (addCause c cause) = true := by
  cases cause <;> simp [anyCause, addCause]

/-- Entering ARMED from REARM, where no cause is in the set, empties the list (R100). -/
theorem gated_enterArmed (h : Ungated s x) (hr : x.tc.trip = .rearm) : Gated s (enterArmed x) := by
  refine gated_regate (ungated_of_output h ?_ (by simp) (by simp) (by simp))
  simp +contextual [tripLaw, hr]

theorem gated_rearmIfUnlocked (h : Gated s x) : Gated s (rearmIfUnlocked x) := by
  unfold rearmIfUnlocked
  refine gated_ite (fun hr => gated_enterArmed h.toUngated ?_) fun _ => h
  simp only [Bool.and_eq_true, decide_eq_true_eq] at hr
  exact hr.1

theorem gated_boundaryTc (h : Gated s x) : Gated s (boundaryTc x) := by
  unfold boundaryTc
  refine gated_ite (fun hr => gated_enterArmed h.toUngated ?_) fun _ => h
  simp only [Bool.and_eq_true, decide_eq_true_eq] at hr
  exact hr.1

/-- Entering REARM with no cause in the set (R98, R99). -/
theorem gated_enterRearm (h : Ungated s (mapTc (fun tc => { tc with trip := .rearm }) x)) : Gated s (enterRearm x) :=
  gated_rearmIfUnlocked (gated_regate h)

theorem gated_enterRemote (h : Ungated s x) (hx : x.tc.trip = .armed ∨ x.tc.trip = .rearm) : Gated s (enterRemote x) := by
  refine gated_regate (ungated_of_output h ?_ (by simp) (by simp) (by simp))
  obtain hr | hr := hx <;> simp +contextual [tripLaw, hr]

theorem gated_fillTrip (cause : TripCause) (h : Gated s x) : Gated s (fillTrip cause x) := by
  unfold fillTrip
  exact gated_ite (fun _ => gated_of_kept h (by simp [gateKept]) (by simp)) fun _ => h

/-- A latched cause makes the set one with a cause, and the station TRIPPED_LOCAL (R93, R96, R97). -/
theorem gated_latchCause (cause : TripCause) (h : Gated s x) : Gated s (latchCause cause x) := by
  unfold latchCause
  refine gated_ite (fun _ => h) fun _ => gated_ite (fun hl => ?_) fun _ => ?_
  · refine gated_fillTrip cause (gated_of_trip h (by simp [gateKept]) rfl ?_)
    simp +contextual [tripLaw, hl, anyCause_addCause]
  · refine gated_regate (ungated_of_output h.toUngated (fun ⟨_, hlen, hn, _⟩ => ?_) (by simp) (by simp) (by simp))
    obtain ⟨hlen', hn'⟩ := appendOrigin_bounded x.sid x.tc.origins hlen hn
    simp [tripLaw, anyCause_addCause, hlen', hn']

theorem gated_senseTripn (h : Gated s x) : Gated s (senseTripn x) := by
  unfold senseTripn
  split
  next ha => exact gated_ite (fun _ => h) fun _ => gated_enterRemote h.toUngated (.inl ha)
  next hr => exact gated_ite (fun _ => h) fun _ => gated_enterRemote h.toUngated (.inr hr)
  next hm =>
    refine gated_ite (fun _ => gated_enterRearm (ungated_of_output h.toUngated ?_ rfl rfl rfl)) fun _ => h
    simp +contextual [tripLaw, hm]
  next => exact h

/-- With the set emptied, no trip state but TRIPPED_LOCAL breaks the law (R99). -/
theorem gated_clearCauses (h : Gated s x) : Gated s (clearCauses x) := by
  unfold clearCauses
  refine gated_ite (fun _ => gated_enterRearm (ungated_of_output h.toUngated ?_ (by simp) (by simp) (by simp))) fun _ =>
    gated_regate (ungated_of_output h.toUngated ?_ (by simp) (by simp) (by simp))
  all_goals simp +contextual [tripLaw, anyCause]

/-! #### Duty records, and the entry to ACTIVE (R75, R79, R80, R88) -/

theorem gated_applySettings (d : DutySettings) (h : Gated s x) : Gated s (applySettings d x) := by
  unfold applySettings
  split
  · exact h
  · exact h.trans ⟨⟨rfl, id, fun _ _ => rfl⟩, id⟩

theorem gated_applyPending (h : Gated s x) : Gated s (applyPending x) := by
  unfold applyPending
  split
  · exact h
  · exact gated_of_kept (gated_applySettings _ h) ⟨rfl, rfl, rfl, rfl, rfl, rfl⟩ rfl

theorem gated_applyDue (h : Gated s x) : Gated s (applyDue x) := by
  unfold applyDue
  split
  · exact h
  next d _ => exact gated_of_kept (gated_applySettings d h) (by simp [gateKept]) (by simp)

/-- The entry is made from STANDBY, with the gate open and a record applied (R88). -/
theorem gated_enterActive (h : Gated s x) : Gated s (enterActive x) := by
  unfold enterActive
  refine gated_ite (fun hc => ?_) fun _ => h
  simp only [Bool.and_eq_true, decide_eq_true_eq] at hc
  obtain ⟨⟨_, happlied⟩, hopen⟩ := hc
  have hgate : gateLaw (mapPcu (fun p => { p with output := .active }) x) := by
    have : gateOpen (mapPcu (fun p => { p with output := .active }) x) = true := hopen
    simp [gateLaw, this]
  exact h.trans ⟨⟨rfl, id, fun _ _ => happlied⟩, fun _ => hgate⟩

theorem gated_refreshChannels (h : Gated s x) : Gated s (refreshChannels x) := by
  unfold refreshChannels
  split
  · exact h
  · exact gated_of_kept h ⟨rfl, rfl, rfl, rfl, rfl, rfl⟩ rfl

theorem gated_takeDue (n : EpochNumber) (h : Gated s x) : Gated s (takeDue n x) := by
  unfold takeDue
  split
  · exact h
  · exact gated_ite (fun _ => gated_of_kept h (by simp [gateKept]) (by simp)) fun _ => h

theorem gated_dueAfterStart (h : Gated s x) : Gated s (dueAfterStart x) := by
  unfold dueAfterStart
  split
  · exact gated_ite
      (fun _ => gated_enterActive (gated_applyDue (gated_of_kept h (by simp [gateKept]) (by simp)))) fun _ => h
  · exact h

theorem gated_boundaryPcu (h : Gated s x) : Gated s (boundaryPcu x) := by
  unfold boundaryPcu
  split
  · exact h
  · exact gated_ite (fun _ => gated_dueAfterStart (gated_takeDue _ h)) fun _ => h

theorem gated_startPcu (h : Gated s x) : Gated s (startPcu x) :=
  gated_enterActive (gated_refreshChannels (gated_ite (fun _ => gated_applyDue h) fun _ => gated_applyPending h))

theorem gated_setEpoch (n : EpochNumber) (h : Gated s x) : Gated s (setEpoch n x) := by
  unfold setEpoch
  rw [epochChanged_blocks]
  exact gated_of_kept h ⟨rfl, rfl, rfl, rfl, rfl, rfl⟩ rfl

/-! #### The Time Base -/

theorem gateKept_rebase (x : State) : gateKept x (rebase x) := by
  rw [rebase_blocks, rebase_pcu]
  simp [gateKept]

theorem gated_rebase (h : Gated s x) : Gated s (rebase x) := gated_of_kept h (gateKept_rebase x) (by simp)

theorem ungated_rebase (h : Ungated s x) : Ungated s (rebase x) :=
  h.trans (gated_rebase (.refl x)).toUngated

/-- An operation of TB that does not change the lock state. -/
theorem gated_mapTb {f : TimeBase → TimeBase} (h : Gated s x) (hl : (f x.tb).lock = x.tb.lock) : Gated s (mapTb f x) :=
  gated_of_kept h ⟨rfl, rfl, hl, rfl, rfl, rfl⟩ rfl

theorem gated_giveTarget (place : Bool) (h : Gated s x) : Gated s (giveTarget place x) := by
  unfold giveTarget
  split
  · exact h
  · refine gated_ite (fun _ => gated_rebase (gated_mapTb h rfl)) fun _ => gated_ite (fun _ => h) fun _ => ?_
    exact gated_of_kept h (by simp [gateKept]) (by simp)

theorem gated_setLock (lock : LockState) (h : Ungated s x) : Gated s (setLock lock x) :=
  gated_rearmIfUnlocked (gated_regate (ungated_of_output h (by simp [tripLaw]) (by simp) (by simp) (by simp)))

theorem gated_lockAsReference (h : Gated s x) : Gated s (lockAsReference x) :=
  gated_setLock _ (gated_mapTb h rfl).toUngated

theorem gated_jump (e : Int) (n : EpochNumber) (h : Gated s x) : Gated s (jump e n x) := by
  unfold jump
  split
  · exact h
  · exact gated_setEpoch _ (gated_rebase (gated_mapTb h rfl))

theorem gated_actOnError (cfg : ConfigRecord) (e : Int) (n : EpochNumber) (h : Gated s x) :
    Gated s (actOnError cfg e n x) := by
  have held : Gated s (if 4 * cfg.window < e.natAbs then jump e n (setLock .acquire x)
      else setLock .locked (setEpoch n (mapTb (fun tb => { tb with residual := e }) x))) :=
    gated_ite (fun _ => gated_jump e n (gated_setLock _ h.toUngated)) fun _ =>
      gated_setLock _ (gated_setEpoch n (gated_mapTb h rfl)).toUngated
  have counted : Gated s (setEpoch n (mapTb (fun tb => { tb with residual := e, inWindow := tb.inWindow + 1 }) x)) :=
    gated_setEpoch n (gated_mapTb h rfl)
  unfold actOnError
  split
  next => exact gated_setLock _ (gated_jump e n h).toUngated
  next => exact gated_ite (fun _ => gated_jump e n h) fun _ =>
      gated_ite (fun _ => gated_setLock _ counted.toUngated) fun _ => counted
  next => exact held
  next => exact held

theorem gated_measureBeacon (b : Beacon) (h : Gated s x) : Gated s (measureBeacon b x) := by
  have handed : Gated s (handOver x) := gated_mapTb h rfl
  unfold measureBeacon
  split
  · exact h
  · split
    · exact handed
    · exact gated_actOnError _ _ _ (gated_mapTb handed rfl)

theorem gated_dropSample (h : Gated s x) : Gated s (dropSample x) := gated_mapTb h rfl

theorem gated_countMiss (cfg : ConfigRecord) (h : Gated s x) : Gated s (countMiss cfg x) := by
  have missed : Gated s (mapTb (fun tb =>
      { tb with missed := min 8 (x.tb.missed + 1), windowOpen := false, windowSeen := false }) x) := gated_mapTb h rfl
  unfold countMiss
  exact gated_ite (fun _ => gated_mapTb (gated_setLock _ (gated_mapTb missed rfl).toUngated) rfl) fun _ =>
    gated_ite (fun _ => gated_setLock _ missed.toUngated) fun _ => missed

theorem gated_freeTb (h : Ungated s x) : Gated s (freeTb x) :=
  gated_rearmIfUnlocked (gated_regate (ungated_rebase (ungated_of_output h id rfl rfl rfl)))

end Sys2Proof.Machine
end

section
namespace Sys2Proof.Machine

variable {s x t : State}

/-! #### Station state, elections, founding -/

/-- An operation of MC that does not change the station state. -/
theorem gated_mapMc {f : Membership → Membership} (h : Gated s x) (hf : (f x.mc).station = x.mc.station) :
    Gated s (mapMc f x) := gated_of_kept h ⟨rfl, hf, rfl, rfl, rfl, rfl⟩ rfl

theorem gated_setRole (r : Role) (h : Gated s x) : Gated s (setRole r x) := gated_mapMc h rfl

theorem gated_setRecord (r : Option EpochRecord) (h : Gated s x) : Gated s (setRecord r x) := gated_mapMc h rfl

theorem gated_fillSlot (f : TxFrame) (h : Gated s x) : Gated s (fillSlot f x) := gated_of_kept h (by simp [gateKept]) (by simp)

theorem gated_emptySlot (k : FrameKind) (h : Gated s x) : Gated s (emptySlot k x) :=
  gated_of_kept h (by simp [gateKept]) (by simp)

theorem gated_removeBeacon (h : Gated s x) : Gated s (removeBeacon x) := gated_mapMc (gated_emptySlot _ h) rfl

theorem gated_adoptMask (mask : MemberMask) (from_ : Option StationId) (h : Gated s x) : Gated s (adoptMask mask from_ x) :=
  gated_of_kept h (by simp [gateKept]) (by simp)

theorem gated_endElection (h : Gated s x) : Gated s (endElection x) := gated_of_kept h (by simp [gateKept]) (by simp)

/-- What MC does at a boundary to a station that stays on the line touches nothing of the gate. -/
theorem gated_of_memberMoved (h : Gated s x) (k : MemberMoved x t) : Gated s t := by
  obtain ⟨-, -, -, -, hpins, -⟩ := k.host
  refine gated_of_kept h ?_ k.tc
  rw [gateKept, k.tb, k.pcu, hpins]
  exact ⟨rfl, k.station, rfl, rfl, rfl, rfl⟩

theorem gated_setStation (to_ : StationState) (h : Ungated s x) : Gated s (setStation to_ x) :=
  gated_regate (ungated_of_output h id rfl rfl rfl)

theorem gated_leaveLine (keep : Bool) (to_ : StationState) (h : Gated s x) : Gated s (leaveLine keep to_ x) := by
  have left : Ungated s (mapMc (leftMembership to_) (emptyMcSlots keep x)) :=
    ungated_of_output h.toUngated (by simp [tripLaw]) (by simp) (by simp) (by simp)
  have off : Ungated s (leavePcu (mapMc (leftMembership to_) (emptyMcSlots keep x))) :=
    left.trans ⟨rfl, id, fun _ ho => by cases ho⟩
  exact gated_freeTb (ungated_of_output off (by simp [tripLaw]) (by simp) (by simp) (by simp))

theorem gated_startListening (h : Gated s x) : Gated s (startListening x) :=
  gated_setStation _ (ungated_of_output h.toUngated (by simp [tripLaw]) (by simp) (by simp) (by simp))

theorem gated_post (e : Event) (h : Gated s x) : Gated s (post e x) := gated_of_kept h (by simp [gateKept]) rfl

theorem gated_postIf (c : Bool) (e : Event) (h : Gated s x) : Gated s (postIf c e x) :=
  gated_of_kept h (by simp [gateKept]) (by simp)

theorem gated_joinFails (h : Gated s x) : Gated s (joinFails x) :=
  gated_startListening (gated_post _ (gated_leaveLine _ _ h))

theorem gated_countTry {goOn : State → State} (hg : ∀ y : State, Gated y (goOn y)) (h : Gated s x) :
    Gated s (countTry goOn x) := by
  have counted : Gated s (mapMc (fun mc => { mc with joinAttempts := mc.joinAttempts + 1 }) x) := gated_mapMc h rfl
  unfold countTry
  exact gated_ite (fun _ => gated_joinFails counted) fun _ => counted.trans (hg _)

theorem gated_leaveDone (h : Gated s x) : Gated s (leaveDone x) := gated_post _ (gated_leaveLine _ _ h)

theorem gated_enterMismatch (h : Gated s x) : Gated s (enterMismatch x) :=
  gated_of_kept (gated_leaveLine false .mismatch h) (by simp [gateKept, enterMismatch]) (by simp [enterMismatch])

theorem gated_isolate (h : Gated s x) : Gated s (isolate x) := by
  have silent : Gated s (emptyAllSlots (transmitterOff x)) := gated_of_kept h (by simp [gateKept]) (by simp)
  unfold isolate
  dsimp only
  split
  · exact gated_post _ (gated_leaveLine _ _ silent)
  · exact gated_post _ (gated_leaveLine _ _ silent)
  · exact gated_post _ (gated_leaveLine _ _ silent)
  · exact gated_post _ (gated_leaveLine _ _ silent)
  · exact gated_post _ (gated_setStation _ silent.toUngated)
  · exact gated_post _ (gated_setStation _ silent.toUngated)
  · exact silent
  · exact silent
  · exact silent

theorem gated_leaveAsFollower (h : Gated s x) : Gated s (leaveAsFollower x) := by
  have removed : Gated s (if x.mc.role = .candidate then removeBeacon x else x) :=
    gated_ite (fun _ => gated_removeBeacon h) fun _ => h
  exact gated_fillSlot _ (gated_setStation _ (gated_mapMc removed rfl).toUngated)

theorem gated_found (cfg : ConfigRecord) (h : Gated s x) : Gated s (found cfg x) := by
  have member : Gated s (setStation .member (mapMc (fun mc => { mc with listenTimer := none }) x)) :=
    gated_setStation _ (gated_mapMc h rfl).toUngated
  have locked : Gated s (foundLocked cfg x) :=
    gated_lockAsReference (gated_setEpoch 0 (gated_of_kept member (by simp [gateKept]) (by simp)))
  rw [found_eq]
  exact gated_of_kept (gated_giveTarget true locked) (by simp [gateKept]) (by simp)

/-! #### Beacons -/

theorem gated_enterJoining (h : Gated s x) : Gated s (enterJoining x) :=
  gated_of_memberMoved (gated_setStation _ (gated_mapMc h rfl).toUngated) (memberMoved_fillJoin _)

theorem gated_takeAdmission (h : Gated s x) : Gated s (takeAdmission x) :=
  gated_post _ (gated_emptySlot _ (gated_setStation .member (gated_mapMc h rfl).toUngated))

theorem gated_acceptState (before : StationState) (admitted yielded : Bool) (b : Beacon) (h : Gated s x) :
    Gated s (acceptState before admitted yielded b x) := by
  have displaced : Gated s (displace x) :=
    gated_post _ (gated_enterJoining (gated_setRole _ (gated_removeBeacon h)))
  unfold acceptState
  split
  · exact gated_enterJoining h
  · exact gated_ite (fun _ => gated_takeAdmission h) fun _ => h
  · exact gated_ite (fun _ => h) fun _ => displaced
  · refine gated_ite (fun _ => gated_ite (fun _ => ?_) fun _ => h) fun _ => gated_leaveDone h
    exact gated_of_kept h (by simp [gateKept]) (by simp)
  · exact h

theorem gated_acceptBeacon (cfg : ConfigRecord) (src : StationId) (b : Beacon) (h : Gated s x) :
    Gated s (acceptBeacon cfg src b x) := by
  have yielded : Gated s (if x.mc.role = .reference then setRole .follower (removeBeacon x) else x) :=
    gated_ite (fun _ => gated_setRole _ (gated_removeBeacon h)) fun _ => h
  have recorded := gated_setRecord (acceptedRecord cfg src b x) yielded
  have taken := gated_ite (c := takesRole b x = true) (fun _ => gated_setRole .reference recorded) fun _ =>
    gated_ite (c := admits b x = true) (fun _ => gated_setRole .follower recorded) fun _ => recorded
  have targeted := gated_giveTarget (admits b x) (gated_adoptMask b.mask (if b.handover then some src else none) taken)
  have timed := gated_ite (c := takesRole b x = true) (fun _ => gated_dropSample (gated_lockAsReference targeted))
    fun _ => gated_measureBeacon b targeted
  unfold acceptBeacon
  dsimp only
  exact gated_postIf _ _ (gated_postIf _ _ (gated_acceptState _ _ _ _ (gated_endElection timed)))

theorem gated_deliverBeacon (src : StationId) (b : Beacon) (h : Gated s x) : Gated s (deliverBeacon src b x) := by
  have dropped := gated_dropSample h
  unfold deliverBeacon
  split
  · exact dropped
  · exact gated_ite
      (fun _ => gated_ite (fun _ => gated_acceptBeacon _ _ _ h) fun _ => gated_enterMismatch dropped)
      fun _ => gated_ite (fun _ => gated_acceptBeacon _ _ _ h) fun _ => gated_postIf _ _ dropped

theorem gated_joinOutcome (ack refuse : Bool) (h : Gated s x) : Gated s (joinOutcome ack refuse x) := by
  unfold joinOutcome
  exact gated_ite (fun _ => gated_ite (fun _ => gated_post _ (gated_leaveLine _ _ h)) fun _ =>
    gated_ite (fun _ => gated_mapMc h rfl) fun _ => gated_countTry (fun y => gated_mapMc (.refl y) rfl) h) fun _ => h

theorem gated_noElection (h : Gated s x) : Gated s (mapMc (fun mc => { mc with election := none }) x) := gated_mapMc h rfl

theorem gated_becomeReference (cfg : ConfigRecord) (b : Beacon) (h : Gated s x) : Gated s (becomeReference cfg b x) := by
  unfold becomeReference
  refine gated_postIf _ _ (gated_postIf _ _ (gated_noElection ?_))
  exact gated_lockAsReference (gated_giveTarget _ (gated_adoptMask _ _ (gated_setRecord _ (gated_setRole _ h))))

theorem gated_beaconSent (b : Beacon) (h : Gated s x) : Gated s (beaconSent b x) := by
  unfold beaconSent
  split
  · exact h
  · exact gated_ite (fun _ => gated_becomeReference _ _ h) fun _ => gated_ite (fun _ => gated_leaveDone h) fun _ => h

/-! #### The epoch boundary -/

theorem gated_handoverBoundary (cfg : ConfigRecord) (h : Gated s x) : Gated s (handoverBoundary cfg x) := by
  have counted : Gated s (mapMc (fun mc => { mc with leaveAttempts := mc.leaveAttempts + 1 }) x) := gated_mapMc h rfl
  unfold handoverBoundary
  exact gated_ite (fun _ => gated_leaveDone counted) fun _ =>
    gated_of_memberMoved (gated_mapMc counted rfl) (memberMoved_fillBeacon _ _ _ _)

theorem gated_leaveBoundary (h : Gated s x) : Gated s (leaveBoundary x) := by
  have counted : Gated s (mapMc (fun mc => { mc with leaveAttempts := mc.leaveAttempts + 1 }) x) := gated_mapMc h rfl
  unfold leaveBoundary
  exact gated_ite (fun _ => gated_leaveDone counted) fun _ => gated_ite (fun _ => counted) fun _ => gated_fillSlot _ counted

theorem gated_waitBoundary (h : Gated s x) : Gated s (waitBoundary x) := by
  have counted : Gated s (mapMc (fun mc =>
      { mc with admission := { mc.admission with boundaries := mc.admission.boundaries + 1 } }) x) := gated_mapMc h rfl
  unfold waitBoundary
  exact gated_ite (fun _ => gated_ite
    (fun _ => gated_countTry (fun y => gated_of_memberMoved (.refl y) (memberMoved_fillJoin y)) counted)
    fun _ => counted) fun _ => h

theorem gated_boundaryMc (cfg : ConfigRecord) (h : Gated s x) : Gated s (boundaryMc cfg x) := by
  have counted := gated_of_kept h (t := countSilence cfg.lossEpochs (mapMc (fun mc => { mc with statusFilled := false }) x))
    (by simp [gateKept]) (by simp)
  unfold boundaryMc
  refine gated_of_memberMoved ?_ (memberMoved_fillStatus _ _)
  split
  · exact gated_waitBoundary (gated_ite (fun _ => gated_of_memberMoved counted (memberMoved_fillJoin _)) fun _ => counted)
  · exact gated_of_memberMoved counted (memberMoved_memberBoundary _ _)
  · exact gated_ite (fun _ => gated_handoverBoundary _ counted) fun _ => gated_leaveBoundary counted
  · exact counted

theorem gated_takeBoundary (cfg : ConfigRecord) (h : Gated s x) : Gated s (takeBoundary cfg x) := by
  have moved : Gated s (mapTb (boundaryTb cfg) (boundaryCarrier x)) :=
    gated_mapTb (gated_of_kept h (by simp [gateKept]) (by simp)) rfl
  have handed := gated_boundaryTc (gated_boundaryPcu (gated_boundaryMc cfg moved))
  exact gated_of_kept handed (by simp [gateKept, takeBoundary]) (by simp [takeBoundary])

/-! #### Commands -/

theorem gated_takeLeave (h : Gated s x) : Gated s (takeLeave x) := by
  unfold takeLeave
  split
  · exact gated_post _ (gated_leaveLine _ _ (gated_fillSlot _ h))
  · exact gated_ite (fun _ => gated_setStation _ (gated_mapMc h rfl).toUngated) fun _ => gated_leaveAsFollower h
  · exact h

theorem gated_setRun (on : Bool) (h : Gated s x) : Gated s (setRun on x) :=
  gated_regate (ungated_of_output h.toUngated id rfl rfl rfl)

/-- An operation of PCU that touches neither RUN nor the output state nor the has-applied flag. -/
theorem gated_mapPcu {f : ChannelUnit → ChannelUnit} (h : Gated s x) (hr : (f x.pcu).run = x.pcu.run)
    (ho : (f x.pcu).output = x.pcu.output) (ha : (f x.pcu).hasApplied = x.pcu.hasApplied) : Gated s (mapPcu f x) :=
  gated_of_kept h ⟨rfl, rfl, rfl, hr, ho, ha⟩ rfl

theorem gated_answer (status : Status) (h : Gated s x) : Gated s (answer status x) :=
  gated_of_kept h (by simp [gateKept]) (by simp)

theorem gated_withoutPayload {act : State → State} (payload : List Byte) (hact : Gated s (act x)) (h : Gated s x) :
    Gated s (withoutPayload payload act x) := by
  unfold withoutPayload
  exact gated_ite (fun _ => hact) fun _ => gated_answer _ h

theorem gated_placeDuty (d : DutySettings) (apply : Option EpochNumber) (h : Gated s x) : Gated s (placeDuty d apply x) := by
  have timed (r : TimedDuty) : Gated s (placeTimed r x) := by
    unfold placeTimed
    exact gated_ite (fun _ => gated_answer _ (gated_mapPcu h rfl rfl rfl)) fun _ =>
      gated_ite (fun _ => gated_answer _ h) fun _ => gated_answer _ (gated_mapPcu h rfl rfl rfl)
  unfold placeDuty
  split
  · exact gated_answer _ (gated_mapPcu h rfl rfl rfl)
  · exact gated_ite (fun _ => timed _) fun _ => gated_ite (fun _ => gated_answer _ h) fun _ => gated_answer _ h

theorem gated_giveOutcome (f : TxFrame) (ack refuse : Bool) (h : Gated s x) : Gated s (giveOutcome f ack refuse x) := by
  cases f with
  | trip | status => exact h
  | beacon => exact gated_beaconSent _ h
  | join => exact gated_joinOutcome _ _ h
  | leave => exact gated_ite (fun _ => gated_mapMc h rfl) fun _ => h
  | mail => exact gated_of_kept h (by simp [gateKept, giveOutcome]) (by simp [giveOutcome])

theorem gated_countFailure (h : Gated s x) : Gated s (countFailure x) := by
  have counted : Gated s (mapLc (fun lc => { lc with failures := min 16 (lc.failures + 1) }) x) :=
    gated_of_kept h ⟨rfl, rfl, rfl, rfl, rfl, rfl⟩ rfl
  unfold countFailure
  exact gated_ite (fun _ => gated_isolate counted) fun _ => counted

/-- RESTART ends with PCU as after a hardware reset, so with RUN clear and the output state OFF (R91). -/
theorem gated_restartAll (h : Gated s x) : Gated s (restartAll x) := by
  have restarted : Gated s (restartPcu (leaveLine false .configured x)) :=
    (gated_leaveLine false .configured h).trans
      ⟨⟨rfl, id, fun _ ho => by cases ho⟩, fun _ => by simp [gateLaw, gateOpen, restartPcu, ChannelUnit.reset]⟩
  exact gated_of_kept restarted (by simp [gateKept, restartAll]) (by simp [restartAll])

/-- An accepted configuration leaves a station with no slot, so with a closed gate (R21, R87). -/
theorem gated_acceptConfig (cfg : ConfigRecord) (s : State) : Gated s (acceptConfig cfg s) :=
  gated_setStation _ ⟨rfl, id, id⟩

end Sys2Proof.Machine
end

section
namespace Sys2Proof.Machine

variable {s x t : State}

theorem gated_goes {u : State} (h : goes s u = .next t) (hu : Gated s u) : Gated s t := by
  obtain rfl | rfl := next_of_goes h
  · exact hu
  · exact .refl _

theorem gated_mapLc {f : LineController → LineController} (h : Gated s x) : Gated s (mapLc f x) :=
  gated_of_kept h ⟨rfl, rfl, rfl, rfl, rfl, rfl⟩ rfl

theorem gated_mapPins {f : InputPins → InputPins} (h : Gated s x) (hf : (f x.pins).resetn = x.pins.resetn) :
    Gated s (mapPins f x) := gated_of_kept h ⟨hf, rfl, rfl, rfl, rfl, rfl⟩ rfl

theorem gated_clearLine (h : Gated s x) : Gated s (clearLine x) := gated_of_kept h (by simp [gateKept]) (by simp)

theorem gated_missBeacon (cfg : ConfigRecord) (h : Gated s x) : Gated s (missBeacon cfg x) := by
  unfold missBeacon
  exact gated_ite (fun _ => gated_of_kept (gated_countMiss cfg h) (by simp [gateKept]) (by simp)) fun _ => gated_countMiss _ h

/-- TB, PCU and TC stand, and so do the station state and RESETN. -/
def apart (s t : State) : Prop :=
  t.pins.resetn = s.pins.resetn ∧ t.tb = s.tb ∧ t.mc.station = s.mc.station ∧ t.pcu = s.pcu ∧ t.tc = s.tc

theorem apart_refl (s : State) : apart s s := ⟨rfl, rfl, rfl, rfl, rfl⟩

theorem apart_withoutPayload {act : State → State} (payload : List Byte) (h : apart s (act s)) :
    apart s (withoutPayload payload act s) := by
  unfold withoutPayload
  split
  · exact h
  · exact ⟨rfl, rfl, rfl, rfl, rfl⟩

theorem gated_of_apart {u : State} (h : goes s u = .next t) (k : apart s u) : Gated s t := by
  obtain ⟨hr, htb, hmc, hpcu, htc⟩ := k
  exact gated_goes h (gated_of_kept (.refl s) ⟨hr, hmc, by rw [htb], by rw [hpcu], by rw [hpcu], by rw [hpcu]⟩ htc)

/-- Every command but HARDWARE_RESET keeps the trip law and the output law, whatever the state it is taken in. -/
theorem exec_gated (c : Instr) (h : exec c s = .next t) (hreset : ∀ sid fltn, c ≠ .hardwareReset sid fltn) : Gated s t := by
  have r := Gated.refl s
  cases c with
  | hardwareReset sid fltn => exact absurd rfl (hreset sid fltn)
  | loadConfig =>
    refine gated_goes h (gated_ite (fun _ => gated_answer _ r) fun _ => ?_)
    split
    · exact gated_answer _ r
    · exact gated_answer _ (gated_acceptConfig _ s)
  | start =>
    exact gated_goes h <| gated_ite
      (fun _ => gated_withoutPayload _ (gated_answer _ (gated_startListening r)) r) fun _ => gated_answer _ r
  | leave =>
    exact gated_goes h <| gated_ite
      (fun _ => gated_withoutPayload _ (gated_answer _ (gated_takeLeave r)) r) fun _ => gated_answer _ r
  | restart =>
    exact gated_goes h <| gated_ite (fun _ => gated_answer _ r) fun _ =>
      gated_withoutPayload _ (gated_answer _ (gated_restartAll r)) r
  | run | halt =>
    exact gated_goes h <| gated_ite (fun _ => gated_answer _ r) fun _ =>
      gated_withoutPayload _ (gated_answer _ (gated_setRun _ r)) r
  | setDuty =>
    refine gated_goes h ?_
    split
    · exact gated_answer _ r
    · refine gated_ite (fun _ => gated_answer _ r) fun _ => ?_
      split
      · exact gated_answer _ r
      · exact gated_placeDuty _ _ r
  | cancelTimed =>
    refine gated_goes h (gated_ite (fun _ => gated_answer _ r) fun _ => ?_)
    split
    · exact gated_ite (fun _ => gated_answer _ (gated_mapPcu r rfl rfl rfl)) fun _ => gated_answer _ r
    · exact gated_answer _ r
  | forceTrip => exact gated_goes h (gated_withoutPayload _ (gated_answer _ (gated_latchCause _ r)) r)
  | clearTrip =>
    exact gated_goes h <| gated_ite (fun _ => gated_withoutPayload _
      (gated_ite (fun _ => gated_answer _ r) fun _ => gated_answer _ (gated_clearCauses r)) r) fun _ => gated_answer _ r
  | takeMail | takeReceipt | readStatus | readEpoch | readTrip | readEvents =>
    exact gated_of_apart h (apart_withoutPayload _ (by simp [apart]))
  | readConfig =>
    refine gated_of_apart h (apart_withoutPayload _ ?_)
    split <;> exact ⟨rfl, rfl, rfl, rfl, rfl⟩
  | unknownCommand | frameError | commandLengthOverflow | windowClosedEarly | framerIdle | lineInactive =>
    exact gated_of_apart h ⟨rfl, rfl, rfl, rfl, rfl⟩
  | statusFill | joinReceived | leaveReceived | joinLeaveReplyComplete | mailForOtherDestination | mailRetry
  | mailCompletion => exact gated_of_apart h (by simp [apart])
  | postMail | readRoster | setEventMask | peerLostBySilence | leaveRefill | joinRefill | candidateFillPoint | beaconDeadline
  | electionStart | statusReceived | mailReceived | frameStartSeen | arbitrationLost | refusalBitSampled =>
    refine gated_of_apart h ?_
    (repeat' split) <;> simp [apart]
  | startOpportunity =>
    refine gated_of_apart h ?_
    (repeat' split) <;> exact ⟨rfl, rfl, rfl, rfl, rfl⟩
  | arbitrationPassed =>
    refine gated_of_apart h ?_
    split
    · exact apart_refl s
    · dsimp only
      split <;> split <;> exact ⟨rfl, rfl, rfl, rfl, rfl⟩
  | epochBoundary =>
    refine gated_goes h ?_
    split
    · exact r
    · refine gated_ite (fun _ => gated_mapTb r rfl) fun _ => gated_ite (fun _ => ?_) fun _ => gated_takeBoundary _ r
      exact gated_of_memberMoved (gated_found _ (gated_takeBoundary _ r)) (memberMoved_fillStatus _ _)
  | handoverTimeout | leaveTimeout => exact gated_goes h (gated_ite (fun _ => gated_leaveDone r) fun _ => r)
  | admissionWaitExpiry => exact gated_goes h (gated_ite (fun _ => gated_waitBoundary r) fun _ => r)
  | joinFailure => exact gated_goes h (gated_ite (fun _ => gated_joinFails r) fun _ => r)
  | listenTimerExpiry =>
    refine gated_goes h ?_
    split
    · exact r
    · exact gated_ite (fun _ => gated_found _ r) fun _ => r
  | outputCarrierStart =>
    refine gated_goes h ?_
    split
    · exact r
    · refine gated_ite (fun _ => gated_mapTb r rfl) fun _ => gated_startPcu ?_
      exact gated_of_kept r (by simp [gateKept]) (by simp)
  | peak =>
    refine gated_goes h ?_
    split
    · exact r
    · exact gated_ite (fun _ => gated_applyPending r) fun _ => r
  | pendingRecordApply => exact gated_goes h (gated_ite (fun _ => gated_applyPending r) fun _ => r)
  | timedRecordDue => exact gated_goes h (gated_takeDue _ r)
  | dueRecordApply => exact gated_goes h (gated_ite (fun _ => gated_applyDue r) fun _ => r)
  | outputActiveEntry => exact gated_goes h (gated_enterActive r)
  | missedBeacon =>
    refine gated_goes h ?_
    split
    · exact r
    · exact gated_ite (fun _ => gated_missBeacon _ r) fun _ => gated_mapTb r rfl
  | holdoverExpiry =>
    refine gated_goes h ?_
    split
    · exact r
    · exact gated_ite (fun _ => gated_missBeacon _ r) fun _ => r
  | beaconMarker =>
    refine gated_goes h ?_
    split
    · exact gated_dropSample r
    · exact gated_ite (fun _ => gated_mapLc (gated_dropSample r)) fun _ =>
        gated_ite (fun _ => gated_dropSample r) fun _ => gated_mapTb r rfl
  | beaconReceived =>
    exact gated_goes h (gated_mapLc (gated_deliverBeacon _ _ (gated_of_kept r (by simp [gateKept]) (by simp))))
  | tripFrameReceived src =>
    have heard : Gated s (sourceReport src s) := gated_of_kept r (by simp [gateKept]) (by simp)
    refine gated_goes h (gated_mapLc (gated_ite (fun _ => heard) fun ha => ?_))
    refine gated_of_trip heard ⟨rfl, rfl, rfl, rfl, rfl, rfl⟩ rfl fun ⟨hc, hlen, hn, _⟩ => ?_
    obtain ⟨hlen', hn'⟩ := appendOrigin_bounded src _ hlen hn
    exact ⟨hc, hlen', hn', fun harm => absurd (by simpa using harm) ha⟩
  | frameDiscarded why =>
    have dropped : Gated s (planReply false false (dropSample s)) := gated_mapLc (gated_dropSample r)
    cases why with
    | format => exact gated_goes h (gated_ite (fun _ => gated_mapLc dropped) fun _ => dropped)
    | badCrc | kindOrLength => exact gated_goes h (gated_mapLc dropped)
  | frameSuccess =>
    refine gated_goes h ?_
    split
    · exact r
    · have ended : Gated s (mapLc (fun lc => { lc with failures := 0 }) (clearLine s)) := gated_mapLc (gated_clearLine r)
      exact gated_ite (fun _ => ended) fun _ => gated_giveOutcome _ _ _ ended
  | transmitFailure =>
    refine gated_goes h ?_
    split
    · exact r
    · exact gated_ite (fun _ => gated_clearLine r) fun _ =>
        gated_countFailure (gated_of_kept r (by simp [gateKept]) (by simp))
  | isolation => exact gated_goes h (gated_ite (fun _ => gated_isolate (gated_mapLc r)) fun _ => r)
  | lineRaised => exact gated_goes h (gated_latchCause _ (gated_post _ (gated_mapLc r)))
  | fltnFall => exact (gated_mapPins r rfl).trans (gated_goes h (gated_latchCause _ (.refl _)))
  | fltnRise => cases h; exact gated_mapPins r rfl
  | tripnLow | tripnHigh => exact (gated_mapPins r rfl).trans (gated_goes h (gated_senseTripn (.refl _)))
  | rearm => exact gated_goes h (gated_ite (fun hr => gated_enterArmed r.toUngated hr) fun _ => r)
  | compareMatch ch | deadTimeExpiry ch =>
    refine gated_goes h ?_
    split
    · exact r
    · exact gated_ite (fun _ => by cases ch <;> exact gated_mapPcu r rfl rfl rfl) fun _ => r

end Sys2Proof.Machine
end

section
namespace Sys2Proof.Machine

variable {s x t : State}

/-! ### The trip law, the output law and the law of RESETN at every step (R87, R93, R95, R102) -/

/-- One count of a running station moves nothing that the two laws speak of. -/
theorem gated_runningTick (s : State) (hn : (nextPins s).resetn = s.pins.resetn) : Gated s (runningTick s) := by
  have hpins : (runningTick s).pins.resetn = s.pins.resetn := by
    rw [runningTick_eq]
    unfold timed
    rw [timePart_frame]
    exact hn
  refine gated_of_kept (.refl s) ?_ (runningTick_tc s)
  unfold gateKept
  rw [hpins, runningTick_mc, runningTick_tb, runningTick_pcu]
  cases hc : s.config with
  | none =>
    obtain ⟨htb, hmc, hpcu⟩ := timed_still s hc
    rw [htb, hmc, hpcu]
    exact ⟨rfl, rfl, rfl, rfl, rfl, rfl⟩
  | some cfg =>
    obtain ⟨htb, hmc⟩ := timed_running s cfg hc
    obtain ⟨-, -, hl, -⟩ := advance_frame cfg s.tb
    rw [htb, hmc, hl, timed_pcu cfg hc]
    exact ⟨rfl, by split <;> rfl, rfl, rfl, rfl, rfl⟩

/-- The laws of a station in reset (R95, R107, R123). -/
theorem laws_heldInReset (s : State) (pending : List Instr) :
    tripLaw { heldInReset s with pending := pending } ∧ outputLaw { heldInReset s with pending := pending } ∧
      heldLaw { heldInReset s with pending := pending } := by
  refine ⟨tripLaw_armed rfl, ⟨?_, ?_⟩, fun _ => rfl⟩
  · simp [heldInReset, State.reset, gateOpen, ChannelUnit.reset, Membership.reset, slotState]
  · simp [heldInReset, State.reset, ChannelUnit.reset]

theorem tick_laws (s : State) :
    (tripLaw s → tripLaw (tick s)) ∧ (outputLaw s → outputLaw (tick s)) ∧ heldLaw (tick s) := by
  unfold tick
  dsimp only
  split
  · obtain ⟨ht, ho, hh⟩ := laws_heldInReset s []
    exact ⟨fun _ => ht, fun _ => ho, hh⟩
  next hn =>
    split
    · obtain ⟨ht, ho, hh⟩ := laws_heldInReset s [.hardwareReset (nextPins s).straps (nextPins s).fltn]
      exact ⟨fun _ => ht, fun _ => ho, hh⟩
    next hr =>
      have hg := gated_runningTick s (by simp_all)
      refine ⟨hg.trip, hg.output, fun hlow => ?_⟩
      rw [hg.resetn] at hlow
      simp [hlow] at hr

theorem exec_laws (c : Instr) (h : exec c s = .next t) :
    (tripLaw s → tripLaw t) ∧ (outputLaw s → outputLaw t) ∧ (heldLaw s → heldLaw t) := by
  by_cases hreset : ∀ sid fltn, c ≠ .hardwareReset sid fltn
  · have hg := exec_gated c h hreset
    refine ⟨hg.trip, hg.output, fun hs hlow => ?_⟩
    rw [hg.resetn] at hlow
    obtain ⟨pins, ht, -⟩ := exec_low c hlow hreset
    obtain rfl : { s with pins := pins } = t := by simpa [ht] using h
    rw [hs hlow]
  · push Not at hreset
    obtain ⟨sid, fltn, rfl⟩ := hreset
    obtain ⟨-, -, htrip, hout, -, -, -, -, -, -, -, -, hheld, -⟩ := lawsHoldAtReset sid fltn s t (.inr h)
    exact ⟨fun _ => htrip, fun _ => hout, fun _ => hheld⟩

theorem step_laws (h : step s = .next t) :
    (tripLaw s → tripLaw t) ∧ (outputLaw s → outputLaw t) ∧ (heldLaw s → heldLaw t) := by
  unfold step at h
  split at h
  · cases h
    obtain ⟨ht, ho, hh⟩ := tick_laws s
    exact ⟨ht, ho, fun _ => hh⟩
  next c rest _ =>
    obtain ⟨ht, ho, hh⟩ := exec_laws (s := { s with pending := rest }) c h
    exact ⟨ht, ho, fun hs => hh fun hlow => by rw [hs hlow]⟩

/-- Settles O55: the laws by `exec_gated` and `gated_runningTick`, and with RESETN low the blocks stand at reset values. -/
theorem tripAndOutputLawsKept : Obligations.TripAndOutputLawsKept := by
  intro s t h
  obtain ⟨htrip, hout, hheld⟩ := step_laws h
  refine ⟨htrip, hout, fun hlaw hact => ?_, hheld, fun hlaw hlow => ?_⟩
  · have hopen : gateOpen t = true := by
      by_contra hc
      obtain ⟨⟨-, hclosed⟩, -⟩ := hlaw
      have hoff := hclosed (by simpa using hc)
      simp [hact] at hoff
    exact (gateOpen_eq t).1 hopen
  · rw [hlaw hlow]
    exact ⟨rfl, rfl, rfl, rfl⟩

end Sys2Proof.Machine
end

section
namespace Sys2Proof.Machine

variable {s x t : State}

/-! ### The timed duty list over the shared operations (R76, R78, R80, R81) -/

/-- A list of at most 4 records, 1 to 255 epochs ahead of an epoch number, in strictly ascending distance (R76). -/
def inOrder (now : EpochNumber) (list : List TimedDuty) : Prop :=
  list.length ≤ 4 ∧ list.Pairwise (fun a b => epochsAhead a.epoch now < epochsAhead b.epoch now) ∧
    ∀ r ∈ list, 1 ≤ epochsAhead r.epoch now ∧ epochsAhead r.epoch now ≤ 255

theorem dutyListLaw_iff (s : State) :
    dutyListLaw s ↔ inOrder s.tb.epoch s.pcu.timed ∧ (s.mc.station = .unconfigured → s.pcu.timed = []) := by
  simp only [dutyListLaw, inOrder, and_assoc]

theorem inOrder_nil (now : EpochNumber) : inOrder now [] := by simp [inOrder]

theorem inOrder_sublist {now : EpochNumber} {a b : List TimedDuty} (h : inOrder now a) (hb : b.Sublist a) : inOrder now b := by
  obtain ⟨hlen, hasc, hdist⟩ := h
  exact ⟨hb.length_le.trans hlen, hasc.sublist hb, fun r hr => hdist r (hb.subset hr)⟩

/-! #### Distances after a change of the epoch number -/

theorem epochsAhead_lt (a b : EpochNumber) : epochsAhead a b < 65536 := (a - b).isLt

/-- The distance from a new epoch number is that from the old one, less the change. -/
theorem epochsAhead_change (e old new : EpochNumber) :
    epochsAhead e new = (epochsAhead e old + (65536 - epochsAhead new old)) % 65536 := by
  simp only [epochsAhead, BitVec.toNat_sub]
  omega

theorem epochsAhead_after_forward {e old new : EpochNumber} (h : epochsAhead new old ≤ epochsAhead e old) :
    epochsAhead e new = epochsAhead e old - epochsAhead new old := by
  have := epochsAhead_lt e old
  rw [epochsAhead_change e old new]
  omega

theorem epochsAhead_after_backward {e old new : EpochNumber} (he : epochsAhead e old ≤ 255)
    (h : 32768 ≤ epochsAhead new old) : epochsAhead e new = epochsAhead e old + (65536 - epochsAhead new old) := by
  rw [epochsAhead_change e old new]
  omega

/-- A forward change keeps the records beyond it, and brings each nearer by as much (R80). -/
theorem inOrder_forward {old new : EpochNumber} {list : List TimedDuty} (h : inOrder old list) :
    inOrder new (list.filter fun r => epochsAhead new old < epochsAhead r.epoch old) := by
  obtain ⟨hlen, hasc, hdist⟩ := h
  have near {r : TimedDuty} (hr : r ∈ list.filter fun r => epochsAhead new old < epochsAhead r.epoch old) :
      r ∈ list ∧ epochsAhead new old < epochsAhead r.epoch old := by simpa using hr
  refine ⟨(List.length_filter_le _ _).trans hlen, (hasc.filter _).imp_of_mem fun {a b} ha hb hab => ?_, fun r hr => ?_⟩
  · rw [epochsAhead_after_forward (near ha).2.le, epochsAhead_after_forward (near hb).2.le]
    have := (near ha).2
    omega
  · obtain ⟨hmem, hlt⟩ := near hr
    obtain ⟨_, hle⟩ := hdist r hmem
    rw [epochsAhead_after_forward hlt.le]
    omega

/-- A backward change takes every record further away, and keeps those still in the window (R81). -/
theorem inOrder_backward {old new : EpochNumber} {list : List TimedDuty} (h : inOrder old list)
    (hback : 32768 ≤ epochsAhead new old) : inOrder new (keptAfter new list) := by
  obtain ⟨hlen, hasc, hdist⟩ := h
  refine ⟨(List.length_filter_le _ _).trans hlen, ?_, fun r hr => by simpa using (List.mem_filter.1 hr).2⟩
  refine (hasc.imp_of_mem fun {a b} ha hb hab => ?_).filter _
  rw [epochsAhead_after_backward (hdist a ha).2 hback, epochsAhead_after_backward (hdist b hb).2 hback]
  omega

theorem epochsAhead_succ (now : EpochNumber) : epochsAhead (now + 1) now = 1 := by
  simp [epochsAhead, BitVec.add_comm now]

theorem epochsAhead_eq_one (e now : EpochNumber) : epochsAhead e now = 1 ↔ e = now + 1 := by
  refine ⟨fun h => ?_, fun h => h ▸ epochsAhead_succ now⟩
  simp only [epochsAhead] at h
  bv_omega

/-- At a boundary each record comes one nearer; those for the epoch it begins have left the list (R78). -/
theorem inOrder_boundary {now : EpochNumber} {list left : List TimedDuty} (h : inOrder now list) (hleft : left.Sublist list)
    (hlater : ∀ r ∈ left, 1 < epochsAhead r.epoch now) : inOrder (now + 1) left := by
  refine inOrder_sublist (inOrder_forward h) ?_
  have hall : left.filter (fun r => epochsAhead (now + 1) now < epochsAhead r.epoch now) = left :=
    List.filter_eq_self.2 fun r hr => decide_eq_true (by rw [epochsAhead_succ]; exact hlater r hr)
  exact hall ▸ hleft.filter _

/-! #### What an operation does to the list -/

/-- The epoch number and the timed duty list stand, or the list is emptied (R90, R91). -/
def dutyStands (s t : State) : Prop := (t.tb.epoch = s.tb.epoch ∧ t.pcu.timed = s.pcu.timed) ∨ t.pcu.timed = []

theorem dutyStands_refl (s : State) : dutyStands s s := .inl ⟨rfl, rfl⟩

theorem dutyStands_of_kept (h : dutyStands s x) (he : t.tb.epoch = x.tb.epoch) (ht : t.pcu.timed = x.pcu.timed) :
    dutyStands s t := by
  obtain ⟨ke, kt⟩ | kt := h
  · exact .inl ⟨he.trans ke, ht.trans kt⟩
  · exact .inr (ht.trans kt)

theorem dutyStands_ite {c : Prop} [Decidable c] {a b : State} (ha : dutyStands s a) (hb : dutyStands s b) :
    dutyStands s (if c then a else b) := by
  split
  · exact ha
  · exact hb

/-- What every operation but an epoch boundary's part of TB keeps of the list. -/
structure DutyKept (s t : State) : Prop where
  order : inOrder s.tb.epoch s.pcu.timed → inOrder t.tb.epoch t.pcu.timed
  empty : s.pcu.timed = [] → t.pcu.timed = []

theorem DutyKept.refl (s : State) : DutyKept s s := ⟨id, id⟩

theorem DutyKept.trans (h : DutyKept s x) (k : DutyKept x t) : DutyKept s t := ⟨k.order ∘ h.order, k.empty ∘ h.empty⟩

theorem dutyKept_of_stands (h : DutyKept s x) (k : dutyStands x t) : DutyKept s t := by
  obtain ⟨he, ht⟩ | ht := k
  · exact h.trans ⟨by rw [he, ht]; exact id, by rw [ht]; exact id⟩
  · exact ⟨fun _ => ht ▸ inOrder_nil _, fun _ => ht⟩

/-- An operation that leaves the epoch number, and takes records from the list. -/
theorem dutyKept_of_sublist (he : t.tb.epoch = x.tb.epoch) (ht : t.pcu.timed.Sublist x.pcu.timed) : DutyKept x t :=
  ⟨fun h => he ▸ inOrder_sublist h ht, fun h => List.sublist_nil.1 (h ▸ ht)⟩

theorem dutyKept_ite {c : Prop} [Decidable c] {a b : State} (ha : c → DutyKept s a) (hb : ¬c → DutyKept s b) :
    DutyKept s (if c then a else b) := by
  split
  · exact ha ‹_›
  · exact hb ‹_›

/-! #### Leaving the line, and the boundary at MC -/

theorem leaveLine_timed (keep : Bool) (to_ : StationState) (x : State) : (leaveLine keep to_ x).pcu.timed = [] := by
  simp [leaveLine, leavePcu]

theorem dutyStands_joinFails (s x : State) : dutyStands s (joinFails x) := .inr (by simp [joinFails, leaveLine_timed])

theorem dutyStands_leaveDone (s x : State) : dutyStands s (leaveDone x) := .inr (by simp [leaveDone, leaveLine_timed])

theorem dutyStands_of_memberMoved (h : dutyStands s x) (k : MemberMoved x t) : dutyStands s t :=
  dutyStands_of_kept h (by rw [k.tb]) (by rw [k.pcu])

theorem dutyStands_mapMc {f : Membership → Membership} (h : dutyStands s x) : dutyStands s (mapMc f x) :=
  dutyStands_of_kept h rfl rfl

theorem dutyStands_countTry {goOn : State → State} (hg : ∀ y, dutyStands s y → dutyStands s (goOn y)) (h : dutyStands s x) :
    dutyStands s (countTry goOn x) := by
  unfold countTry
  exact dutyStands_ite (dutyStands_joinFails s _) (hg _ (dutyStands_mapMc h))

theorem dutyStands_waitBoundary (h : dutyStands s x) : dutyStands s (waitBoundary x) := by
  unfold waitBoundary
  exact dutyStands_ite (dutyStands_ite
    (dutyStands_countTry (fun y hy => dutyStands_of_memberMoved hy (memberMoved_fillJoin y)) (dutyStands_mapMc h))
    (dutyStands_mapMc h)) h

theorem dutyStands_handoverBoundary (cfg : ConfigRecord) (h : dutyStands s x) : dutyStands s (handoverBoundary cfg x) := by
  unfold handoverBoundary
  exact dutyStands_ite (dutyStands_leaveDone s _)
    (dutyStands_of_memberMoved (dutyStands_mapMc (dutyStands_mapMc h)) (memberMoved_fillBeacon _ _ _ _))

theorem dutyStands_leaveBoundary (h : dutyStands s x) : dutyStands s (leaveBoundary x) := by
  unfold leaveBoundary
  exact dutyStands_ite (dutyStands_leaveDone s _) (dutyStands_ite (dutyStands_mapMc h)
    (dutyStands_of_memberMoved (dutyStands_mapMc h) (memberMoved_fillSlot _ _)))

/-- MC's part of a boundary leaves the list, or leaves the line with it (R25, R32, R59, R90). -/
theorem dutyStands_boundaryMc (cfg : ConfigRecord) (h : dutyStands s x) : dutyStands s (boundaryMc cfg x) := by
  have counted : dutyStands s (countSilence cfg.lossEpochs (mapMc (fun mc => { mc with statusFilled := false }) x)) :=
    dutyStands_of_kept h (by simp) (by simp)
  unfold boundaryMc
  refine dutyStands_of_memberMoved ?_ (memberMoved_fillStatus _ _)
  split
  · exact dutyStands_waitBoundary
      (dutyStands_ite (dutyStands_of_memberMoved counted (memberMoved_fillJoin _)) counted)
  · exact dutyStands_of_memberMoved counted (memberMoved_memberBoundary _ _)
  · exact dutyStands_ite (dutyStands_handoverBoundary _ counted) (dutyStands_leaveBoundary counted)
  · exact counted

/-! #### The boundary at PCU (R78) -/

theorem dueAfterStart_timed (x : State) : (dueAfterStart x).pcu.timed = x.pcu.timed := by
  unfold dueAfterStart
  (repeat' split) <;> simp

theorem takeDue_sublist (n : EpochNumber) (x : State) : (takeDue n x).pcu.timed.Sublist x.pcu.timed := by
  unfold takeDue
  split
  · exact .refl _
  next r rest hl =>
    split
    · simp [hl]
    · exact .refl _

/-- PCU's part of a boundary takes the first record if it is for the epoch begun, and so leaves those beyond it. -/
theorem boundaryPcu_inOrder {now : EpochNumber} (hnow : x.tb.epoch = now + 1) (h : inOrder now x.pcu.timed) :
    inOrder (now + 1) (boundaryPcu x).pcu.timed := by
  unfold boundaryPcu
  cases hl : x.pcu.timed with
  | nil => simpa [hl] using inOrder_nil _
  | cons r rest =>
    obtain ⟨-, hasc, hdist⟩ := id h
    rw [hl] at hasc hdist
    obtain ⟨hfirst, -⟩ := List.pairwise_cons.1 hasc
    have hr := (hdist r (by simp)).1
    by_cases hdue : r.epoch = x.tb.epoch
    · have htaken : (takeDue x.tb.epoch x).pcu.timed = rest := by simp [takeDue, hl, hdue]
      simp only [hdue, if_true, dueAfterStart_timed, htaken]
      exact inOrder_boundary (hl ▸ h) (List.sublist_cons_self r rest) fun q hq => hr.trans_lt (hfirst q hq)
    · have hfar : 1 < epochsAhead r.epoch now := by
        have := mt (epochsAhead_eq_one r.epoch now).1 (hnow ▸ hdue)
        omega
      simp only [hdue, if_false, hl]
      refine inOrder_boundary (hl ▸ h) (.refl _) fun q hq => ?_
      obtain rfl | hq := List.mem_cons.1 hq
      · exact hfar
      · exact hfar.trans (hfirst q hq)

theorem dutyKept_takeBoundary (cfg : ConfigRecord) (x : State) : DutyKept x (takeBoundary cfg x) := by
  have stands : dutyStands (mapTb (boundaryTb cfg) (boundaryCarrier x))
      (boundaryMc cfg (mapTb (boundaryTb cfg) (boundaryCarrier x))) := dutyStands_boundaryMc cfg (dutyStands_refl _)
  have hepoch : (mapTb (boundaryTb cfg) (boundaryCarrier x)).tb.epoch = x.tb.epoch + 1 := by simp [boundaryTb]
  have htimed : (mapTb (boundaryTb cfg) (boundaryCarrier x)).pcu.timed = x.pcu.timed := by simp
  have hafter (y : State) : (retryHead (boundaryTc y)).pcu.timed = y.pcu.timed ∧
      (retryHead (boundaryTc y)).tb.epoch = y.tb.epoch := by simp
  unfold takeBoundary
  generalize mapTb (boundaryTb cfg) (boundaryCarrier x) = begun at *
  generalize boundaryMc cfg begun = y at *
  obtain ⟨hty, hey⟩ := hafter (boundaryPcu y)
  have hpe : (boundaryPcu y).tb.epoch = y.tb.epoch := by simp
  have hnil (hn : y.pcu.timed = []) : (boundaryPcu y).pcu.timed = [] := by simp [boundaryPcu, hn]
  obtain ⟨he, ht⟩ | hn := stands
  · refine ⟨fun h => ?_, fun h => ?_⟩
    · rw [hty, hey, hpe, he, hepoch]
      exact boundaryPcu_inOrder (he.trans hepoch) (by rwa [ht, htimed])
    · rw [hty, hnil (by rw [ht, htimed, h])]
  · have hempty := hty.trans (hnil hn)
    exact ⟨fun _ => hempty ▸ inOrder_nil _, fun _ => hempty⟩

end Sys2Proof.Machine
end

section
namespace Sys2Proof.Machine

variable {s x t : State}

/-! #### Changes of the epoch number (R11, R80, R81) -/

theorem forwardChange_iff (old new : EpochNumber) :
    forwardChange old new = true ↔ 1 ≤ epochsAhead new old ∧ epochsAhead new old ≤ 32767 := by simp [forwardChange]

theorem dutyKept_setEpoch (n : EpochNumber) (h : DutyKept s x) : DutyKept s (setEpoch n x) := by
  refine h.trans ?_
  have hset : setEpoch n x = mapTb (fun tb => { tb with epoch := n }) (epochChanged x.tb.epoch n x) :=
    epochChanged_mapTb _ _ _ x
  rw [hset]
  refine ⟨fun hx => ?_, fun hx => ?_⟩
  · show inOrder n (epochChanged x.tb.epoch n x).pcu.timed
    unfold epochChanged
    split
    next hsame => exact hsame ▸ hx
    next hne =>
      split
      · have ⟨_, _, hdist⟩ := hx
        rw [epochForward_timed _ _ _ fun r hr => (hdist r hr).1]
        exact inOrder_forward hx
      next hback =>
        rw [epochBackward_eq]
        refine inOrder_backward hx ?_
        have hzero : epochsAhead n x.tb.epoch ≠ 0 := by
          simp only [epochsAhead]
          bv_omega
        rw [forwardChange_iff] at hback
        omega
  · show (epochChanged x.tb.epoch n x).pcu.timed = []
    unfold epochChanged
    split
    · exact hx
    · split
      · rw [epochForward_timed _ _ _ (by simp [hx]), hx]; rfl
      · rw [epochBackward_eq]; simp [keptAfter, hx]

theorem dutyKept_of_kept (h : DutyKept s x) (he : t.tb.epoch = x.tb.epoch) (ht : t.pcu.timed = x.pcu.timed) : DutyKept s t :=
  dutyKept_of_stands h (.inl ⟨he, ht⟩)

theorem dutyKept_setLock (lock : LockState) (h : DutyKept s x) : DutyKept s (setLock lock x) :=
  dutyKept_of_kept h (by simp) (by simp)

/-- An operation of TB that does not change the epoch number. -/
theorem dutyKept_mapTb {f : TimeBase → TimeBase} (h : DutyKept s x) (he : (f x.tb).epoch = x.tb.epoch) :
    DutyKept s (mapTb f x) := dutyKept_of_kept h he rfl

theorem dutyKept_jump (e : Int) (n : EpochNumber) (h : DutyKept s x) : DutyKept s (jump e n x) := by
  unfold jump
  split
  · exact h
  · exact dutyKept_setEpoch _ (dutyKept_of_kept h (by simp) (by simp))

theorem dutyKept_actOnError (cfg : ConfigRecord) (e : Int) (n : EpochNumber) (h : DutyKept s x) :
    DutyKept s (actOnError cfg e n x) := by
  have held : DutyKept s (if 4 * cfg.window < e.natAbs then jump e n (setLock .acquire x)
      else setLock .locked (setEpoch n (mapTb (fun tb => { tb with residual := e }) x))) :=
    dutyKept_ite (fun _ => dutyKept_jump e n (dutyKept_setLock _ h)) fun _ =>
      dutyKept_setLock _ (dutyKept_setEpoch n (dutyKept_mapTb h rfl))
  have counted : DutyKept s (setEpoch n (mapTb (fun tb => { tb with residual := e, inWindow := tb.inWindow + 1 }) x)) :=
    dutyKept_setEpoch n (dutyKept_mapTb h rfl)
  unfold actOnError
  split
  next => exact dutyKept_setLock _ (dutyKept_jump e n h)
  next => exact dutyKept_ite (fun _ => dutyKept_jump e n h) fun _ =>
      dutyKept_ite (fun _ => dutyKept_setLock _ counted) fun _ => counted
  next => exact held
  next => exact held

theorem dutyKept_measureBeacon (b : Beacon) (h : DutyKept s x) : DutyKept s (measureBeacon b x) := by
  have handed : DutyKept s (handOver x) := dutyKept_mapTb h rfl
  unfold measureBeacon
  split
  · exact h
  · split
    · exact handed
    · exact dutyKept_actOnError _ _ _ (dutyKept_mapTb handed rfl)

/-! #### Beacons and founding -/

theorem dutyKept_setRole (r : Role) (h : DutyKept s x) : DutyKept s (setRole r x) := dutyKept_of_kept h rfl rfl

theorem dutyKept_setRecord (r : Option EpochRecord) (h : DutyKept s x) : DutyKept s (setRecord r x) :=
  dutyKept_of_kept h rfl rfl

theorem dutyKept_removeBeacon (h : DutyKept s x) : DutyKept s (removeBeacon x) := dutyKept_of_kept h rfl rfl

theorem dutyKept_adoptMask (mask : MemberMask) (from_ : Option StationId) (h : DutyKept s x) :
    DutyKept s (adoptMask mask from_ x) := dutyKept_of_kept h (by simp) (by simp)

theorem dutyKept_giveTarget (place : Bool) (h : DutyKept s x) : DutyKept s (giveTarget place x) :=
  dutyKept_of_kept h (by simp) (by simp)

theorem dutyKept_lockAsReference (h : DutyKept s x) : DutyKept s (lockAsReference x) :=
  dutyKept_of_kept h (by simp) (by simp)

theorem dutyKept_dropSample (h : DutyKept s x) : DutyKept s (dropSample x) := dutyKept_mapTb h rfl

theorem dutyKept_endElection (h : DutyKept s x) : DutyKept s (endElection x) := dutyKept_of_kept h (by simp) (by simp)

theorem dutyKept_postIf (c : Bool) (e : Event) (h : DutyKept s x) : DutyKept s (postIf c e x) :=
  dutyKept_of_kept h (by simp) (by simp)

theorem dutyKept_found (cfg : ConfigRecord) (h : DutyKept s x) : DutyKept s (found cfg x) := by
  have member : DutyKept s (setStation .member (mapMc (fun mc => { mc with listenTimer := none }) x)) :=
    dutyKept_of_kept h (by simp) (by simp)
  have locked : DutyKept s (foundLocked cfg x) := dutyKept_lockAsReference (dutyKept_setEpoch 0
    (dutyKept_adoptMask _ _ (dutyKept_setRecord _ (dutyKept_setRole _ member))))
  rw [found_eq]
  exact dutyKept_of_kept locked (by simp) (by simp)

theorem dutyStands_acceptState (before : StationState) (admitted yielded : Bool) (b : Beacon) (x : State) :
    dutyStands x (acceptState before admitted yielded b x) := by
  have r := dutyStands_refl x
  unfold acceptState
  split
  · exact dutyStands_of_kept r (by simp) (by simp)
  · exact dutyStands_ite (dutyStands_of_kept r (by simp) (by simp)) r
  · exact dutyStands_ite r (dutyStands_of_kept r (by simp) (by simp))
  · exact dutyStands_ite (dutyStands_ite (dutyStands_of_kept r (by simp) (by simp)) r) (dutyStands_leaveDone x x)
  · exact r

theorem dutyKept_acceptBeacon (cfg : ConfigRecord) (src : StationId) (b : Beacon) (h : DutyKept s x) :
    DutyKept s (acceptBeacon cfg src b x) := by
  have yielded : DutyKept s (if x.mc.role = .reference then setRole .follower (removeBeacon x) else x) :=
    dutyKept_ite (fun _ => dutyKept_setRole _ (dutyKept_removeBeacon h)) fun _ => h
  have recorded := dutyKept_setRecord (acceptedRecord cfg src b x) yielded
  have taken := dutyKept_ite (c := takesRole b x = true) (fun _ => dutyKept_setRole .reference recorded) fun _ =>
    dutyKept_ite (c := admits b x = true) (fun _ => dutyKept_setRole .follower recorded) fun _ => recorded
  have targeted := dutyKept_giveTarget (admits b x) (dutyKept_adoptMask b.mask (if b.handover then some src else none) taken)
  have timed := dutyKept_ite (c := takesRole b x = true) (fun _ => dutyKept_dropSample (dutyKept_lockAsReference targeted))
    fun _ => dutyKept_measureBeacon b targeted
  unfold acceptBeacon
  dsimp only
  exact dutyKept_postIf _ _ (dutyKept_postIf _ _
    (dutyKept_of_stands (dutyKept_endElection timed) (dutyStands_acceptState _ _ _ _ _)))

theorem dutyStands_enterMismatch (s x : State) : dutyStands s (enterMismatch x) :=
  .inr (by simp [enterMismatch, leaveLine_timed])

theorem dutyKept_deliverBeacon (src : StationId) (b : Beacon) (h : DutyKept s x) : DutyKept s (deliverBeacon src b x) := by
  have dropped := dutyKept_dropSample h
  unfold deliverBeacon
  split
  · exact dropped
  · exact dutyKept_ite (fun _ => dutyKept_ite (fun _ => dutyKept_acceptBeacon _ _ _ h) fun _ =>
      dutyKept_of_stands dropped (dutyStands_enterMismatch _ _)) fun _ =>
        dutyKept_ite (fun _ => dutyKept_acceptBeacon _ _ _ h) fun _ => dutyKept_postIf _ _ dropped

/-! #### The ends of own frames -/

theorem dutyStands_isolate (h : dutyStands s x) : dutyStands s (isolate x) := by
  have left : (post .isolated (leaveLine false .isolated (emptyAllSlots (transmitterOff x)))).pcu.timed = [] := by
    simp [leaveLine_timed]
  unfold isolate
  dsimp only
  split
  · exact .inr left
  · exact .inr left
  · exact .inr left
  · exact .inr left
  all_goals exact dutyStands_of_kept h (by simp) (by simp)

theorem dutyStands_countFailure (h : dutyStands s x) : dutyStands s (countFailure x) := by
  have counted : dutyStands s (mapLc (fun lc => { lc with failures := min 16 (lc.failures + 1) }) x) :=
    dutyStands_of_kept h rfl rfl
  unfold countFailure
  exact dutyStands_ite (dutyStands_isolate counted) counted

theorem dutyStands_joinOutcome (ack refuse : Bool) (h : dutyStands s x) : dutyStands s (joinOutcome ack refuse x) := by
  unfold joinOutcome
  exact dutyStands_ite (dutyStands_ite (.inr (by simp [leaveLine_timed])) (dutyStands_ite (dutyStands_mapMc h)
    (dutyStands_countTry (fun y hy => dutyStands_mapMc hy) h))) h

theorem dutyStands_giveOutcome (f : TxFrame) (ack refuse : Bool) (h : dutyStands s x) :
    dutyStands s (giveOutcome f ack refuse x) := by
  cases f with
  | trip | status => exact h
  | beacon b =>
    show dutyStands s (beaconSent b x)
    unfold beaconSent
    split
    · exact h
    · exact dutyStands_ite (dutyStands_of_kept h (by simp) (by simp [becomeReference])) (dutyStands_ite (dutyStands_leaveDone s x) h)
  | join => exact dutyStands_joinOutcome _ _ h
  | leave => exact dutyStands_ite (dutyStands_mapMc h) h
  | mail => exact dutyStands_of_kept h (by simp) (by simp [giveOutcome])

theorem dutyStands_takeLeave (h : dutyStands s x) : dutyStands s (takeLeave x) := by
  unfold takeLeave
  split
  · exact .inr (by simp [leaveLine_timed])
  · exact dutyStands_ite (dutyStands_of_kept h (by simp) (by simp)) (dutyStands_of_kept h (by simp) (by simp))
  · exact h

end Sys2Proof.Machine
end

section
namespace Sys2Proof.Machine

variable {s x t : State}

/-! ### SET_DUTY and CANCEL_TIMED (R73, R74, R76, R77) -/

theorem epochsAhead_inj {a b now : EpochNumber} (h : epochsAhead a now = epochsAhead b now) : a = b := by
  simp only [epochsAhead] at h
  bv_omega

/-- A record for an epoch of its own is inserted between the nearer and the further ones (R76). -/
theorem insertTimed_between (now : EpochNumber) (r : TimedDuty) (list : List TimedDuty)
    (hasc : list.Pairwise fun a b => epochsAhead a.epoch now < epochsAhead b.epoch now) (hnew : ∀ q ∈ list, q.epoch ≠ r.epoch) :
    ∃ before after, list = before ++ after ∧ insertTimed now r list = before ++ r :: after ∧
      (∀ q ∈ before, epochsAhead q.epoch now < epochsAhead r.epoch now) ∧
      ∀ q ∈ after, epochsAhead r.epoch now < epochsAhead q.epoch now := by
  induction list with
  | nil => exact ⟨[], [], rfl, rfl, by simp, by simp⟩
  | cons h rest ih =>
    obtain ⟨hfirst, hrest⟩ := List.pairwise_cons.1 hasc
    by_cases hlt : epochsAhead r.epoch now < epochsAhead h.epoch now
    · refine ⟨[], h :: rest, rfl, by simp [insertTimed, hlt], by simp, fun q hq => ?_⟩
      obtain rfl | hq := List.mem_cons.1 hq
      · exact hlt
      · exact hlt.trans (hfirst q hq)
    · have hgt : epochsAhead h.epoch now < epochsAhead r.epoch now :=
        lt_of_le_of_ne (not_lt.1 hlt) fun he => hnew h (by simp) (epochsAhead_inj he)
      obtain ⟨before, after, hsplit, hins, hbefore, hafter⟩ := ih hrest fun q hq => hnew q (by simp [hq])
      refine ⟨h :: before, after, by simp [hsplit], by simp [insertTimed, hlt, hins], fun q hq => ?_, hafter⟩
      obtain rfl | hq := List.mem_cons.1 hq
      · exact hgt
      · exact hbefore q hq

theorem inOrder_insertTimed {now : EpochNumber} {r : TimedDuty} {list : List TimedDuty} (h : inOrder now list)
    (hr : 1 ≤ epochsAhead r.epoch now ∧ epochsAhead r.epoch now ≤ 255) (hnew : ∀ q ∈ list, q.epoch ≠ r.epoch)
    (hroom : list.length < 4) : inOrder now (insertTimed now r list) := by
  obtain ⟨-, hasc, hdist⟩ := h
  obtain ⟨before, after, rfl, hins, hbefore, hafter⟩ := insertTimed_between now r list hasc hnew
  obtain ⟨hb, ha, hcross⟩ := List.pairwise_append.1 hasc
  rw [hins]
  refine ⟨by simp at hroom ⊢; omega, ?_, fun q hq => ?_⟩
  · refine List.pairwise_append.2 ⟨hb, List.pairwise_cons.2 ⟨hafter, ha⟩, fun q hq p hp => ?_⟩
    obtain rfl | hp := List.mem_cons.1 hp
    · exact hbefore q hq
    · exact hcross q hq p hp
  · obtain hq | rfl | hq : q ∈ before ∨ q = r ∨ q ∈ after := by simpa using hq
    · exact hdist q (by simp [hq])
    · exact hr
    · exact hdist q (by simp [hq])

theorem epoch_replaced (r q : TimedDuty) : (if q.epoch = r.epoch then r else q).epoch = q.epoch := by
  split
  · exact Eq.symm ‹_›
  · rfl

/-- A record replaced in its place keeps its epoch, and so every distance (R76). -/
theorem inOrder_replaceTimed {now : EpochNumber} {list : List TimedDuty} (r : TimedDuty) (h : inOrder now list) :
    inOrder now (replaceTimed r list) := by
  obtain ⟨hlen, hasc, hdist⟩ := h
  refine ⟨by simpa [replaceTimed] using hlen, ?_, fun q hq => ?_⟩
  · simpa only [replaceTimed, List.pairwise_map, epoch_replaced] using hasc
  · obtain ⟨p, hp, rfl⟩ := List.mem_map.1 hq
    simpa only [epoch_replaced] using hdist p hp

theorem inOrder_placeTimed (r : TimedDuty) (x : State)
    (hr : 1 ≤ epochsAhead r.epoch x.tb.epoch ∧ epochsAhead r.epoch x.tb.epoch ≤ 255) (h : inOrder x.tb.epoch x.pcu.timed) : inOrder x.tb.epoch (placeTimed r x).pcu.timed := by
  unfold placeTimed
  split
  · exact inOrder_replaceTimed r h
  next hnew =>
    split
    · exact h
    next hroom => exact inOrder_insertTimed h hr (by simpa using hnew) (by omega)

theorem inOrder_placeDuty (d : DutySettings) (apply : Option EpochNumber) (x : State) (h : inOrder x.tb.epoch x.pcu.timed) :
    inOrder (placeDuty d apply x).tb.epoch (placeDuty d apply x).pcu.timed := by
  have htb : (placeDuty d apply x).tb = x.tb := by simp
  rw [htb]
  unfold placeDuty
  split
  · exact h
  next epoch =>
    dsimp only
    split
    next hwindow => exact inOrder_placeTimed _ x (by simpa using hwindow) h
    · split <;> exact h

end Sys2Proof.Machine
end

section
namespace Sys2Proof.Machine

variable {s x t : State}

/-! ### The timed duty list at every step (R76, R78, R80, R81) -/

theorem dutyKept_goes {u : State} (h : goes s u = .next t) (hu : DutyKept s u) : DutyKept s t := by
  obtain rfl | rfl := next_of_goes h
  · exact hu
  · exact .refl _

theorem dutyKept_of_goes {u : State} (h : goes s u = .next t) (hu : dutyStands s u) : DutyKept s t :=
  dutyKept_goes h (dutyKept_of_stands (.refl s) hu)

theorem dutyStands_withoutPayload {act : State → State} (payload : List Byte) (h : dutyStands s (act s)) :
    dutyStands s (withoutPayload payload act s) := by
  unfold withoutPayload
  exact dutyStands_ite h (dutyStands_refl s)

/-- Every command but HARDWARE_RESET, LOAD_CONFIG and SET_DUTY keeps the list in order, and an empty list empty. -/
theorem exec_dutyKept (c : Instr) (h : exec c s = .next t) (hreset : ∀ sid fltn, c ≠ .hardwareReset sid fltn)
    (hload : ∀ payload, c ≠ .loadConfig payload) (hduty : ∀ payload, c ≠ .setDuty payload) : DutyKept s t := by
  have r := dutyStands_refl s
  have d := DutyKept.refl s
  cases c with
  | hardwareReset sid fltn => exact absurd rfl (hreset sid fltn)
  | loadConfig payload => exact absurd rfl (hload payload)
  | setDuty payload => exact absurd rfl (hduty payload)
  | cancelTimed =>
    refine dutyKept_goes h (dutyKept_ite (fun _ => dutyKept_of_stands d (.inl ⟨rfl, rfl⟩)) fun _ => ?_)
    split
    · exact dutyKept_ite (fun _ => dutyKept_of_sublist rfl List.filter_sublist) fun _ => dutyKept_of_stands d (.inl ⟨rfl, rfl⟩)
    · exact dutyKept_of_stands d (.inl ⟨rfl, rfl⟩)
  | leave =>
    refine dutyKept_of_goes h (dutyStands_ite (dutyStands_withoutPayload _ ?_) (.inl ⟨rfl, rfl⟩))
    exact dutyStands_of_kept (dutyStands_takeLeave r) (by simp) (by simp)
  | restart =>
    refine dutyKept_of_goes h (dutyStands_ite (.inl ⟨rfl, rfl⟩) (dutyStands_withoutPayload _ (.inr ?_)))
    simp [restartAll, restartPcu, ChannelUnit.reset]
  | start => exact dutyKept_of_goes h (dutyStands_ite (dutyStands_withoutPayload _ (.inl (by simp))) (.inl ⟨rfl, rfl⟩))
  | run | halt => exact dutyKept_of_goes h (dutyStands_ite (.inl ⟨rfl, rfl⟩) (dutyStands_withoutPayload _ (.inl ⟨rfl, rfl⟩)))
  | forceTrip | takeMail | takeReceipt | readStatus | readEpoch | readTrip | readEvents =>
    exact dutyKept_of_goes h (dutyStands_withoutPayload _ (.inl (by simp)))
  | clearTrip =>
    exact dutyKept_of_goes h (dutyStands_ite
      (dutyStands_withoutPayload _ (dutyStands_ite (.inl ⟨rfl, rfl⟩) (.inl (by simp)))) (.inl ⟨rfl, rfl⟩))
  | readConfig =>
    refine dutyKept_of_goes h (dutyStands_withoutPayload _ (.inl ?_))
    split <;> exact ⟨rfl, rfl⟩
  | epochBoundary =>
    refine dutyKept_goes h ?_
    split
    · exact d
    next cfg _ =>
      refine dutyKept_ite (fun _ => dutyKept_mapTb d rfl) fun _ => dutyKept_ite (fun _ => ?_) fun _ => dutyKept_takeBoundary _ s
      exact dutyKept_of_kept (dutyKept_found cfg (dutyKept_takeBoundary cfg s)) (by simp) (by simp)
  | timedRecordDue n => exact dutyKept_goes h (dutyKept_of_sublist (by simp) (takeDue_sublist n s))
  | listenTimerExpiry =>
    refine dutyKept_goes h ?_
    split
    · exact d
    · exact dutyKept_ite (fun _ => dutyKept_found _ d) fun _ => d
  | beaconReceived src b =>
    have heard : DutyKept s (sourceReport src s) := dutyKept_of_kept d (by simp) (by simp)
    exact dutyKept_goes h (dutyKept_of_kept (dutyKept_deliverBeacon src b heard) (by simp) (by simp))
  | handoverTimeout | leaveTimeout => exact dutyKept_of_goes h (dutyStands_ite (dutyStands_leaveDone s s) r)
  | admissionWaitExpiry => exact dutyKept_of_goes h (dutyStands_ite (dutyStands_waitBoundary r) r)
  | joinFailure => exact dutyKept_of_goes h (dutyStands_ite (dutyStands_joinFails s s) r)
  | frameSuccess =>
    refine dutyKept_of_goes h ?_
    split
    · exact r
    · exact dutyStands_ite (.inl (by simp)) (dutyStands_giveOutcome _ _ _ (.inl (by simp)))
  | transmitFailure =>
    refine dutyKept_of_goes h ?_
    split
    · exact r
    · exact dutyStands_ite (.inl (by simp)) (dutyStands_countFailure (.inl (by simp)))
  | isolation => exact dutyKept_of_goes h (dutyStands_ite (dutyStands_isolate (.inl ⟨rfl, rfl⟩)) r)
  | fltnRise => cases h; exact dutyKept_of_stands d (.inl ⟨rfl, rfl⟩)
  | fltnFall | tripnLow | tripnHigh =>
    have pinned (f : InputPins → InputPins) : DutyKept s (mapPins f s) := dutyKept_of_kept d rfl rfl
    exact (pinned _).trans (dutyKept_of_goes h (.inl (by simp)))
  | frameDiscarded why =>
    refine dutyKept_of_goes h (.inl ?_)
    cases why with
    | format => dsimp only; split <;> simp
    | badCrc | kindOrLength => simp
  | arbitrationPassed =>
    refine dutyKept_of_goes h ?_
    split
    · exact r
    · dsimp only
      split <;> split <;> exact .inl ⟨rfl, rfl⟩
  | compareMatch ch | deadTimeExpiry ch =>
    refine dutyKept_of_goes h ?_
    split
    · exact r
    · exact dutyStands_ite (by cases ch <;> exact .inl ⟨rfl, rfl⟩) r
  | _ =>
    refine dutyKept_of_goes h (.inl ?_)
    (repeat' split) <;> simp

/-- SET_DUTY is taken in a configured station alone, and places its record in order (R73, R76). -/
theorem setDuty_dutyListLaw (payload : List Byte) (hs : dutyListLaw s) (h : exec (.setDuty payload) s = .next t) :
    dutyListLaw t := by
  have refused (status : Status) : dutyListLaw (answer status s) := hs
  obtain ht | rfl := next_of_goes h
  · rw [ht]
    split
    · exact refused _
    · split
      · exact refused _
      next hu =>
        split
        · exact refused _
        next d apply _ =>
          have hmc : (placeDuty d apply s).mc = s.mc := by simp
          obtain ⟨horder, -⟩ := (dutyListLaw_iff s).1 hs
          exact (dutyListLaw_iff _).2 ⟨inOrder_placeDuty d apply s horder, fun hn => absurd (hmc ▸ hn) hu⟩
  · exact hs

theorem dutyListLaw_of_nil (h : t.pcu.timed = []) : dutyListLaw t :=
  (dutyListLaw_iff t).2 ⟨h ▸ inOrder_nil _, fun _ => h⟩

/-- A command that is none of four keeps the law, an unconfigured station having been one before it (R21). -/
theorem dutyListLaw_of_kept (hs : dutyListLaw s) (hk : DutyKept s t)
    (hc : s.mc.station ≠ .unconfigured → t.mc.station ≠ .unconfigured) : dutyListLaw t := by
  obtain ⟨horder, hnil⟩ := (dutyListLaw_iff s).1 hs
  refine (dutyListLaw_iff t).2 ⟨hk.order horder, fun ht => hk.empty (hnil ?_)⟩
  by_contra hne
  exact hc hne ht

theorem exec_dutyListLaw (c : Instr) (hs : dutyListLaw s) (h : exec c s = .next t) : dutyListLaw t := by
  cases c with
  | hardwareReset sid fltn =>
    obtain ⟨-, -, -, -, hlaw, -⟩ := lawsHoldAtReset sid fltn s t (.inr h)
    exact hlaw
  | loadConfig payload =>
    obtain (rfl | ⟨status, rfl⟩) | ⟨cfg, hu, -, rfl⟩ := loadConfig_cases payload h
    · exact hs
    · exact hs
    · exact dutyListLaw_of_nil (((dutyListLaw_iff s).1 hs).2 hu)
  | setDuty payload => exact setDuty_dutyListLaw payload hs h
  | readEvents payload =>
    refine dutyListLaw_of_kept hs (exec_dutyKept _ h (by simp) (by simp) (by simp)) ?_
    obtain hq | ⟨_, rfl⟩ := readEvents_cases payload h
    · exact hq.configured
    · exact id
  | _ =>
    exact dutyListLaw_of_kept hs (exec_dutyKept _ h (by simp) (by simp) (by simp))
      (exec_keeps _ h (by simp) (by simp) (by simp)).configured

theorem tick_dutyListLaw (hs : dutyListLaw s) : dutyListLaw (tick s) := by
  unfold tick
  dsimp only
  split
  · exact dutyListLaw_of_nil rfl
  · split
    · exact dutyListLaw_of_nil rfl
    · have hk : (runningTick s).tb.epoch = s.tb.epoch ∧ (runningTick s).pcu.timed = s.pcu.timed ∧
          (runningTick s).mc.station = s.mc.station := by
        cases hc : s.config with
        | none =>
          obtain ⟨htb, hmc, hpcu⟩ := timed_still s hc
          rw [runningTick_tb, runningTick_pcu, runningTick_mc, htb, hmc, hpcu]
          exact ⟨rfl, rfl, rfl⟩
        | some cfg =>
          obtain ⟨htb, -⟩ := timed_running s cfg hc
          obtain ⟨-, -, -, he, -⟩ := advance_frame cfg s.tb
          rw [runningTick_tb, runningTick_pcu, htb, he, timed_pcu cfg hc]
          exact ⟨rfl, rfl, (runningTick_counts s cfg hc).1⟩
      obtain ⟨he, ht, hst⟩ := hk
      simpa only [dutyListLaw, he, ht, hst] using hs

/-- Settles O56: a command by `exec_dutyKept` or `inOrder_placeDuty`, and a count moves neither the list nor the epoch number. -/
theorem dutyListLawKept : Obligations.DutyListLawKept := by
  intro s t hs h
  unfold step at h
  split at h
  · cases h
    exact tick_dutyListLaw hs
  next c rest _ => exact exec_dutyListLaw (s := { s with pending := rest }) c hs h

end Sys2Proof.Machine
end

section
namespace Sys2Proof.Machine

variable {s x t : State}

/-! ### RUN and HALT (R86, R87, R88) -/

theorem setRun_eq (on : Bool) (x : State) : setRun on x = { x with pcu := { x.pcu with
    run := on, output := gatedOutput x.mc.station x.tb.lock on x.tc.trip x.pcu.output } } := by
  rw [setRun, regate_gatedOutput]
  rfl

/-- HALT closes the gate whatever the other conditions are (R87). -/
theorem gatedOutput_halted (station : StationState) (lock : LockState) (trip : TripState) (output : OutputState) :
    gatedOutput station lock false trip output = .off := by
  simp [gatedOutput]

/-- Settles O13: the checks in the order of R138, and then `setRun_eq`. -/
theorem runAndHalt : Obligations.RunAndHalt := by
  intro payload s hr
  refine ⟨fun hs => ⟨?_, ?_⟩, fun hs hp => ⟨?_, ?_⟩, fun hs => ⟨?_, ?_⟩⟩
  · exact exec_high hr (by simp only [exec, execRun, if_pos hs]; rfl)
  · exact exec_high hr (by simp only [exec, execHalt, if_pos hs]; rfl)
  · exact exec_high hr (by simp only [exec, execRun, if_neg hs, withoutPayload_cons hp]; rfl)
  · exact exec_high hr (by simp only [exec, execHalt, if_neg hs, withoutPayload_cons hp]; rfl)
  · exact exec_high hr (by simp only [exec, execRun, if_neg hs, withoutPayload_nil, setRun_eq]; rfl)
  · exact exec_high hr (by simp only [exec, execHalt, if_neg hs, withoutPayload_nil, setRun_eq, gatedOutput_halted]; rfl)

/-! ### SET_DUTY (R73, R74, R76) -/

/-- In a configured station SET_DUTY goes on to the place of its record (R73, R138). -/
theorem exec_setDuty {cfg : ConfigRecord} {d : DutySettings} {apply : Option EpochNumber} {payload : List Byte}
    (hr : s.pins.resetn = true) (hl : configLaw s) (hc : s.config = some cfg)
    (hd : dutyOfBytes cfg.period payload = some (d, apply)) :
    exec (.setDuty payload) s = .next (placeDuty d apply s) := by
  have hs : s.mc.station ≠ .unconfigured := fun hu => by simp [hl.2 hu] at hc
  exact exec_high hr (by simp only [exec, execSetDuty, hc, if_neg hs, hd])

theorem placeDuty_untimed (d : DutySettings) (x : State) : placeDuty d none x = { x with
    pcu := { x.pcu with pendingDuty := some d }
    lp := answered (if x.pcu.pendingDuty = none then 0x00 else 0x02) [] x.lp } := by
  have hstatus : statusByte (if x.pcu.pendingDuty.isSome then .replaced else .ok) =
      if x.pcu.pendingDuty = none then 0x00 else 0x02 := by
    cases x.pcu.pendingDuty <;> rfl
  rw [placeDuty, placeUntimed, answer_eq, hstatus]
  rfl

theorem placeDuty_late {d : DutySettings} {apply : EpochNumber}
    (h : epochsAhead apply x.tb.epoch = 0 ∨ 32769 ≤ epochsAhead apply x.tb.epoch) :
    placeDuty d (some apply) x = answer .late x := by
  have hwindow : ¬(1 ≤ epochsAhead apply x.tb.epoch ∧ epochsAhead apply x.tb.epoch ≤ 255) := by omega
  simp [placeDuty, hwindow, h]

theorem placeDuty_beyond {d : DutySettings} {apply : EpochNumber} (hlo : 256 ≤ epochsAhead apply x.tb.epoch)
    (hhi : epochsAhead apply x.tb.epoch ≤ 32768) : placeDuty d (some apply) x = answer .badArg x := by
  have hwindow : ¬(1 ≤ epochsAhead apply x.tb.epoch ∧ epochsAhead apply x.tb.epoch ≤ 255) := by omega
  have hlate : ¬(epochsAhead apply x.tb.epoch = 0 ∨ 32769 ≤ epochsAhead apply x.tb.epoch) := by omega
  simp [placeDuty, hwindow, hlate]

theorem placeDuty_inWindow {d : DutySettings} {apply : EpochNumber} (hlo : 1 ≤ epochsAhead apply x.tb.epoch)
    (hhi : epochsAhead apply x.tb.epoch ≤ 255) :
    placeDuty d (some apply) x = placeTimed { epoch := apply, settings := d } x := by
  simp [placeDuty, hlo, hhi]

theorem placeTimed_replaces {r : TimedDuty} (h : ∃ q ∈ x.pcu.timed, q.epoch = r.epoch) :
    placeTimed r x = answer .replaced (mapPcu (fun p => { p with timed := replaceTimed r p.timed }) x) := by
  rw [placeTimed, if_pos (by simpa using h)]

theorem placeTimed_full {r : TimedDuty} (hnew : ∀ q ∈ x.pcu.timed, q.epoch ≠ r.epoch) (h : 4 ≤ x.pcu.timed.length) :
    placeTimed r x = answer .full x := by
  rw [placeTimed, if_neg (by simpa using hnew), if_pos h]

theorem placeTimed_inserts {r : TimedDuty} (hnew : ∀ q ∈ x.pcu.timed, q.epoch ≠ r.epoch) (h : x.pcu.timed.length < 4) :
    placeTimed r x = answer .ok (mapPcu (fun p => { p with timed := insertTimed x.tb.epoch r p.timed }) x) := by
  rw [placeTimed, if_neg (by simpa using hnew), if_neg (not_le.2 h)]

/-! ### CANCEL_TIMED (R77) -/

theorem exec_cancelTimed (hr : s.pins.resetn = true) (hs : s.mc.station ≠ .unconfigured) (e1 e0 : Byte) :
    exec (.cancelTimed [e1, e0]) s = .next (cancelEpoch (e1 ++ e0) s) :=
  exec_high hr (by simp only [exec, execCancelTimed, if_neg hs]; rfl)

theorem execCancelTimed_length {payload : List Byte} (hs : s.mc.station ≠ .unconfigured) (hp : payload.length ≠ 2) :
    execCancelTimed payload s = goes s (answer .badArg s) := by
  simp only [execCancelTimed, if_neg hs]
  split
  · exact absurd rfl hp
  · rfl

/-! ### The duty commands together -/

theorem setDuty_checks (payload : List Byte) (hr : s.pins.resetn = true) (hl : configLaw s) :
    (s.mc.station = .unconfigured → answersOnly (.setDuty payload) 0x10 [] s) ∧
    (∀ cfg, s.config = some cfg → dutyOfBytes cfg.period payload = none → answersOnly (.setDuty payload) 0x11 [] s) := by
  refine ⟨fun hu => ?_, fun cfg hc hd => ?_⟩
  · have hstate : exec (.setDuty payload) s = .next (answer .state s) :=
      exec_high hr (by simp only [exec, execSetDuty, hl.2 hu])
    exact hstate
  · have hs : s.mc.station ≠ .unconfigured := fun hu => by simp [hl.2 hu] at hc
    have harg : exec (.setDuty payload) s = .next (answer .badArg s) :=
      exec_high hr (by simp only [exec, execSetDuty, hc, if_neg hs, hd])
    exact harg

/-- Settles O14: the place of a record by its distance and by the list; an insertion splits the list by
`insertTimed_between`. -/
theorem dutyCommands : Obligations.DutyCommands := by
  refine ⟨fun payload s hr hl => ?_, fun payload s cfg d apply hr hl hlist hc hd => ?_, fun s e1 e0 hr => ?_⟩
  · obtain ⟨hstate, harg⟩ := setDuty_checks payload hr hl
    exact ⟨hstate, harg, fun cfg d hc hd => (exec_setDuty hr hl hc hd).trans (by rw [placeDuty_untimed])⟩
  · have hexec := exec_setDuty hr hl hc hd
    refine ⟨fun hlate => ?_, fun hlo hhi => ?_, fun hlo hhi => ?_⟩
    · exact hexec.trans (by rw [placeDuty_late hlate]; rfl)
    · exact hexec.trans (by rw [placeDuty_beyond hlo hhi]; rfl)
    · rw [placeDuty_inWindow hlo hhi] at hexec
      refine ⟨fun hold => ?_, fun hnew hfull => ?_, fun hnew hroom => ?_⟩
      · exact hexec.trans (by rw [placeTimed_replaces hold]; rfl)
      · exact hexec.trans (by rw [placeTimed_full hnew hfull.ge]; rfl)
      · obtain ⟨-, hasc, -, -⟩ := hlist
        obtain ⟨before, after, hsplit, hins, hbefore, hafter⟩ :=
          insertTimed_between s.tb.epoch { epoch := apply, settings := d } s.pcu.timed hasc hnew
        refine ⟨before, after, hsplit, hbefore, hafter, hexec.trans ?_⟩
        rw [placeTimed_inserts hnew hroom, answer_eq, mapPcu, hins]
        rfl
  · refine ⟨fun hu payload => ?_, fun hs payload hp => ?_, fun hs hold => ?_, fun hs hnone => ?_⟩
    · exact exec_high hr (by simp only [exec, execCancelTimed, if_pos hu]; rfl)
    · exact exec_high hr (execCancelTimed_length hs hp)
    · exact (exec_cancelTimed hr hs e1 e0).trans (by rw [cancelEpoch, if_pos (by simpa using hold)]; rfl)
    · exact (exec_cancelTimed hr hs e1 e0).trans (by rw [cancelEpoch, if_neg (by simpa using hnone)]; rfl)

end Sys2Proof.Machine
end

section
namespace Sys2Proof.Machine

variable {s x t : State}

/-! ### The gate pins (R85, R87, R89) -/

/-- The pins show the dead-time stages: the output state is ACTIVE and nothing holds them off (R85). -/
def pinsShown (s : State) : Bool := s.pcu.output == .active && !forcedOff s

theorem pinsShown_iff (s : State) : pinsShown s = true ↔
    s.pcu.output = .active ∧ s.tc.trip = .armed ∧ s.pins.tripn = true ∧ anyCause s.tc.causes = false ∧ s.pins.fltn = true := by
  simp only [pinsShown, forcedOff, tripnHigh, drivesTripn, Bool.and_eq_true, beq_iff_eq, Bool.not_eq_true', Bool.or_eq_false_iff,
    Bool.not_eq_false', bne_eq_false_iff_eq]
  tauto

theorem channelPins_unconfigured (h : s.config = none) (c : ChannelState) : channelPins s c = (false, false) := by
  simp only [channelPins, h]

theorem channelPins_configured {cfg : ConfigRecord} (h : s.config = some cfg) (c : ChannelState) : channelPins s c =
    ((pinsShown s && sideOn cfg.deadTime c .high) == cfg.polHigh, (pinsShown s && sideOn cfg.deadTime c .low) == cfg.polLow) := by
  simp only [channelPins, h, pinsShown]

theorem channelPins_off {cfg : ConfigRecord} (h : s.config = some cfg) (hoff : pinsShown s = false) (c : ChannelState) :
    channelPins s c = (!cfg.polHigh, !cfg.polLow) := by
  simp [channelPins_configured h, hoff]

theorem sideOn_iff (deadTime : Nat) (c : ChannelState) {side : Side} (h : side ≠ .none) :
    sideOn deadTime c side = true ↔ c.request = side ∧ c.hold = deadTime := by
  simp [sideOn, h]

theorem beq_right_eq (on pol : Bool) : ((on == pol) = pol) ↔ on = true := by
  cases on <;> cases pol <;> decide

/-- A pin that shows its stage is at its active level exactly when its side is on (R83, R85). -/
theorem channelPins_shown {cfg : ConfigRecord} (h : s.config = some cfg) (hon : pinsShown s = true) (c : ChannelState) :
    ((channelPins s c).1 = cfg.polHigh ↔ c.request = .high ∧ c.hold = cfg.deadTime) ∧
      ((channelPins s c).2 = cfg.polLow ↔ c.request = .low ∧ c.hold = cfg.deadTime) := by
  rw [channelPins_configured h, hon, Bool.true_and, Bool.true_and]
  exact ⟨(beq_right_eq _ _).trans (sideOn_iff _ c (by decide)), (beq_right_eq _ _).trans (sideOn_iff _ c (by decide))⟩

/-! ### ATTNN (R145) -/

/-- The event kinds in the order of their bits (10.4). -/
def eventKinds : List Event :=
  [.joined, .displaced, .left, .joinFailed, .membership, .peerLost, .referenceChanged, .locked, .lockLost, .holdover,
    .migrated, .trip, .rearmed, .mailIn, .mailOverflow, .receipt, .dutyDue, .dutyDropped, .mismatch, .conflict, .isolated,
    .lineFault, .conflictSeen]

theorem eventKinds_bits : eventKinds.map eventBit = List.range 23 := rfl

/-- Every bit of an event set is that of a kind (10.4). -/
theorem exists_eventBit {i : Nat} (h : i < 23) : ∃ e, eventBit e = i := by
  have hi : i ∈ eventKinds.map eventBit := by rw [eventKinds_bits]; exact List.mem_range.2 h
  obtain ⟨e, -, he⟩ := List.mem_map.1 hi
  exact ⟨e, he⟩

theorem eventSet_ne_zero_iff (set : EventSet) : set ≠ 0#23 ↔ ∃ e, hasEvent set e = true := by
  constructor
  · intro hne
    by_contra hnone
    refine hne (BitVec.eq_of_getLsbD_eq fun i hi => ?_)
    obtain ⟨e, rfl⟩ := exists_eventBit hi
    rw [BitVec.getLsbD_zero]
    exact Bool.eq_false_iff.2 fun he => hnone ⟨e, he⟩
  · rintro ⟨e, he⟩ rfl
    simp [hasEvent] at he

theorem attention_iff (s : State) :
    attention s = true ↔ ∃ e, hasEvent s.lp.events e = true ∧ hasEvent s.lp.mask e = true := by
  rw [attention, bne_iff_ne, eventSet_ne_zero_iff]
  simp only [hasEvent, BitVec.getLsbD_and, Bool.and_eq_true]

/-- Settles O22: the pins by whether they show their stages, and ATTNN by the bits of the two sets. -/
theorem outputPins : Obligations.OutputPins := by
  refine ⟨fun s => ⟨fun hc => ?_, fun cfg hc => ⟨fun hoff => ?_, fun hact harm htrip hcause hflt ch => ?_⟩⟩, attention_iff⟩
  · simp only [gatePins, channelPins_unconfigured hc]
  · have hhidden : pinsShown s = false := by
      rw [← Bool.not_eq_true, pinsShown_iff]
      rintro ⟨hact, harm, htrip, hcause, hflt⟩
      simp [hact, harm, htrip, hcause, hflt] at hoff
    simp only [gatePins, channelPins_off hc hhidden]
  · exact channelPins_shown hc ((pinsShown_iff s).2 ⟨hact, harm, htrip, hcause, hflt⟩) _

end Sys2Proof.Machine
end

section
namespace Sys2Proof.Machine

/-! ### Words and counts as bytes (10.1) -/

theorem wordOf_toNat (hi lo : Byte) : (wordOf hi lo).toNat = hi.toNat * 256 + lo.toNat := by
  rw [wordOf, BitVec.toNat_append, ← Nat.shiftLeft_add_eq_or_of_lt lo.isLt, Nat.shiftLeft_eq]

theorem bytes_eq_iff (a b : List Byte) : a = b ↔ a.map BitVec.toNat = b.map BitVec.toNat :=
  (List.map_injective_iff.2 fun _ _ => BitVec.eq_of_toNat_eq).eq_iff.symm

/-- Two bytes are those of a word exactly when they spell it (10.1). -/
theorem wordBytes_eq_iff (hi lo : Byte) (w : BitVec 16) : [hi, lo] = wordBytes w ↔ wordOf hi lo = w := by
  have hlt := lo.isLt
  rw [bytes_eq_iff, wordBytes_toNat, ← BitVec.toNat_inj, wordOf_toNat]
  simp only [List.map_cons, List.map_nil, List.cons.injEq, and_true]
  omega

theorem natWordBytes_eq_iff (hi lo : Byte) {n : Nat} (h : n ≤ 65535) :
    [hi, lo] = natWordBytes n ↔ (wordOf hi lo).toNat = n := by
  rw [natWordBytes, wordBytes_eq_iff, ← BitVec.toNat_inj, BitVec.toNat_ofNat, Nat.mod_eq_of_lt (by omega)]

theorem natByte_eq_iff (b : Byte) {n : Nat} (h : n ≤ 255) : b = natByte n ↔ b.toNat = n := by
  rw [← BitVec.toNat_inj, natByte_toNat, Nat.mod_eq_of_lt (by omega)]

/-! ### The duty record (R73, 10.3) -/

theorem channelModeOfCode_eq_some (c : Byte) (m : ChannelMode) : channelModeOfCode c = some m ↔ c = channelCode m := by
  revert c
  cases m <;> decide

/-- Three bytes are taken for a setting exactly when they are its bytes and its compare value is at most P (R73). -/
theorem settingOfBytes_eq_some {period : Nat} (hp : period ≤ 65535) (m c1 c0 : Byte) (c : ChannelSetting) :
    settingOfBytes period m c1 c0 = some c ↔ c.compare ≤ period ∧ [m, c1, c0] = settingBytes c := by
  obtain ⟨mode, compare⟩ := c
  have hbytes (h : compare ≤ period) : [m, c1, c0] = settingBytes ⟨mode, compare⟩ ↔
      channelModeOfCode m = some mode ∧ (wordOf c1 c0).toNat = compare := by
    rw [settingBytes, List.cons.injEq, natWordBytes_eq_iff c1 c0 (h.trans hp), channelModeOfCode_eq_some]
  rw [and_congr_right hbytes, settingOfBytes]
  cases channelModeOfCode m with
  | none => simp
  | some m' =>
    by_cases hle : (wordOf c1 c0).toNat ≤ period
    · simp only [hle, if_true, Option.some.injEq, ChannelSetting.mk.injEq]
      exact ⟨fun ⟨hm, hc⟩ => ⟨hc ▸ hle, hm, hc⟩, fun ⟨_, hm, hc⟩ => ⟨hm, hc⟩⟩
    · simp only [hle, if_false, reduceCtorEq, false_iff]
      rintro ⟨hc, -, rfl⟩
      exact hle hc

theorem settingsOfBytes_eq_some {period : Nat} (hp : period ≤ 65535) (m0 u1 u0 m1 v1 v0 m2 w1 w0 : Byte) (d : DutySettings) :
    settingsOfBytes period m0 u1 u0 m1 v1 v0 m2 w1 w0 = some d ↔
      d.u.compare ≤ period ∧ d.v.compare ≤ period ∧ d.w.compare ≤ period ∧
        [m0, u1, u0, m1, v1, v0, m2, w1, w0] = dutyBytes d none := by
  obtain ⟨u, v, w⟩ := d
  have hbytes : [m0, u1, u0, m1, v1, v0, m2, w1, w0] = dutyBytes ⟨u, v, w⟩ none ↔
      [m0, u1, u0] = settingBytes u ∧ [m1, v1, v0] = settingBytes v ∧ [m2, w1, w0] = settingBytes w := by
    simp [dutyBytes, settingBytes, natWordBytes, wordBytes, and_assoc]
  have hsettings : settingsOfBytes period m0 u1 u0 m1 v1 v0 m2 w1 w0 = some ⟨u, v, w⟩ ↔
      settingOfBytes period m0 u1 u0 = some u ∧ settingOfBytes period m1 v1 v0 = some v ∧
        settingOfBytes period m2 w1 w0 = some w := by
    unfold settingsOfBytes
    split
    next hu hv hw => simp [hu, hv, hw]
    next hnone => simpa using fun hu hv hw => hnone u v w hu hv hw
  rw [hsettings, hbytes, settingOfBytes_eq_some hp, settingOfBytes_eq_some hp, settingOfBytes_eq_some hp]
  tauto

theorem dutyBytes_timed (d : DutySettings) (e : EpochNumber) : dutyBytes d (some e) = dutyBytes d none ++ wordBytes e := by
  simp [dutyBytes]

/-- A SET_DUTY payload is taken for a duty record exactly when it is that record's bytes (R73). -/
theorem dutyOfBytes_eq_some {period : Nat} (hp : period ≤ 65535) (payload : List Byte) (d : DutySettings)
    (apply : Option EpochNumber) : dutyOfBytes period payload = some (d, apply) ↔
      d.u.compare ≤ period ∧ d.v.compare ≤ period ∧ d.w.compare ≤ period ∧ payload = dutyBytes d apply := by
  unfold dutyOfBytes
  split
  next m0 u1 u0 m1 v1 v0 m2 w1 w0 =>
    cases apply with
    | none => simp [settingsOfBytes_eq_some hp]
    | some e => simp [dutyBytes, settingBytes, natWordBytes, wordBytes]
  next m0 u1 u0 m1 v1 v0 m2 w1 w0 e1 e0 =>
    cases apply with
    | none => simp [dutyBytes, settingBytes, natWordBytes, wordBytes]
    | some e =>
      have hbytes : [m0, u1, u0, m1, v1, v0, m2, w1, w0, e1, e0] = dutyBytes d (some e) ↔
          [m0, u1, u0, m1, v1, v0, m2, w1, w0] = dutyBytes d none ∧ wordOf e1 e0 = e := by
        rw [dutyBytes_timed, ← wordBytes_eq_iff]
        exact ⟨fun h => List.append_inj (s₁ := [m0, u1, u0, m1, v1, v0, m2, w1, w0]) h rfl,
          fun ⟨hsettings, hepoch⟩ => by rw [← hsettings, ← hepoch]; rfl⟩
      rw [hbytes]
      simp [settingsOfBytes_eq_some hp, and_assoc]
  next h9 h11 =>
    simp only [reduceCtorEq, false_iff]
    rintro ⟨-, -, -, rfl⟩
    cases apply with
    | none => exact h9 _ _ _ _ _ _ _ _ _ rfl
    | some e => exact h11 _ _ _ _ _ _ _ _ _ _ _ rfl

/-! ### The configuration record (R139, 10.3) -/

theorem validConfig_iff (cfg : ConfigRecord) : validConfig cfg = true ↔ acceptedValues cfg := by
  unfold validConfig acceptedValues
  cases hm : cfg.mode <;> simp <;> omega

theorem modeOfConfigCode_eq_some (c : BitVec 2) (m : CarrierMode) : modeOfConfigCode c = some m ↔ c = configModeCode m := by
  revert c
  cases m <;> decide

theorem lengthOfCode_eq (c : BitVec 2) (l : EpochLength) : lengthOfCode c = l ↔ c = lengthCode l := by
  revert c
  cases l <;> decide

/-- The flags byte of the configuration record: mode, a bit without a field, E, two polarities and APPLY_AT_PEAK (10.3). -/
def configFlags (mode : BitVec 2) (spare : BitVec 1) (len : BitVec 2) (high low peak : Bool) : Byte :=
  mode ++ spare ++ len ++ BitVec.ofBool high ++ BitVec.ofBool low ++ BitVec.ofBool peak

/-- A byte is the flags byte of some fields exactly when each field stands at its bits (10.3). -/
theorem configFlags_eq_iff (flags : Byte) (mode len : BitVec 2) (high low peak : Bool) :
    flags = configFlags mode 0#1 len high low peak ↔
      flags.extractLsb' 6 2 = mode ∧ flags.getLsbD 5 = false ∧ flags.extractLsb' 3 2 = len ∧ flags.getLsbD 2 = high ∧
        flags.getLsbD 1 = low ∧ flags.getLsbD 0 = peak := by
  constructor
  · rintro rfl
    revert mode len high low peak
    decide
  · rintro ⟨rfl, hspare, rfl, rfl, rfl, rfl⟩
    revert flags
    decide

/-- The fields of ten bytes as a configuration record, but for the mode (10.3). -/
def configFields (mode : CarrierMode) (flags p1 p0 d slew w h loss listen delay : Byte) : ConfigRecord :=
  { mode := mode
    period := (wordOf p1 p0).toNat
    length := lengthOfCode (flags.extractLsb' 3 2)
    deadTime := d.toNat
    slewMax := slew.toNat
    window := w.toNat
    holdoverEpochs := h.toNat
    lossEpochs := loss.toNat
    listenEpochs := listen.toNat
    lineDelay := delay.toNat
    polHigh := flags.getLsbD 2
    polLow := flags.getLsbD 1
    applyAtPeak := flags.getLsbD 0 }

theorem configOfBytes_fields (flags p1 p0 d slew w h loss listen delay : Byte) (cfg : ConfigRecord) :
    configOfBytes [flags, p1, p0, d, slew, w, h, loss, listen, delay] = some cfg ↔
      modeOfConfigCode (flags.extractLsb' 6 2) = some cfg.mode ∧ flags.getLsbD 5 = false ∧
        configFields cfg.mode flags p1 p0 d slew w h loss listen delay = cfg ∧ validConfig cfg = true := by
  simp only [configOfBytes]
  cases modeOfConfigCode (flags.extractLsb' 6 2) with
  | none => simp
  | some mode =>
    cases flags.getLsbD 5 with
    | true => simp
    | false =>
      by_cases hv : validConfig (configFields mode flags p1 p0 d slew w h loss listen delay) = true
      · rw [configFields] at hv
        simp only [hv, Bool.false_eq_true, if_false, if_true, Option.some.injEq, true_and]
        constructor
        · rintro rfl
          exact ⟨rfl, rfl, hv⟩
        · rintro ⟨rfl, hcfg, -⟩
          exact hcfg
      · rw [configFields] at hv
        simp only [hv, Bool.false_eq_true, if_false, reduceCtorEq, false_iff, Option.some.injEq, true_and]
        rintro ⟨rfl, hcfg, hvalid⟩
        rw [← hcfg] at hvalid
        exact hv hvalid

theorem configBytes_eq (cfg : ConfigRecord) : configBytes cfg =
    [configFlags (configModeCode cfg.mode) 0#1 (lengthCode cfg.length) cfg.polHigh cfg.polLow cfg.applyAtPeak] ++
      natWordBytes cfg.period ++ [natByte cfg.deadTime, natByte cfg.slewMax, natByte cfg.window, natByte cfg.holdoverEpochs,
        natByte cfg.lossEpochs, natByte cfg.listenEpochs, natByte cfg.lineDelay] := rfl

/-- Ten bytes are those of an accepted record exactly when its fields are read from them (R139, 10.3). -/
theorem configBytes_eq_iff (flags p1 p0 d slew w h loss listen delay : Byte) {cfg : ConfigRecord} (ha : acceptedValues cfg) :
    [flags, p1, p0, d, slew, w, h, loss, listen, delay] = configBytes cfg ↔
      modeOfConfigCode (flags.extractLsb' 6 2) = some cfg.mode ∧ flags.getLsbD 5 = false ∧
        configFields cfg.mode flags p1 p0 d slew w h loss listen delay = cfg := by
  obtain ⟨hmode, ⟨hdead, -⟩, ⟨-, hslew⟩, ⟨-, hwindow⟩, ⟨-, hhold⟩, ⟨-, hloss⟩, ⟨-, hlisten⟩, hdelay⟩ := ha
  have hperiod : cfg.period ≤ 65535 := by omega
  have hsplit : [flags, p1, p0, d, slew, w, h, loss, listen, delay] = configBytes cfg ↔
      flags = configFlags (configModeCode cfg.mode) 0#1 (lengthCode cfg.length) cfg.polHigh cfg.polLow cfg.applyAtPeak ∧
        [p1, p0] = natWordBytes cfg.period ∧ d = natByte cfg.deadTime ∧ slew = natByte cfg.slewMax ∧
        w = natByte cfg.window ∧ h = natByte cfg.holdoverEpochs ∧ loss = natByte cfg.lossEpochs ∧
        listen = natByte cfg.listenEpochs ∧ delay = natByte cfg.lineDelay := by
    simp [configBytes_eq, natWordBytes, wordBytes, and_assoc]
  rw [hsplit, configFlags_eq_iff, ← modeOfConfigCode_eq_some, ← lengthOfCode_eq, natWordBytes_eq_iff _ _ hperiod,
    natByte_eq_iff _ hdead, natByte_eq_iff _ hslew, natByte_eq_iff _ hwindow, natByte_eq_iff _ (hhold.trans (by decide)),
    natByte_eq_iff _ (hloss.trans (by decide)), natByte_eq_iff _ (hlisten.trans (by decide)), natByte_eq_iff _ hdelay]
  cases cfg
  simp only [configFields, ConfigRecord.mk.injEq, true_and]
  tauto

/-- A LOAD_CONFIG payload is taken for a record exactly when it is that record's bytes and every field has an accepted value
(R139). -/
theorem configOfBytes_eq_some (payload : List Byte) (cfg : ConfigRecord) :
    configOfBytes payload = some cfg ↔ acceptedValues cfg ∧ payload = configBytes cfg := by
  by_cases hten : ∃ flags p1 p0 d slew w h loss listen delay, payload = [flags, p1, p0, d, slew, w, h, loss, listen, delay]
  · obtain ⟨flags, p1, p0, d, slew, w, h, loss, listen, delay, rfl⟩ := hten
    rw [and_congr_right fun ha => configBytes_eq_iff flags p1 p0 d slew w h loss listen delay ha, configOfBytes_fields,
      validConfig_iff]
    tauto
  · have hnone : configOfBytes payload = none := by
      unfold configOfBytes
      split
      next flags p1 p0 d slew w h loss listen delay =>
        exact absurd ⟨flags, p1, p0, d, slew, w, h, loss, listen, delay, rfl⟩ hten
      · rfl
    simp only [hnone, reduceCtorEq, false_iff, not_and]
    rintro - rfl
    exact hten ⟨_, _, _, _, _, _, _, _, _, _, rfl⟩

/-- Settles O3: each payload against the bytes of the record it is taken for. -/
theorem payloadLayouts : Obligations.PayloadLayouts :=
  ⟨configOfBytes_eq_some, fun _ payload d apply hp => dutyOfBytes_eq_some hp payload d apply⟩

end Sys2Proof.Machine
end

section
namespace Sys2Proof.Machine

variable {s x t : State}

/-! ### A latching event of a cause (R94, R96, R97, R101) -/

/-- LC after the TRIP frame that a latching event fills, where R101 allows. -/
def tripFrameLc (cause : TripCause) (x : State) : LineController :=
  if x.mc.station = .unconfigured ∨ x.mc.station = .isolated ∨ x.mc.station = .mismatch then x.lc
  else (fillSlot (.trip cause x.tb.epoch) x).lc

theorem lc_tripFrame (cause : TripCause) (x : State) :
    (if x.mc.station = .unconfigured ∨ x.mc.station = .isolated ∨ x.mc.station = .mismatch then x
      else fillSlot (.trip cause x.tb.epoch) x).lc = tripFrameLc cause x := apply_ite State.lc _ _ _

theorem tripFrameState_iff (station : StationState) :
    tripFrameState station = true ↔ ¬(station = .unconfigured ∨ station = .isolated ∨ station = .mismatch) := by
  cases station <;> simp [tripFrameState]

theorem fillTrip_eq (cause : TripCause) (x : State) : fillTrip cause x = { x with lc := tripFrameLc cause x } := by
  simp only [fillTrip, tripFrameLc, tripFrameState_iff, ite_not]
  split <;> rfl

/-- The TRIP frame is filled in its slot whatever the line monitor shows (R116, R121). -/
theorem tripFrameLc_lineActive (cause : TripCause) (x : State) :
    tripFrameLc cause { x with lc := { x.lc with lineActive := true } } =
      { tripFrameLc cause x with lineActive := true } := by
  unfold tripFrameLc fillSlot
  dsimp only [mapLc]
  (repeat' split) <;> rfl

theorem appendOrigin_upTo8 (id : StationId) {origins : List StationId} (h : origins.length ≤ 8) :
    appendOrigin id origins = if origins.contains id ∨ origins.length = 8 then origins else origins ++ [id] := by
  have hfull : 8 ≤ origins.length ↔ origins.length = 8 := by omega
  simp only [appendOrigin, Bool.or_eq_true, decide_eq_true_eq, hfull]

/-- Outside TRIPPED_LOCAL the set holds no cause (R93, R95). -/
theorem causes_of_tripLaw (hl : tripLaw s) (h : s.tc.trip ≠ .trippedLocal) :
    s.tc.causes = { pin := false, command := false, line := false } := by
  obtain ⟨hcauses, -⟩ := hl
  have hnone : anyCause s.tc.causes = false := Bool.eq_false_iff.2 fun ha => h (hcauses.1 ha)
  generalize s.tc.causes = c at hnone
  obtain ⟨pin, command, line⟩ := c
  simpa [anyCause, and_assoc] using hnone

theorem latchCause_further {cause : TripCause} (hnew : hasCause x.tc.causes cause = false)
    (h : x.tc.trip = .trippedLocal) : latchCause cause x = { x with
      tc := { x.tc with causes := addCause x.tc.causes cause }
      lc := tripFrameLc cause x } := by
  rw [latchCause, if_neg (by simp [hnew]), if_pos h, fillTrip_eq]
  rfl

/-- TC of a station that a cause takes to TRIPPED_LOCAL (R96). -/
def trippedBy (cause : TripCause) (x : State) : TripController :=
  { trip := .trippedLocal
    causes := addCause { pin := false, command := false, line := false } cause
    origins := if x.tc.origins.contains x.sid ∨ x.tc.origins.length = 8 then x.tc.origins else x.tc.origins ++ [x.sid]
    tripEpoch := some x.tb.epoch }

theorem latchCause_enters {cause : TripCause} (hl : tripLaw x) (h : x.tc.trip ≠ .trippedLocal) :
    latchCause cause x = { x with
      tc := trippedBy cause x
      pcu := { x.pcu with output := .off }
      lc := tripFrameLc cause x
      lp := { x.lp with events := x.lp.events ||| eventMask .trip } } := by
  have hcauses := causes_of_tripLaw hl h
  obtain ⟨-, hlen, -⟩ := hl
  have hnew : hasCause x.tc.causes cause = false := by rw [hcauses]; cases cause <;> rfl
  have hentry : trippedBy cause x =
      { trip := .trippedLocal
        causes := addCause x.tc.causes cause
        origins := appendOrigin x.sid x.tc.origins
        tripEpoch := some x.tb.epoch } := by
    rw [trippedBy, hcauses, appendOrigin_upTo8 _ hlen]
  rw [latchCause, if_neg (by simp [hnew]), if_neg h, fillTrip_eq, regate_eq_off (by simp [gateOpen, post, mapLp, mapTc]), hentry]
  rfl

/-! ### FLTN and the line monitor (R89, R94, R121) -/

/-- The fall of FLTN as the pins show it, before the cause is latched (R89). -/
def fltnLow (s : State) : State := { s with pins := { s.pins with fltn := false } }

theorem exec_fltnFall (hr : s.pins.resetn = true) : exec .fltnFall s = .next (latchCause .pin (fltnLow s)) :=
  goes_high _ _ hr

/-- A raising of LINE posts LINE_FAULT and is then a latching event (R106, R121). -/
def lineShown (s : State) : State := { s with
  lc := { s.lc with lineActive := true }, lp := { s.lp with events := s.lp.events ||| eventMask .lineFault } }

theorem exec_lineRaised (hr : s.pins.resetn = true) : exec .lineRaised s = .next (latchCause .line (lineShown s)) :=
  goes_high _ _ hr

theorem tripFrameLc_lineShown (s : State) :
    tripFrameLc .line (lineShown s) = { tripFrameLc .line s with lineActive := true } :=
  tripFrameLc_lineActive .line s

/-! ### The level of FLTN on a count (R96) -/

theorem mem_pinRows (i : Instr) (now : Nat) (fltn tripn : List Instr) :
    i ∈ pinRows now fltn tripn ↔ i ∈ fltn ∨ i ∈ tripn := by
  unfold pinRows
  split <;> simp [or_comm]

/-- A command of the pins falls on a count from the pins' part alone. -/
theorem mem_runningTick_pins {i : Instr} (hi : rowGroup i = 0) (s : State) :
    i ∈ (runningTick s).pending ↔
      i ∈ fltnRows s.pins.fltn (nextPins s).fltn ∨ i ∈ tripnRows s.tc.trip (nextPins s).tripn := by
  have apart {part : Nat} {rows : List Instr} (hrows : rowsOf part rows) (hpart : part ≠ 0) : i ∉ rows := fun hmem =>
    hpart (hi ▸ (hrows i hmem).symm)
  have hmail : i ≠ .mailCompletion := by rintro rfl; simp [rowGroup] at hi
  rw [mem_runningTick]
  simp only [apart (timePart_rows _) (by decide), apart (lineTick_rows _) (by decide), apart (portTick_rows _) (by decide), hmail,
    and_false, or_false]
  exact mem_pinRows i _ _ _

theorem runningTick_pins (s : State) :
    (runningTick s).pins = { nextPins s with fltn := s.pins.fltn, tripn := (runningTick s).pins.tripn } := by
  rw [runningTick_eq]
  unfold timed
  rw [timePart_frame]
  rfl

theorem fltnFall_mem (s : State) :
    Instr.fltnFall ∈ (runningTick s).pending ↔ s.pins.fltn = true ∧ (nextPins s).fltn = false := by
  rw [mem_runningTick_pins rfl]
  simp only [fltnRows, tripnRows, List.mem_append, mem_rowIf]
  (repeat' split) <;> simp

theorem fltnRise_mem (s : State) :
    Instr.fltnRise ∈ (runningTick s).pending ↔ s.pins.fltn = false ∧ (nextPins s).fltn = true := by
  rw [mem_runningTick_pins rfl]
  simp only [fltnRows, tripnRows, List.mem_append, mem_rowIf]
  (repeat' split) <;> simp

/-- Settles O20: each input is a latching event of its cause by the three `latchCause` lemmas, and the edges of FLTN on a
count are those of the pins' part. -/
theorem latchingInputs : Obligations.LatchingInputs := by
  refine ⟨fun s hr hl => ⟨rfl, fun hpin => ?_, fun hpin htrip => ?_, fun htrip => ?_⟩,
    fun s hr hl => ⟨goes_high _ _ hr, fun hline => ?_, fun hline htrip => ?_, fun htrip => ?_⟩, fun s pins hone hpins => ?_⟩
  · rw [exec_fltnFall hr, latchCause_again .pin (fltnLow s) hpin]
    rfl
  · rw [exec_fltnFall hr, latchCause_further (x := fltnLow s) (cause := .pin) hpin htrip, lc_tripFrame]
    rfl
  · rw [exec_fltnFall hr, latchCause_enters (x := fltnLow s) hl htrip, lc_tripFrame]
    rfl
  · rw [exec_lineRaised hr, latchCause_again .line (lineShown s) hline]
    rfl
  · rw [exec_lineRaised hr, latchCause_further (x := lineShown s) (cause := .line) hline htrip, lc_tripFrame,
      tripFrameLc_lineShown]
    rfl
  · rw [exec_lineRaised hr, latchCause_enters (x := lineShown s) hl htrip, lc_tripFrame, tripFrameLc_lineShown]
    rfl
  · subst hpins
    exact ⟨runningTick s, step_of_oneCount s hone, fltnFall_mem s, fltnRise_mem s, runningTick_pins s⟩

end Sys2Proof.Machine
end

section
namespace Sys2Proof.Machine

variable {s : State}

/-! ### Read commands (R103, R138, R140) -/

/-- A command that takes no arguments answers any with BAD_ARG and does nothing (R138, R148). -/
theorem answersOnly_badArg {c : Instr} {payload : List Byte} {act : State → State} (hr : s.pins.resetn = true)
    (hp : payload ≠ []) (hc : exec c s = goes s (withoutPayload payload act s)) : answersOnly c 0x11 [] s :=
  exec_high hr (hc.trans (by rw [withoutPayload_cons hp]; rfl))

theorem exec_readConfig_held {cfg : ConfigRecord} (hr : s.pins.resetn = true) (hc : s.config = some cfg) :
    exec (.readConfig []) s = .next (respond .ok (configBytes cfg) s) :=
  exec_high hr (by simp only [exec, execReadConfig, withoutPayload_nil, hc])

theorem exec_readConfig_empty (hr : s.pins.resetn = true) (hc : s.config = none) :
    exec (.readConfig []) s = .next (answer .empty s) :=
  exec_high hr (by simp only [exec, execReadConfig, withoutPayload_nil, hc])

theorem idOfNat_val (id : StationId) : idOfNat id.val = some id := dif_pos id.isLt

theorem idOfNat_eq_none {n : Nat} (h : 31 < n) : idOfNat n = none := dif_neg (by omega)

theorem execReadRoster_length {payload : List Byte} (hp : payload.length ≠ 1) :
    execReadRoster payload s = goes s (answer .badArg s) := by
  unfold execReadRoster
  split
  · exact absurd rfl hp
  · rfl

/-- Settles O5: each read forms its response alone; READ_CONFIG splits by the record held, READ_ROSTER by the ID. -/
theorem readsChangeNothing : Obligations.ReadsChangeNothing := by
  intro s hr
  refine ⟨exec_high hr rfl, exec_high hr rfl, exec_high hr rfl, fun cfg hc => exec_readConfig_held hr hc,
    fun hc => exec_readConfig_empty hr hc, fun id => ?_, fun b hb => ?_,
    fun payload hp => exec_high hr (execReadRoster_length hp), fun payload hp => ⟨answersOnly_badArg hr hp rfl,
      answersOnly_badArg hr hp rfl, answersOnly_badArg hr hp rfl, answersOnly_badArg hr hp rfl⟩⟩
  · exact exec_high hr (by simp only [exec, execReadRoster, idByte_toNat, idOfNat_val]; rfl)
  · exact exec_high hr (by simp only [exec, execReadRoster, idOfNat_eq_none hb]; rfl)

end Sys2Proof.Machine
end

section
namespace Sys2Proof.Machine

variable {s x t : State}

/-! ### The trip state and the gate (R87, R98, R100) -/

theorem gateOpen_notArmed (h : x.tc.trip ≠ .armed) : gateOpen x = false := by simp [gateOpen, h]

/-- Outside ARMED the gate is closed and the output state OFF (R87). -/
theorem output_off_of_notArmed (ho : outputLaw x) (h : x.tc.trip ≠ .armed) : x.pcu.output = .off := by
  obtain ⟨hoff, -⟩ := ho
  exact hoff.2 (gateOpen_notArmed h)

/-- Taking the gate afresh moves nothing at a station that is OFF and not ARMED. -/
theorem regate_notArmed (ho : x.pcu.output = .off) (h : x.tc.trip ≠ .armed) : regate x = x :=
  regate_id x (iff_of_true ho (gateOpen_notArmed h))

/-- Entering ARMED ends the episode and gives the output state of the gate (R100, R102). -/
theorem enterArmed_eq (x : State) : enterArmed x = { x with
    tc := { x.tc with trip := .armed, origins := [] }
    pcu := { x.pcu with output := gatedOutput x.mc.station x.tb.lock x.pcu.run .armed x.pcu.output }
    lp := { x.lp with events := x.lp.events ||| eventMask .rearmed } } := by
  rw [enterArmed, regate_gatedOutput]
  rfl

/-- TC of a station that enters REARM, which it leaves at once for ARMED while it is unlocked (R98, R99, R100). -/
def rearmedTc (x : State) : TripController := { x.tc with
  trip := if lockHeld x.tb.lock then .rearm else .armed
  origins := if lockHeld x.tb.lock then x.tc.origins else [] }

/-- Entering REARM keeps an output state that is OFF: the gate needs ARMED, and ARMED at once needs an unlocked station. -/
theorem enterRearm_eq (ho : x.pcu.output = .off) : enterRearm x = { x with
    tc := rearmedTc x
    lp := { x.lp with events := x.lp.events ||| (if lockHeld x.tb.lock then 0 else eventMask .rearmed) } } := by
  unfold enterRearm rearmedTc
  cases hl : lockHeld x.tb.lock with
  | true =>
    rw [regate_notArmed (x := mapTc (fun tc => { tc with trip := .rearm }) x) ho (by simp), rearmIfUnlocked,
      if_neg (by simp [hl])]
    simp [mapTc]
  | false =>
    have hpcu : { x.pcu with output := .off } = x.pcu := by rw [← ho]
    rw [rearmIfUnlocked_regate (by simpa using hl)]
    simp [mapTc, unlockedTrip, unlockedEvents, hpcu]

/-- Entering TRIPPED_REMOTE keeps the trip epoch and the origin list (R98, R102). -/
theorem enterRemote_eq (x : State) : enterRemote x = { x with
    tc := { x.tc with trip := .trippedRemote }
    pcu := { x.pcu with output := .off }
    lp := { x.lp with events := x.lp.events ||| eventMask .trip } } := by
  rw [enterRemote, regate_eq_off (gateOpen_notArmed (by simp))]
  rfl

/-! ### CLEAR_TRIP (R99) -/

/-- A station with its cause set empty and no TRIP frame waiting, before it senses TRIPN (R99). -/
def emptied (x : State) : State := { x with
  lc := (emptySlot .trip x).lc, tc := { x.tc with causes := { pin := false, command := false, line := false } } }

/-- TRIPN is sensed without the station's own drive, which ends with the cause set. -/
theorem tripnHigh_emptied (x : State) : tripnHigh (emptied x) = x.pins.tripn := by
  simp [tripnHigh, drivesTripn, anyCause, emptied]

theorem clearCauses_eq (x : State) : clearCauses x = if x.pins.tripn then enterRearm (emptied x)
    else regate (mapTc (fun tc => { tc with trip := .trippedRemote }) (emptied x)) := by
  rw [← tripnHigh_emptied]
  rfl

theorem clearCauses_low (ho : x.pcu.output = .off) (h : x.pins.tripn = false) :
    clearCauses x = mapTc (fun tc => { tc with trip := .trippedRemote }) (emptied x) := by
  rw [clearCauses_eq, h]
  exact regate_notArmed ho (by simp)

theorem clearCauses_high (ho : x.pcu.output = .off) (h : x.pins.tripn = true) :
    clearCauses x = { emptied x with
      tc := rearmedTc (emptied x)
      lp := { x.lp with events := x.lp.events ||| (if lockHeld x.tb.lock then 0 else eventMask .rearmed) } } := by
  rw [clearCauses_eq, if_pos h]
  exact enterRearm_eq (x := emptied x) ho

/-- A clear empties the set whatever level TRIPN has. -/
theorem clearCauses_anyCause (x : State) : anyCause (clearCauses x).tc.causes = false := by
  rw [clearCauses_eq]
  split <;> simp [emptied, anyCause]

/-- What CLEAR_TRIP does in TRIPPED_LOCAL without arguments: refused while a cause in the set is active (R99, R138). -/
theorem exec_clearTrip (hr : s.pins.resetn = true) (h : s.tc.trip = .trippedLocal) :
    exec (.clearTrip []) s = .next (if pinActive s || lineCauseActive s then answer .activeCause s
      else answer .ok (clearCauses s)) :=
  exec_high hr (by simp only [exec, execClearTrip, if_pos h, withoutPayload_nil])

theorem pinActive_iff (s : State) : pinActive s = true ↔ s.tc.causes.pin = true ∧ s.pins.fltn = false := by simp [pinActive]

theorem lineCauseActive_iff (s : State) : lineCauseActive s = true ↔ s.tc.causes.line = true ∧ s.lc.lineActive = true := by
  simp [lineCauseActive]

/-- Settles O19: the checks in the order of R138; a clear then goes by the level of TRIPN, and at high by the lock state, with
the output state OFF before it and after it. -/
theorem clearTrip : Obligations.ClearTrip := by
  intro s hr ho
  refine ⟨fun htrip payload => ?_, fun htrip payload hp => ?_, fun htrip hactive => ?_, fun htrip hpin hline => ?_⟩
  · exact exec_high hr (by simp only [exec, execClearTrip, if_neg htrip]; rfl)
  · exact answersOnly_badArg hr hp (by simp only [exec, execClearTrip, if_pos htrip]; rfl)
  · rw [← pinActive_iff, ← lineCauseActive_iff, ← Bool.or_eq_true] at hactive
    exact (exec_clearTrip hr htrip).trans (by rw [if_pos hactive]; rfl)
  · have hidle : ¬(pinActive s || lineCauseActive s) = true := by
      rw [Bool.or_eq_true, pinActive_iff, lineCauseActive_iff]
      exact not_or_intro hpin hline
    have hoff : s.pcu.output = .off := output_off_of_notArmed ho (by simp [htrip])
    refine ⟨answer .ok (clearCauses s), (exec_clearTrip hr htrip).trans (by rw [if_neg hidle]), ?_⟩
    cases htripn : s.pins.tripn with
    | false =>
      rw [clearCauses_low hoff htripn]
      simp [answer_eq, statusByte, emptied, hostKept, drivesTripn, anyCause]
    | true =>
      rw [clearCauses_high hoff htripn]
      cases hl : lockHeld s.tb.lock <;>
        simp [answer_eq, statusByte, emptied, rearmedTc, hostKept, drivesTripn, anyCause, answered, answeredAfter, hl]

/-! ### FORCE_TRIP (R104) -/

/-- FORCE_TRIP has no state check: it is a latching event of COMMAND wherever it is taken. -/
theorem exec_forceTrip (hr : s.pins.resetn = true) :
    exec (.forceTrip []) s = .next (answer .ok (latchCause .command s)) := exec_high hr rfl

/-- COMMAND alone is no active cause, so that CLEAR_TRIP empties the set (R94, R99). -/
theorem exec_clearTrip_command (hr : s.pins.resetn = true) (h : s.tc.trip = .trippedLocal)
    (hc : s.tc.causes = { pin := false, command := true, line := false }) :
    exec (.clearTrip []) s = .next (answer .ok (clearCauses s)) := by
  rw [exec_clearTrip hr h, if_neg (by simp [pinActive, lineCauseActive, hc])]

theorem halt_tc {payload : List Byte} (h : exec (.halt payload) s = .next t) : t.tc = s.tc := by
  obtain rfl | rfl := next_of_goes h
  · split
    · rfl
    · unfold withoutPayload
      split <;> simp [setRun]
  · rfl

/-- Settles O18: a latching event of COMMAND by the three `latchCause` lemmas; the clear that follows finds COMMAND alone. -/
theorem forceTrip : Obligations.ForceTrip := by
  intro s hr hl
  refine ⟨fun payload hp => answersOnly_badArg hr hp rfl, fun hcommand => ?_, fun hcommand htrip => ?_, fun htrip => ?_,
    fun payload u hu => halt_tc hu⟩
  · exact (exec_forceTrip hr).trans (by rw [latchCause_again .command s hcommand]; rfl)
  · rw [exec_forceTrip hr, latchCause_further (cause := .command) hcommand htrip, lc_tripFrame]
    rfl
  · refine ⟨_, exec_forceTrip hr, ?_, _, exec_clearTrip_command ?_ ?_ ?_, clearCauses_anyCause _⟩
    · rw [latchCause_enters hl htrip, lc_tripFrame]
      rfl
    · simpa using hr
    · simp [latchCause_enters hl htrip, trippedBy]
    · simp [latchCause_enters hl htrip, trippedBy, addCause]

end Sys2Proof.Machine
end

section
namespace Sys2Proof.Machine

variable {s x : State}

/-! ### The levels of TRIPN (R95, R98) -/

/-- The others' level of TRIPN as the pins show it, before it is sensed. -/
def tripnLevel (high : Bool) (s : State) : State := { s with pins := { s.pins with tripn := high } }

theorem exec_tripnLow (hr : s.pins.resetn = true) : exec .tripnLow s = .next (senseTripn (tripnLevel false s)) :=
  goes_high _ _ hr

theorem exec_tripnHigh (hr : s.pins.resetn = true) : exec .tripnHigh s = .next (senseTripn (tripnLevel true s)) :=
  goes_high _ _ hr

/-- Outside TRIPPED_LOCAL the station drives nothing, and senses the others' level (R95). -/
theorem tripnHigh_of_tripLaw (hl : tripLaw x) (h : x.tc.trip ≠ .trippedLocal) : tripnHigh x = x.pins.tripn := by
  simp [tripnHigh, drivesTripn, anyCause, causes_of_tripLaw hl h]

theorem senseTripn_untripped (h : x.tc.trip = .armed ∨ x.tc.trip = .rearm) :
    senseTripn x = if tripnHigh x then x else enterRemote x := by
  obtain h | h := h <;> simp only [senseTripn, h]

theorem senseTripn_remote (h : x.tc.trip = .trippedRemote) : senseTripn x = if tripnHigh x then enterRearm x else x := by
  simp only [senseTripn, h]

theorem senseTripn_local (h : x.tc.trip = .trippedLocal) : senseTripn x = x := by simp only [senseTripn, h]

/-! ### The level of TRIPN on a count (R98) -/

theorem tripnMoves_iff (trip : TripState) (high : Bool) : tripnMoves trip high = true ↔
    (trip = .armed ∨ trip = .rearm) ∧ high = false ∨ trip = .trippedRemote ∧ high = true := by
  cases trip <;> simp [tripnMoves]

theorem tripnLow_mem_rows (trip : TripState) (high : Bool) :
    Instr.tripnLow ∈ tripnRows trip high ↔ (trip = .armed ∨ trip = .rearm) ∧ high = false := by
  cases trip <;> cases high <;> simp [tripnRows, tripnMoves]

theorem tripnHigh_mem_rows (trip : TripState) (high : Bool) :
    Instr.tripnHigh ∈ tripnRows trip high ↔ trip = .trippedRemote ∧ high = true := by
  cases trip <;> cases high <;> simp [tripnRows, tripnMoves]

theorem tripn_notMem_fltnRows (old new : Bool) :
    Instr.tripnLow ∉ fltnRows old new ∧ Instr.tripnHigh ∉ fltnRows old new := by
  simp [fltnRows, mem_rowIf]

theorem tripnLow_mem (s : State) : Instr.tripnLow ∈ (runningTick s).pending ↔
    (s.tc.trip = .armed ∨ s.tc.trip = .rearm) ∧ (nextPins s).tripn = false := by
  obtain ⟨hfltn, -⟩ := tripn_notMem_fltnRows s.pins.fltn (nextPins s).fltn
  rw [mem_runningTick_pins rfl, or_iff_right hfltn, tripnLow_mem_rows]

theorem tripnHigh_mem (s : State) : Instr.tripnHigh ∈ (runningTick s).pending ↔
    s.tc.trip = .trippedRemote ∧ (nextPins s).tripn = true := by
  obtain ⟨-, hfltn⟩ := tripn_notMem_fltnRows s.pins.fltn (nextPins s).fltn
  rw [mem_runningTick_pins rfl, or_iff_right hfltn, tripnHigh_mem_rows]

/-- A level of TRIPN that moves the station waits for its command; any other is taken at once. -/
theorem runningTick_tripn (s : State) : (runningTick s).pins.tripn =
    if tripnMoves s.tc.trip (nextPins s).tripn then s.pins.tripn else (nextPins s).tripn := by
  rw [runningTick_eq]
  unfold timed
  rw [timePart_frame]
  rfl

/-- REARM, queued by itself, does its effect in REARM alone (R100). -/
theorem exec_rearm (hr : s.pins.resetn = true) :
    exec .rearm s = .next (if s.tc.trip = .rearm then enterArmed s else s) := goes_high _ _ hr

/-- Settles O21: each level by the trip state through the `senseTripn` lemmas; REARM by `enterArmed_eq`; a count by the rows
of the pins' part. -/
theorem tripnAndRearm : Obligations.TripnAndRearm := by
  refine ⟨fun s hr hl ho => ?_, fun s hr ho => ⟨fun htrip => ?_, fun htrip => ?_⟩, fun s pins hone hpins => ?_⟩
  · have senses (high : Bool) (h : s.tc.trip ≠ .trippedLocal) : tripnHigh (tripnLevel high s) = high :=
      tripnHigh_of_tripLaw (x := tripnLevel high s) hl h
    rw [exec_tripnLow hr, exec_tripnHigh hr]
    refine ⟨fun htrip => ?_, fun htrip => ?_, fun htrip => ?_⟩
    · have hlocal : s.tc.trip ≠ .trippedLocal := by obtain h | h := htrip <;> simp [h]
      rw [senseTripn_untripped (x := tripnLevel false s) htrip, senseTripn_untripped (x := tripnLevel true s) htrip,
        senses false hlocal, senses true hlocal]
      exact ⟨congrArg _ (enterRemote_eq _), rfl⟩
    · have hlocal : s.tc.trip ≠ .trippedLocal := by simp [htrip]
      have hoff : s.pcu.output = .off := output_off_of_notArmed ho (by simp [htrip])
      rw [senseTripn_remote (x := tripnLevel false s) htrip, senseTripn_remote (x := tripnLevel true s) htrip,
        senses false hlocal, senses true hlocal]
      exact ⟨rfl, congrArg _ (enterRearm_eq (x := tripnLevel true s) hoff)⟩
    · rw [senseTripn_local (x := tripnLevel false s) htrip, senseTripn_local (x := tripnLevel true s) htrip]
      exact ⟨rfl, rfl⟩
  · rw [exec_rearm hr, if_neg htrip]
  · have hoff : s.pcu.output = .off := output_off_of_notArmed ho (by simp [htrip])
    rw [exec_rearm hr, if_pos htrip, enterArmed_eq, hoff]
  · subst hpins
    refine ⟨runningTick s, step_of_oneCount s hone, tripnLow_mem s, tripnHigh_mem s, fun hmoves => ?_, fun hlow hhigh => ?_⟩
    · exact (runningTick_tripn s).trans (if_pos ((tripnMoves_iff _ _).2 hmoves))
    · exact (runningTick_tripn s).trans (if_neg fun hmoves => not_or_intro hlow hhigh ((tripnMoves_iff _ _).1 hmoves))

end Sys2Proof.Machine
end

section
namespace Sys2Proof.Machine

variable {s x t : State}

/-! ### The slot law and the mail law over the state's operations (R116, R118, R126, R127, R128) -/

/-- The slot law and the mail law together: what every operation keeps. -/
def mailSafe (s : State) : Prop := slotLaw s ∧ mailLaw s

/-- A mail has at most 3 attempts, and fewer while it has no outcome (R126, R127). -/
def triesLaw (m : OutMail) : Prop := m.attempts ≤ 3 ∧ (m.outcome = none → m.attempts ≤ 2)

/-- The part of the mail law that speaks of MU alone. -/
def queueLaw (mu : MailUnit) : Prop :=
  mu.queue.length ≤ 4 ∧ mu.receipts.length ≤ 4 ∧ (∀ m ∈ mu.queue, triesLaw m) ∧
    (mu.inFlight = true ∨ mu.retryDue = true → ∃ f, openHead mu f)

/-- A MAIL frame waits in its slot, or is on the line and can come back to it (R116, R118). -/
def mailHeld (lc : LineController) (f : TxFrame) : Prop :=
  lc.slots.mail = some f ∨ ∃ own, lc.onLine = some own ∧ own.frame = f ∧ frameKind f = .mail ∧ own.returnable = true

theorem openHead_exists_iff (mu : MailUnit) :
    (∃ f, openHead mu f) ↔ ∃ head rest, mu.queue = head :: rest ∧ head.outcome = none :=
  ⟨fun ⟨_, head, rest, hq, ho, _⟩ => ⟨head, rest, hq, ho⟩, fun ⟨head, rest, hq, ho⟩ => ⟨_, head, rest, hq, ho, rfl⟩⟩

theorem mailLaw_iff (s : State) : mailLaw s ↔ queueLaw s.mu ∧ ∀ f, mailHeld s.lc f → openHead s.mu f := by
  unfold mailLaw queueLaw mailHeld triesLaw
  rw [openHead_exists_iff]
  constructor
  · rintro ⟨hq, hr, ht, hslot, hline, hfly⟩
    refine ⟨⟨hq, hr, ht, hfly⟩, ?_⟩
    rintro f (hf | ⟨own, ho, rfl, hk, hret⟩)
    · exact hslot f hf
    · exact hline own ho hk hret
  · rintro ⟨⟨hq, hr, ht, hfly⟩, hheld⟩
    exact ⟨hq, hr, ht, fun f hf => hheld f (.inl hf), fun own ho hk hret => hheld _ (.inr ⟨own, ho, rfl, hk, hret⟩), hfly⟩

/-- What an operation that fills no MAIL slot leaves of LC: a slot holds the frame it held, or one of its own kind, and a MAIL
frame that is held was held before. -/
structure MailLine (a b : LineController) : Prop where
  slots : ∀ kind f, slotOf b.slots kind = some f → slotOf a.slots kind = some f ∨ frameKind f = kind
  held : ∀ f, mailHeld b f → mailHeld a f

theorem MailLine.refl (lc : LineController) : MailLine lc lc := ⟨fun _ _ => .inl, fun _ => id⟩

/-- An operation that leaves the slots and the own frame on the line alone. -/
theorem mailLine_of_eq {a b : LineController} (hs : b.slots = a.slots) (ho : b.onLine = a.onLine) : MailLine a b :=
  ⟨fun _ _ h => .inl (hs ▸ h), fun _ h => by rwa [mailHeld, hs, ho] at h⟩

/-- All that MU's part of the law reads of MU. -/
def mailCore (mu : MailUnit) : List OutMail × List Receipt × Bool × Bool :=
  (mu.queue, mu.receipts, mu.inFlight, mu.retryDue)

theorem openHead_congr {a b : MailUnit} (h : b.queue = a.queue) (f : TxFrame) : openHead b f ↔ openHead a f := by
  simp only [openHead, h]

theorem queueLaw_congr {a b : MailUnit} (h : mailCore b = mailCore a) : queueLaw b ↔ queueLaw a := by
  simp only [mailCore, Prod.mk.injEq] at h
  obtain ⟨hq, hr, hi, hd⟩ := h
  simp only [queueLaw, openHead_congr hq, hq, hr, hi, hd]

theorem slotLaw_of_mailLine (h : slotLaw x) (k : MailLine x.lc t.lc) : slotLaw t :=
  fun kind f hf => (k.slots kind f hf).elim (h kind f) id

/-- The laws stand where MU's part stands and no MAIL frame is filled. -/
theorem mailSafe_of_mailLine (h : mailSafe x) (hmu : mailCore t.mu = mailCore x.mu) (k : MailLine x.lc t.lc) :
    mailSafe t := by
  obtain ⟨hslot, hmail⟩ := h
  obtain ⟨hq, hheld⟩ := (mailLaw_iff x).1 hmail
  have hqueue : t.mu.queue = x.mu.queue := congrArg Prod.fst hmu
  exact ⟨slotLaw_of_mailLine hslot k,
    (mailLaw_iff t).2 ⟨(queueLaw_congr hmu).2 hq, fun f hf => (openHead_congr hqueue f).2 (hheld f (k.held f hf))⟩⟩

/-- An operation that leaves LC and MU alone. -/
theorem mailSafe_congr (h : mailSafe x) (hlc : t.lc = x.lc) (hmu : t.mu = x.mu) : mailSafe t :=
  mailSafe_of_mailLine h (by rw [hmu]) (hlc ▸ .refl _)

theorem mailSafe_ite {c : Prop} [Decidable c] {a b : State} (ha : c → mailSafe a) (hb : ¬c → mailSafe b) :
    mailSafe (if c then a else b) := by
  split
  · exact ha ‹_›
  · exact hb ‹_›

theorem mailSafe_mapMc {f : Membership → Membership} (h : mailSafe x) : mailSafe (mapMc f x) := mailSafe_congr h rfl rfl

theorem mailSafe_mapLc {f : LineController → LineController} (h : mailSafe x) (hs : (f x.lc).slots = x.lc.slots)
    (ho : (f x.lc).onLine = x.lc.onLine) : mailSafe (mapLc f x) :=
  mailSafe_of_mailLine h rfl (mailLine_of_eq hs ho)

theorem mailSafe_post (e : Event) (h : mailSafe x) : mailSafe (post e x) := mailSafe_congr h rfl rfl

theorem mailSafe_postIf (c : Bool) (e : Event) (h : mailSafe x) : mailSafe (postIf c e x) :=
  mailSafe_congr h (by simp) (by simp)

theorem mailSafe_respond (status : Status) (payload : List Byte) (h : mailSafe x) : mailSafe (respond status payload x) :=
  mailSafe_congr h rfl rfl

theorem mailSafe_answer (status : Status) (h : mailSafe x) : mailSafe (answer status x) := mailSafe_congr h rfl rfl

theorem mailSafe_setStation (to_ : StationState) (h : mailSafe x) : mailSafe (setStation to_ x) := mailSafe_congr h rfl rfl

/-! #### Transmit slots (R116, R117, R118) -/

/-- A frame on the line that is returnable after a frame of a kind has been filled or emptied is of another kind. -/
theorem notReturnable_returnable {kind : FrameKind} {line : Option OwnFrame} {own : OwnFrame}
    (h : notReturnable kind line = some own) (hr : own.returnable = true) :
    line = some own ∧ frameKind own.frame ≠ kind := by
  unfold notReturnable at h
  obtain ⟨o, rfl, ho⟩ := Option.map_eq_some_iff.1 h
  split at ho
  · subst ho; cases hr
  · subst ho; exact ⟨rfl, ‹_›⟩

/-- A kind whose slot is emptied, or filled with another frame: a MAIL frame still held was held before. -/
theorem mailHeld_of_notReturnable {a b : LineController} {kind : FrameKind}
    (hm : ∀ f, b.slots.mail = some f → a.slots.mail = some f) (ho : b.onLine = notReturnable kind a.onLine) (f : TxFrame)
    (h : mailHeld b f) : mailHeld a f := by
  obtain hf | ⟨own, hown, rfl, hk, hr⟩ := h
  · exact .inl (hm f hf)
  · obtain ⟨hline, -⟩ := notReturnable_returnable (ho ▸ hown) hr
    exact .inr ⟨own, hline, rfl, hk, hr⟩

theorem mailLine_fillSlot (f : TxFrame) (hf : frameKind f ≠ .mail) (x : State) : MailLine x.lc (fillSlot f x).lc := by
  cases htx : x.lc.txOn with
  | false => rw [fillSlot_off f x htx]; exact .refl _
  | true =>
    have hslot := fillSlot_on f x htx
    refine ⟨fun kind g hg => ?_, mailHeld_of_notReturnable (kind := frameKind f) (fun g hg => ?_) (by simp [fillSlot, htx])⟩
    · rw [hslot] at hg
      split at hg
      next hk => cases hg; exact .inr hk.symm
      next => exact .inl hg
    · have hmail := hslot .mail
      rw [if_neg (Ne.symm hf)] at hmail
      exact hmail.symm.trans hg

/-- With one slot emptied, a full one is full as before. -/
theorem slotOf_emptied {slots : TxSlots} {kind j : FrameKind} {f : TxFrame} (h : slotOf (setSlot slots kind none) j = some f) :
    slotOf slots j = some f := by
  rw [slotOf_setSlot] at h
  split at h
  · cases h
  · exact h

theorem mailLine_emptySlot (kind : FrameKind) (x : State) : MailLine x.lc (emptySlot kind x).lc := by
  exact ⟨fun k g hg => .inl (slotOf_emptied hg),
    mailHeld_of_notReturnable (kind := kind) (fun _ hf => slotOf_emptied (j := .mail) hf) rfl⟩

theorem mailSafe_fillSlot (f : TxFrame) (hf : frameKind f ≠ .mail) (h : mailSafe x) : mailSafe (fillSlot f x) :=
  mailSafe_of_mailLine h (by simp) (mailLine_fillSlot f hf x)

theorem mailSafe_emptySlot (kind : FrameKind) (h : mailSafe x) : mailSafe (emptySlot kind x) :=
  mailSafe_of_mailLine h rfl (mailLine_emptySlot kind x)

/-- The head of the queue, with no outcome yet, is filled into the MAIL slot (R126, R127). -/
theorem mailSafe_fillHead {f : TxFrame} (h : mailSafe x) (hopen : openHead x.mu f) : mailSafe (fillSlot f x) := by
  have hk : frameKind f = .mail := by obtain ⟨head, rest, -, -, rfl⟩ := hopen; rfl
  cases htx : x.lc.txOn with
  | false => rwa [fillSlot_off f x htx]
  | true =>
    obtain ⟨hslot, hmail⟩ := h
    obtain ⟨hq, hheld⟩ := (mailLaw_iff x).1 hmail
    have filled := fillSlot_on f x htx
    rw [hk] at filled
    refine ⟨fun kind g hg => ?_, (mailLaw_iff _).2 ⟨hq, ?_⟩⟩
    · rw [filled] at hg
      split at hg
      next hkind => cases hg; exact hk.trans hkind.symm
      next => exact hslot kind g hg
    · rintro g (hg | ⟨own, hown, rfl, hmk, hr⟩)
      · have hfg : some f = some g := (filled .mail).symm.trans hg
        exact Option.some.inj hfg ▸ hopen
      · have hown' : notReturnable (frameKind f) x.lc.onLine = some own := by simpa [fillSlot, htx] using hown
        obtain ⟨-, hne⟩ := notReturnable_returnable hown' hr
        exact absurd (hmk.trans hk.symm) hne

/-- LC drops frames, or makes the one on the line not returnable (R118, R119, R120). -/
theorem mailLine_of_dropped {a b : LineController} (hs : b.slots = .empty ∨ b.slots = a.slots)
    (ho : ∀ own, b.onLine = some own → own.returnable = false) : MailLine a b := by
  have slots (kind : FrameKind) (f : TxFrame) (hf : slotOf b.slots kind = some f) : slotOf a.slots kind = some f := by
    obtain hs | hs := hs
    · rw [hs] at hf; cases kind <;> cases hf
    · rwa [hs] at hf
  refine ⟨fun kind f hf => .inl (slots kind f hf), ?_⟩
  rintro f (hf | ⟨own, hown, -, -, hr⟩)
  · exact .inl (slots .mail f hf)
  · simp [ho own hown] at hr

/-- No frame on the line is returnable once every one has been made not returnable. -/
theorem returnable_dropped {line : Option OwnFrame} {own : OwnFrame}
    (h : line.map (fun o => { o with returnable := false }) = some own) : own.returnable = false := by
  obtain ⟨o, -, rfl⟩ := Option.map_eq_some_iff.1 h
  rfl

theorem mailSafe_emptyAllSlots (h : mailSafe x) : mailSafe (emptyAllSlots x) :=
  mailSafe_of_mailLine h rfl (mailLine_of_dropped (.inl rfl) fun _ => returnable_dropped)

theorem mailSafe_transmitterOff (h : mailSafe x) : mailSafe (transmitterOff x) :=
  mailSafe_of_mailLine h rfl (mailLine_of_dropped (.inr rfl) fun _ => returnable_dropped)

theorem mailSafe_planReply (a r : Bool) (h : mailSafe x) : mailSafe (planReply a r x) := mailSafe_mapLc h rfl rfl

theorem mailSafe_clearLine (h : mailSafe x) : mailSafe (clearLine x) :=
  mailSafe_of_mailLine h rfl (mailLine_of_dropped (.inr rfl) fun _ h => nomatch h)

/-- A change of the own frame on the line that keeps its frame where it is a MAIL, and makes none returnable. -/
theorem mailSafe_mapOwn {g : OwnFrame → OwnFrame} (h : mailSafe x) (hlc : t.lc = { x.lc with
      txOn := t.lc.txOn, failures := t.lc.failures, onLine := x.lc.onLine.map g }) (hmu : t.mu = x.mu)
    (hg : ∀ o, frameKind (g o).frame = .mail → (g o).frame = o.frame ∧ ((g o).returnable = true → o.returnable = true)) :
    mailSafe t := by
  refine mailSafe_of_mailLine h (by rw [hmu]) ?_
  rw [hlc]
  refine ⟨fun _ _ => .inl, ?_⟩
  rintro f (hf | ⟨own, hown, rfl, hk, hr⟩)
  · exact .inl hf
  · obtain ⟨o, ho, rfl⟩ := Option.map_eq_some_iff.1 hown
    obtain ⟨hframe, hret⟩ := hg o hk
    exact .inr ⟨o, ho, hframe.symm, hk, hret hr⟩

/-! #### Complete heads leave (R128) -/

/-- No MAIL frame waits, nor is one on the line that can come back. -/
def noMailHeld (lc : LineController) : Prop := ∀ f, ¬mailHeld lc f

/-- The laws hold where no MAIL frame is held and MU's part holds. -/
theorem mailSafe_of_noMail (hs : slotLaw x) (hl : noMailHeld x.lc) (hq : queueLaw x.mu) : mailSafe x :=
  ⟨hs, (mailLaw_iff x).2 ⟨hq, fun f hf => absurd hf (hl f)⟩⟩

theorem noMailHeld_emptySlot (x : State) : noMailHeld (emptySlot .mail x).lc := by
  rintro f (hf | ⟨own, hown, rfl, hk, hr⟩)
  · cases hf
  · obtain ⟨-, hne⟩ := notReturnable_returnable (kind := .mail) (line := x.lc.onLine) hown hr
    exact hne hk

/-- The head of the queue is the only mail that can be held. -/
theorem openHead_cons {mu : MailUnit} {head : OutMail} {rest : List OutMail} (hq : mu.queue = head :: rest) (f : TxFrame) :
    openHead mu f ↔ head.outcome = none ∧ f = mailFrame head := by
  simp [openHead, hq]

/-- Behind a complete head nothing is held, in flight or due (R126, R127). -/
theorem mailSafe_headDone {head : OutMail} {rest : List OutMail} (h : mailSafe x) (hq : x.mu.queue = head :: rest)
    (hdone : head.outcome ≠ none) : noMailHeld x.lc ∧ x.mu.inFlight = false ∧ x.mu.retryDue = false := by
  obtain ⟨-, hmail⟩ := h
  obtain ⟨⟨-, -, -, hfly⟩, hheld⟩ := (mailLaw_iff x).1 hmail
  have shut (f : TxFrame) : ¬openHead x.mu f := fun hf => hdone ((openHead_cons hq f).1 hf).1
  have idle (b : Bool) (hb : b = true → ∃ f, openHead x.mu f) : b = false :=
    Bool.eq_false_iff.2 fun ht => (hb ht).elim shut
  exact ⟨fun f hf => shut f (hheld f hf), idle _ fun ht => hfly (.inl ht), idle _ fun ht => hfly (.inr ht)⟩

/-- A complete head is off the queue and its receipt in the list. -/
theorem mailSafe_headLeaves {head : OutMail} {rest : List OutMail} (r : Receipt) (h : mailSafe x)
    (hq : x.mu.queue = head :: rest) (hdone : head.outcome ≠ none) (hroom : x.mu.receipts.length < 4) :
    mailSafe (post .receipt (mapMu (fun mu => { mu with queue := rest, receipts := mu.receipts ++ [r] }) x)) := by
  obtain ⟨hl, hfly, hdue⟩ := mailSafe_headDone h hq hdone
  obtain ⟨hs, hmail⟩ := h
  obtain ⟨⟨hlen, -, htries, -⟩, -⟩ := (mailLaw_iff x).1 hmail
  rw [hq] at hlen htries
  refine mailSafe_of_noMail hs hl ⟨Nat.le_of_succ_le hlen, ?_, fun m hm => htries m (List.mem_cons_of_mem _ hm), ?_⟩
  · simpa using hroom
  · simp [hfly, hdue]

theorem mailSafe_completeHeads (fuel : Nat) (h : mailSafe x) : mailSafe (completeHeads fuel x) := by
  induction fuel generalizing x with
  | zero => exact h
  | succ n ih =>
    unfold completeHeads
    split
    · exact h
    next head rest hq =>
      split
      · exact h
      next outcome ho =>
        refine mailSafe_ite (fun hroom => ?_) fun _ => h
        have left := mailSafe_headLeaves (receiptOf head outcome) h hq (by simp [ho]) hroom
        dsimp only
        split
        · exact left
        next next_ rest' =>
          refine mailSafe_ite (fun hnew => ?_) fun _ => ih left
          exact mailSafe_fillHead left ⟨next_, rest', rfl, by simpa using hnew, rfl⟩

theorem mailSafe_settleQueue (h : mailSafe x) : mailSafe (settleQueue x) := mailSafe_completeHeads _ h

/-- The head is given its outcome, whatever of it was held, in flight or due before; it has had 3 attempts at most. -/
theorem mailSafe_finishHead {head : OutMail} {rest : List OutMail} (o : MailOutcome) (hs : slotLaw x)
    (hq : x.mu.queue = head :: rest) (hlen : x.mu.queue.length ≤ 4) (hr : x.mu.receipts.length ≤ 4)
    (hhead : head.attempts ≤ 3) (hrest : ∀ m ∈ rest, triesLaw m) : mailSafe (finishHead o x) := by
  refine mailSafe_settleQueue (mailSafe_of_noMail ?_ (noMailHeld_emptySlot _) ?_)
  · exact slotLaw_of_mailLine (x := x) hs (mailLine_emptySlot .mail x)
  · simp only [emptySlot_frame, mapMu_mu, hq, mapHead]
    rw [hq] at hlen
    exact ⟨hlen, hr, List.forall_mem_cons.2 ⟨⟨hhead, nofun⟩, hrest⟩, by simp⟩

/-! #### The operations of MU (R126, R127, R129, R134) -/

/-- Of a queue that meets the law: its length, the receipts, and the attempts of the head and of the mails behind it. -/
theorem mailSafe_queue {head : OutMail} {rest : List OutMail} (h : mailSafe x) (hq : x.mu.queue = head :: rest) :
    x.mu.queue.length ≤ 4 ∧ x.mu.receipts.length ≤ 4 ∧ triesLaw head ∧ ∀ m ∈ rest, triesLaw m := by
  obtain ⟨-, hmail⟩ := h
  obtain ⟨⟨hlen, hr, htries, -⟩, -⟩ := (mailLaw_iff x).1 hmail
  rw [hq] at htries
  exact ⟨hlen, hr, List.forall_mem_cons.1 htries⟩

/-- A mail in flight, or a retry due, is of a head with no outcome yet. -/
theorem mailSafe_flying (h : mailSafe x) : x.mu.inFlight = true ∨ x.mu.retryDue = true → ∃ f, openHead x.mu f := by
  obtain ⟨-, hmail⟩ := h
  obtain ⟨⟨-, -, -, hfly⟩, -⟩ := (mailLaw_iff x).1 hmail
  exact hfly

theorem mailSafe_headOpen {head : OutMail} {rest : List OutMail} (h : mailSafe x) (hq : x.mu.queue = head :: rest)
    (hfly : x.mu.inFlight = true ∨ x.mu.retryDue = true) : head.outcome = none := by
  obtain ⟨f, hf⟩ := mailSafe_flying h hfly
  exact ((openHead_cons hq f).1 hf).1

/-- A change of MU that keeps the head open where it was, and brings no flight and no retry of another mail. -/
theorem mailSafe_mapMu (g : MailUnit → MailUnit) (h : mailSafe x) (hlen : (g x.mu).queue.length = x.mu.queue.length)
    (hr : (g x.mu).receipts = x.mu.receipts) (htries : ∀ m ∈ (g x.mu).queue, triesLaw m)
    (hopen : ∀ f, openHead x.mu f → openHead (g x.mu) f)
    (hfly : (g x.mu).inFlight = true ∨ (g x.mu).retryDue = true → ∃ f, openHead x.mu f) : mailSafe (mapMu g x) := by
  obtain ⟨hs, hmail⟩ := h
  obtain ⟨⟨hlen', hreceipts, -, -⟩, hheld⟩ := (mailLaw_iff x).1 hmail
  refine ⟨hs, (mailLaw_iff _).2 ⟨⟨hlen.trans_le hlen', hr ▸ hreceipts, htries, fun h => ?_⟩, fun f hf => ?_⟩⟩
  · exact (hfly h).imp hopen
  · exact hopen f (hheld f hf)

/-- The queue and the receipts stand, and a flight or a due retry may end. -/
theorem mailSafe_calmed (g : MailUnit → MailUnit) (h : mailSafe x) (hq : (g x.mu).queue = x.mu.queue)
    (hr : (g x.mu).receipts = x.mu.receipts)
    (hfly : (g x.mu).inFlight = true ∨ (g x.mu).retryDue = true → x.mu.inFlight = true ∨ x.mu.retryDue = true) :
    mailSafe (mapMu g x) := by
  obtain ⟨-, hmail⟩ := id h
  obtain ⟨⟨-, -, htries, hopen⟩, -⟩ := (mailLaw_iff x).1 hmail
  exact mailSafe_mapMu g h (congrArg _ hq) hr (hq ▸ htries) (fun f => (openHead_congr hq f).2) (hopen ∘ hfly)

/-- MU changes the head of the queue, but for the fields of its frame and its outcome. -/
theorem mailSafe_headChanged {head : OutMail} {rest : List OutMail} (f : OutMail → OutMail) (g : MailUnit → MailUnit)
    (h : mailSafe x) (hq : x.mu.queue = head :: rest) (hg : (g x.mu).queue = mapHead f x.mu.queue)
    (hr : (g x.mu).receipts = x.mu.receipts) (hframe : mailFrame (f head) = mailFrame head)
    (ho : (f head).outcome = head.outcome) (htries : triesLaw (f head))
    (hfly : (g x.mu).inFlight = true ∨ (g x.mu).retryDue = true → x.mu.inFlight = true ∨ x.mu.retryDue = true) :
    mailSafe (mapMu g x) := by
  obtain ⟨-, -, -, hrest⟩ := mailSafe_queue h hq
  have hg' : (g x.mu).queue = f head :: rest := by rw [hg, hq]; rfl
  refine mailSafe_mapMu g h (by rw [hg', hq]; rfl) hr (hg' ▸ List.forall_mem_cons.2 ⟨htries, hrest⟩) (fun frame hf => ?_)
    (mailSafe_flying h ∘ hfly)
  rw [openHead_cons hq] at hf
  rwa [openHead_cons hg', ho, hframe]

theorem mailSafe_mailReported (ack refuse : Bool) (h : mailSafe x) : mailSafe (mailReported ack refuse x) := by
  unfold mailReported
  refine mailSafe_ite (fun _ => h) fun hfly => ?_
  split
  · exact mailSafe_calmed _ h rfl rfl fun hd => .inr (hd.resolve_left Bool.false_ne_true)
  next head rest hq =>
    obtain ⟨hlen, hr, ⟨-, htries⟩, hrest⟩ := mailSafe_queue h hq
    have hopen : head.outcome = none := mailSafe_headOpen h hq (.inl (by simpa using hfly))
    have h2 : head.attempts ≤ 2 := htries hopen
    have finish (o : MailOutcome) : mailSafe (finishHead o (mapMu (fun mu => { mu with
        queue := mapHead (fun m => { m with attempts := head.attempts + 1 }) mu.queue, inFlight := false }) x)) :=
      mailSafe_finishHead (head := { head with attempts := head.attempts + 1 }) (rest := rest) o h.1 (by simp [hq, mapHead])
        (by simpa [hq, mapHead] using hlen) hr (Nat.succ_le_succ h2) hrest
    refine mailSafe_ite (fun _ => finish _) fun _ => mailSafe_ite (fun _ => finish _) fun _ =>
      mailSafe_ite (fun _ => finish _) fun h3 => ?_
    exact mailSafe_headChanged (fun m => { m with attempts := head.attempts + 1 }) (fun mu => { mu with
        queue := mapHead (fun m => { m with attempts := head.attempts + 1 }) mu.queue, inFlight := false, retryDue := true })
      h hq rfl rfl rfl rfl
      ⟨Nat.succ_le_succ h2, fun _ => Nat.le_of_lt_succ (Nat.lt_of_not_le h3)⟩ fun _ => .inl (by simpa using hfly)

theorem mailSafe_mailFailed (h : mailSafe x) : mailSafe (mailFailed x) := by
  have calmed : mailSafe (mapMu (fun mu => { mu with inFlight := false }) x) :=
    mailSafe_calmed _ h rfl rfl fun hd => .inr (hd.resolve_left Bool.false_ne_true)
  unfold mailFailed
  refine mailSafe_ite (fun _ => h) fun _ => ?_
  dsimp only
  split
  · exact calmed
  next head rest hq =>
    obtain ⟨hlen, hr, ⟨htries, -⟩, hrest⟩ := mailSafe_queue h hq
    exact mailSafe_ite (fun _ => mailSafe_finishHead _ h.1 hq hlen hr htries hrest) fun _ => calmed

theorem mailSafe_retryHead (h : mailSafe x) : mailSafe (retryHead x) := by
  unfold retryHead
  split
  · exact h
  next head rest hq =>
    refine mailSafe_ite (fun hdue => ?_) fun _ => h
    have hopen : head.outcome = none := mailSafe_headOpen h hq (.inr hdue)
    exact mailSafe_fillHead
      (mailSafe_calmed _ h rfl rfl fun hi => .inl (hi.resolve_right Bool.false_ne_true)) ⟨head, rest, hq, hopen, rfl⟩

/-- The mails behind the head that are lost keep their places, with no attempt counted (R129). -/
theorem mailSafe_mailsLost (id : StationId) (h : mailSafe x) : mailSafe (mailsLost id x) := by
  have hmu := mailsLost_mu id x
  cases hq : x.mu.queue with
  | nil =>
    have hqueue : (mailsLost id x).mu.queue = x.mu.queue := by simp [hmu, hq, loseBehind_nil]
    exact mailSafe_calmed _ h hqueue (by rw [clearFilter_eq]) (by rw [clearFilter_eq]; exact fun h => h)
  | cons head rest =>
    obtain ⟨-, -, hhead, hrest⟩ := mailSafe_queue h hq
    have hqueue : (mailsLost id x).mu.queue = head :: rest.map fun m =>
        if m.destination = id ∧ m.outcome = none then { m with outcome := some .undelivered } else m := by
      rw [hmu, hq, ← loseBehind_cons]
    refine mailSafe_mapMu _ h ?_ (by rw [clearFilter_eq]) ?_ ?_ (by rw [clearFilter_eq]; exact mailSafe_flying h)
    · exact (congrArg List.length hqueue).trans (by simp [hq])
    · refine fun m hm => ?_
      obtain rfl | hm := List.mem_cons.1 (hqueue ▸ hm)
      · exact hhead
      · obtain ⟨m', hm', rfl⟩ := List.mem_map.1 hm
        obtain ⟨h3, h2⟩ := hrest m' hm'
        split
        · exact ⟨h3, nofun⟩
        · exact ⟨h3, h2⟩
    · exact fun f hf => (openHead_cons hqueue f).2 ((openHead_cons hq f).1 hf)

theorem mailSafe_destinationGone (id : StationId) (h : mailSafe x) : mailSafe (destinationGone id x) := by
  have lost := mailSafe_mailsLost id h
  unfold destinationGone
  rw [← mailsLost]
  dsimp only
  split
  · exact lost
  next head rest hq =>
    obtain ⟨hlen, hr, ⟨h3, h2⟩, hrest⟩ := mailSafe_queue lost hq
    refine mailSafe_ite (fun _ => mailSafe_ite (fun _ => ?_) fun _ => ?_) fun _ => lost
    · exact mailSafe_emptySlot _
        (mailSafe_headChanged (fun m => { m with destLost := true }) _ lost hq rfl rfl rfl rfl ⟨h3, h2⟩ fun h => h)
    · exact mailSafe_finishHead _ lost.1 hq hlen hr h3 hrest

/-- MU keeps nothing of what the law speaks of (R134). -/
theorem mailSafe_leaveMu (h : mailSafe x) : mailSafe (leaveMu x) := by
  refine mailSafe_of_noMail ?_ (noMailHeld_emptySlot _) ?_
  · exact slotLaw_of_mailLine (x := x) h.1 (mailLine_emptySlot .mail x)
  · simp [leaveMu, queueLaw]

/-- A mail goes to the tail of a queue that has room, and is filled where it is the head (R124, R125, R126). -/
theorem mailSafe_queueMail (id : StationId) (data : List Byte) (h : mailSafe x) (hroom : x.mu.queue.length < 4) :
    mailSafe (queueMail id data x) := by
  obtain ⟨hs, hmail⟩ := h
  obtain ⟨⟨-, hr, htries, hfly⟩, hheld⟩ := (mailLaw_iff x).1 hmail
  have kept (mail : OutMail) (f : TxFrame) (hf : openHead x.mu f) :
      openHead { x.mu with queue := x.mu.queue ++ [mail], ticket := x.mu.ticket + 1 } f := by
    obtain ⟨head, rest, hq, ho, rfl⟩ := hf
    exact ⟨head, rest ++ [mail], by simp [hq], ho, rfl⟩
  have queued (mail : OutMail) (hm : triesLaw mail) :
      mailSafe (mapMu (fun mu => { mu with queue := mu.queue ++ [mail], ticket := mu.ticket + 1 }) x) := by
    refine ⟨hs, (mailLaw_iff _).2 ⟨⟨?_, hr, ?_, fun h => (hfly h).imp (kept mail)⟩, fun f hf => kept mail f (hheld f hf)⟩⟩
    · simpa using hroom
    · exact List.forall_mem_append.2 ⟨htries, List.forall_mem_singleton.2 hm⟩
  unfold queueMail
  refine mailSafe_ite (fun hempty => ?_) fun _ => queued _ ⟨Nat.zero_le _, fun _ => Nat.zero_le _⟩
  refine mailSafe_fillHead (queued _ ⟨Nat.zero_le _, fun _ => Nat.zero_le _⟩) ⟨_, [], ?_, rfl, rfl⟩
  simp [List.isEmpty_iff.1 hempty]

end Sys2Proof.Machine
end

section
namespace Sys2Proof.Machine

variable {s x t : State}

/-! ### The slot law and the mail law over the operations of MC and TC (R33, R41, R116) -/

theorem mailSafe_fillTrip (cause : TripCause) (h : mailSafe x) : mailSafe (fillTrip cause x) := by
  unfold fillTrip
  exact mailSafe_ite (fun _ => mailSafe_fillSlot _ (by simp [frameKind]) h) fun _ => h

theorem mailSafe_latchCause (cause : TripCause) (h : mailSafe x) : mailSafe (latchCause cause x) := by
  have filled (f : TripController → TripController) : mailSafe (fillTrip cause (mapTc f x)) :=
    mailSafe_fillTrip cause (mailSafe_congr h rfl rfl)
  unfold latchCause
  exact mailSafe_ite (fun _ => h) fun _ => mailSafe_ite (fun _ => filled _) fun _ => mailSafe_congr (filled _) rfl rfl

theorem mailSafe_clearCauses (h : mailSafe x) : mailSafe (clearCauses x) := by
  have emptied : mailSafe (emptySlot .trip
      (mapTc (fun tc => { tc with causes := { pin := false, command := false, line := false } }) x)) :=
    mailSafe_emptySlot .trip (mailSafe_congr h rfl rfl)
  exact mailSafe_ite (fun _ => mailSafe_congr emptied (by simp) (by simp)) fun _ => mailSafe_congr emptied rfl rfl

theorem mailSafe_setEntryState (id : StationId) (state : EntryState) (fresh : Bool) (h : mailSafe x) :
    mailSafe (setEntryState id state fresh x) := by
  unfold setEntryState
  refine mailSafe_ite (fun _ => h) fun _ => mailSafe_ite (fun _ => h) fun _ => ?_
  have changed : mailSafe (postIf (state == .lost) .peerLost
      (mapEntry id (fun e => { e with state := state, silence := if fresh then 0 else e.silence }) x)) :=
    mailSafe_congr h (by simp) (by simp)
  exact mailSafe_ite (fun _ => mailSafe_destinationGone _ changed) fun _ => changed

theorem mailSafe_forEachId {f : StationId → State → State} (hf : ∀ id y, mailSafe y → mailSafe (f id y)) (h : mailSafe x) :
    mailSafe (forEachId f x) := by
  unfold forEachId
  generalize List.finRange 32 = ids
  induction ids generalizing x with
  | nil => exact h
  | cons id ids ih => exact ih (hf id x h)

theorem mailSafe_countSilenceOf (n : Nat) (id : StationId) (h : mailSafe x) : mailSafe (countSilenceOf n id x) := by
  have counted (f : RosterEntry → RosterEntry) : mailSafe (mapEntry id f x) := mailSafe_congr h (by simp) (by simp)
  unfold countSilenceOf
  exact mailSafe_ite (fun _ => h) fun _ => mailSafe_ite
    (fun _ => mailSafe_ite (fun _ => mailSafe_setEntryState _ _ _ (counted _)) fun _ => counted _) fun _ => h

theorem mailSafe_countSilence (n : Nat) (h : mailSafe x) : mailSafe (countSilence n x) := by
  unfold countSilence
  exact mailSafe_ite (fun _ => mailSafe_forEachId (fun id _ => mailSafe_countSilenceOf n id) h) fun _ => h

theorem mailSafe_adoptMask (mask : MemberMask) (from_ : Option StationId) (h : mailSafe x) :
    mailSafe (adoptMask mask from_ x) :=
  mailSafe_forEachId (fun id _ => mailSafe_setEntryState id _ _) h

theorem mailSafe_fillBeacon (cfg : ConfigRecord) (mask : MemberMask) (handover : Bool) (h : mailSafe x) :
    mailSafe (fillBeacon cfg mask handover x) := mailSafe_mapMc (mailSafe_fillSlot _ (by simp [frameKind]) h)

theorem mailSafe_removeBeacon (h : mailSafe x) : mailSafe (removeBeacon x) := mailSafe_mapMc (mailSafe_emptySlot _ h)

theorem mailSafe_fillJoin (h : mailSafe x) : mailSafe (fillJoin x) := by
  unfold fillJoin
  split
  · exact h
  · exact mailSafe_fillSlot _ (by simp [frameKind]) (mailSafe_mapMc h)

theorem mailSafe_fillLeave (h : mailSafe x) : mailSafe (fillLeave x) := mailSafe_fillSlot _ (by simp [frameKind]) h

theorem mailSafe_fillStatus (c : Nat) (h : mailSafe x) : mailSafe (fillStatus c x) := by
  unfold fillStatus
  split
  · split
    · exact mailSafe_ite (fun _ => mailSafe_mapMc (mailSafe_fillSlot _ (by simp [frameKind]) h)) fun _ => h
    · exact h
  · exact h

theorem mailSafe_giveTarget (place : Bool) (h : mailSafe x) : mailSafe (giveTarget place x) :=
  mailSafe_congr h (by simp) (by simp)

theorem mailSafe_setEpoch (n : EpochNumber) (h : mailSafe x) : mailSafe (setEpoch n x) :=
  mailSafe_congr h (by simp) (by simp)

theorem mailSafe_setRole (r : Role) (h : mailSafe x) : mailSafe (setRole r x) := mailSafe_mapMc h

theorem mailSafe_setRecord (r : Option EpochRecord) (h : mailSafe x) : mailSafe (setRecord r x) := mailSafe_mapMc h

theorem mailSafe_dropSample (h : mailSafe x) : mailSafe (dropSample x) := mailSafe_congr h rfl rfl

theorem mailSafe_measureBeacon (b : Beacon) (h : mailSafe x) : mailSafe (measureBeacon b x) :=
  mailSafe_congr h (by simp) (by simp)

theorem mailSafe_lockAsReference (h : mailSafe x) : mailSafe (lockAsReference x) := mailSafe_congr h (by simp) (by simp)

/-! #### Leaving the line, joining, elections, founding -/

/-- MC's frames on the line become stale, and those of TC and MU stand (R21, R33). -/
theorem staleOwn_eq_map (line : Option OwnFrame) : staleOwn line =
    line.map fun o => if mcKind (frameKind o.frame) then { o with stale := true } else o := by
  unfold staleOwn
  congr
  funext o
  cases hk : frameKind o.frame <;> rfl

theorem mailSafe_emptyMcSlots (keep : Bool) (h : mailSafe x) : mailSafe (emptyMcSlots keep x) := by
  have emptied : mailSafe (emptySlot .status (emptySlot .join (removeBeacon x))) :=
    mailSafe_emptySlot _ (mailSafe_emptySlot _ (mailSafe_removeBeacon h))
  have left := mailSafe_ite (c := keep = true) (fun _ => emptied) fun _ => mailSafe_emptySlot .leave emptied
  refine mailSafe_mapOwn (g := fun o => if mcKind (frameKind o.frame) then { o with stale := true } else o) left ?_ rfl
    fun o _ => ?_
  · rw [← staleOwn_eq_map]; rfl
  · split <;> exact ⟨rfl, id⟩

theorem mailSafe_leaveLine (keep : Bool) (to_ : StationState) (h : mailSafe x) : mailSafe (leaveLine keep to_ x) := by
  have left : mailSafe (leavePcu (mapMc (leftMembership to_) (emptyMcSlots keep x))) :=
    mailSafe_congr (mailSafe_emptyMcSlots keep h) rfl rfl
  exact mailSafe_congr (mailSafe_leaveMu left) (by simp [leaveLine]) (by simp [leaveLine])

theorem mailSafe_startListening (h : mailSafe x) : mailSafe (startListening x) :=
  mailSafe_setStation _ (mailSafe_mapMc (mailSafe_emptyMcSlots _ h))

theorem mailSafe_joinFails (h : mailSafe x) : mailSafe (joinFails x) :=
  mailSafe_startListening (mailSafe_post _ (mailSafe_leaveLine _ _ h))

theorem mailSafe_countTry {goOn : State → State} (hg : ∀ y, mailSafe y → mailSafe (goOn y)) (h : mailSafe x) :
    mailSafe (countTry goOn x) := by
  unfold countTry
  exact mailSafe_ite (fun _ => mailSafe_joinFails (mailSafe_mapMc h)) fun _ => hg _ (mailSafe_mapMc h)

theorem mailSafe_leaveDone (h : mailSafe x) : mailSafe (leaveDone x) := mailSafe_post _ (mailSafe_leaveLine _ _ h)

theorem mailSafe_enterMismatch (h : mailSafe x) : mailSafe (enterMismatch x) :=
  mailSafe_post _ (mailSafe_transmitterOff (mailSafe_emptyAllSlots (mailSafe_leaveLine _ _ h)))

theorem mailSafe_isolate (h : mailSafe x) : mailSafe (isolate x) := by
  have off := mailSafe_emptyAllSlots (mailSafe_transmitterOff h)
  have left := mailSafe_post .isolated (mailSafe_leaveLine false .isolated off)
  have stays := mailSafe_post .isolated (mailSafe_setStation .isolated off)
  unfold isolate
  dsimp only
  split <;> assumption

theorem mailSafe_startElection (h : mailSafe x) : mailSafe (startElection x) := by
  unfold startElection
  refine mailSafe_ite (fun _ => ?_) fun _ => h
  cases x.mc.record.bind (·.reference) with
  | none => exact mailSafe_ite (fun _ => mailSafe_mapMc h) fun _ => mailSafe_mapMc h
  | some r =>
    have lost := mailSafe_setEntryState r .lost false h
    exact mailSafe_ite (fun _ => mailSafe_mapMc lost) fun _ => mailSafe_mapMc lost

theorem mailSafe_endElection (h : mailSafe x) : mailSafe (endElection x) := by
  have removed := mailSafe_ite (c := (x.mc.election.isSome || x.mc.role = .candidate) = true)
    (fun _ => mailSafe_removeBeacon h) fun _ => h
  exact mailSafe_mapMc (mailSafe_ite (fun _ => mailSafe_mapMc removed) fun _ => removed)

theorem mailSafe_leaveAsFollower (h : mailSafe x) : mailSafe (leaveAsFollower x) := by
  have removed := mailSafe_ite (c := x.mc.role = .candidate) (fun _ => mailSafe_removeBeacon h) fun _ => h
  exact mailSafe_fillLeave (mailSafe_setStation _ (mailSafe_mapMc removed))

theorem mailSafe_found (cfg : ConfigRecord) (h : mailSafe x) : mailSafe (found cfg x) := by
  have member : mailSafe (setStation .member (mapMc (fun mc => { mc with listenTimer := none }) x)) :=
    mailSafe_setStation _ (mailSafe_mapMc h)
  have masked := mailSafe_adoptMask (maskSingle x.sid) none (mailSafe_setRecord
    (some (referenceRecord cfg x.sid 0 (maskSingle x.sid))) (mailSafe_setRole .reference member))
  exact mailSafe_post _ (mailSafe_post _ (mailSafe_fillBeacon _ _ _
    (mailSafe_giveTarget _ (mailSafe_lockAsReference (mailSafe_setEpoch _ masked)))))

/-! #### Beacons -/

theorem mailSafe_enterJoining (h : mailSafe x) : mailSafe (enterJoining x) :=
  mailSafe_fillJoin (mailSafe_setStation _ (mailSafe_mapMc h))

theorem mailSafe_takeAdmission (h : mailSafe x) : mailSafe (takeAdmission x) :=
  mailSafe_post _ (mailSafe_emptySlot _ (mailSafe_setStation _ (mailSafe_mapMc h)))

theorem mailSafe_displace (h : mailSafe x) : mailSafe (displace x) :=
  mailSafe_post _ (mailSafe_enterJoining (mailSafe_mapMc (mailSafe_removeBeacon h)))

theorem mailSafe_acceptState (before : StationState) (admitted yielded : Bool) (b : Beacon) (h : mailSafe x) :
    mailSafe (acceptState before admitted yielded b x) := by
  unfold acceptState
  split
  · exact mailSafe_enterJoining h
  · exact mailSafe_ite (fun _ => mailSafe_takeAdmission h) fun _ => h
  · exact mailSafe_ite (fun _ => h) fun _ => mailSafe_displace h
  · exact mailSafe_ite (fun _ => mailSafe_ite (fun _ => mailSafe_fillLeave (mailSafe_mapMc h)) fun _ => h) fun _ =>
      mailSafe_leaveDone h
  · exact h

theorem mailSafe_acceptBeacon (cfg : ConfigRecord) (src : StationId) (b : Beacon) (h : mailSafe x) :
    mailSafe (acceptBeacon cfg src b x) := by
  have yielded := mailSafe_ite (c := x.mc.role = .reference)
    (fun _ => mailSafe_setRole .follower (mailSafe_removeBeacon h)) fun _ => h
  have recorded := mailSafe_setRecord (acceptedRecord cfg src b x) yielded
  have roled := mailSafe_ite (c := takesRole b x = true) (fun _ => mailSafe_setRole .reference recorded) fun _ =>
    mailSafe_ite (c := admits b x = true) (fun _ => mailSafe_setRole .follower recorded) fun _ => recorded
  have masked := mailSafe_giveTarget (admits b x)
    (mailSafe_adoptMask b.mask (if b.handover then some src else none) roled)
  have timed := mailSafe_ite (c := takesRole b x = true)
    (fun _ => mailSafe_dropSample (mailSafe_lockAsReference masked)) fun _ => mailSafe_measureBeacon b masked
  exact mailSafe_postIf _ _ (mailSafe_postIf _ _ (mailSafe_acceptState _ _ _ _ (mailSafe_endElection timed)))

theorem mailSafe_deliverBeacon (src : StationId) (b : Beacon) (h : mailSafe x) : mailSafe (deliverBeacon src b x) := by
  unfold deliverBeacon
  split
  · exact mailSafe_dropSample h
  · exact mailSafe_ite
      (fun _ => mailSafe_ite (fun _ => mailSafe_acceptBeacon _ _ _ h) fun _ => mailSafe_enterMismatch (mailSafe_dropSample h))
      fun _ => mailSafe_ite (fun _ => mailSafe_acceptBeacon _ _ _ h) fun _ => mailSafe_postIf _ _ (mailSafe_dropSample h)

theorem mailSafe_joinOutcome (ack refuse : Bool) (h : mailSafe x) : mailSafe (joinOutcome ack refuse x) := by
  unfold joinOutcome
  exact mailSafe_ite (fun _ => mailSafe_ite (fun _ => mailSafe_post _ (mailSafe_leaveLine _ _ h)) fun _ =>
    mailSafe_ite (fun _ => mailSafe_mapMc h) fun _ => mailSafe_countTry (fun _ => mailSafe_mapMc) h) fun _ => h

theorem mailSafe_becomeReference (cfg : ConfigRecord) (b : Beacon) (h : mailSafe x) :
    mailSafe (becomeReference cfg b x) := by
  have recorded : mailSafe (setRecord (some (referenceRecord cfg x.sid b.epoch b.mask)) (setRole .reference x)) :=
    mailSafe_congr h rfl rfl
  exact mailSafe_postIf _ _ (mailSafe_postIf _ _ (mailSafe_mapMc
    (mailSafe_lockAsReference (mailSafe_giveTarget _ (mailSafe_adoptMask _ _ recorded)))))

theorem mailSafe_beaconSent (b : Beacon) (h : mailSafe x) : mailSafe (beaconSent b x) := by
  unfold beaconSent
  split
  · exact h
  · exact mailSafe_ite (fun _ => mailSafe_becomeReference _ _ h) fun _ =>
      mailSafe_ite (fun _ => mailSafe_leaveDone h) fun _ => h

/-! #### The epoch boundary -/

theorem mailSafe_candidateFill (cfg : ConfigRecord) (h : mailSafe x) : mailSafe (candidateFill cfg x) := by
  unfold candidateFill
  exact mailSafe_ite (fun _ => mailSafe_fillBeacon _ _ _ h) fun _ => h

theorem mailSafe_referenceBoundary (cfg : ConfigRecord) (h : mailSafe x) : mailSafe (referenceBoundary cfg x) :=
  mailSafe_fillBeacon _ _ _ (mailSafe_postIf _ _ (mailSafe_giveTarget _ (mailSafe_mapMc (mailSafe_adoptMask _ _ h))))

theorem mailSafe_handoverBoundary (cfg : ConfigRecord) (h : mailSafe x) : mailSafe (handoverBoundary cfg x) := by
  unfold handoverBoundary
  exact mailSafe_ite (fun _ => mailSafe_leaveDone (mailSafe_mapMc h)) fun _ =>
    mailSafe_fillBeacon _ _ _ (mailSafe_mapMc (mailSafe_mapMc h))

theorem mailSafe_leaveBoundary (h : mailSafe x) : mailSafe (leaveBoundary x) := by
  unfold leaveBoundary
  exact mailSafe_ite (fun _ => mailSafe_leaveDone (mailSafe_mapMc h)) fun _ =>
    mailSafe_ite (fun _ => mailSafe_mapMc h) fun _ => mailSafe_fillLeave (mailSafe_mapMc h)

theorem mailSafe_waitBoundary (h : mailSafe x) : mailSafe (waitBoundary x) := by
  unfold waitBoundary
  exact mailSafe_ite (fun _ => mailSafe_ite (fun _ => mailSafe_countTry (fun _ => mailSafe_fillJoin) (mailSafe_mapMc h))
    fun _ => mailSafe_mapMc h) fun _ => h

theorem mailSafe_joinBoundary (h : mailSafe x) : mailSafe (joinBoundary x) :=
  mailSafe_waitBoundary (mailSafe_ite (fun _ => mailSafe_fillJoin h) fun _ => h)

theorem mailSafe_memberBoundary (cfg : ConfigRecord) (h : mailSafe x) : mailSafe (memberBoundary cfg x) := by
  unfold memberBoundary
  exact mailSafe_ite (fun _ => mailSafe_referenceBoundary _ h) fun _ =>
    mailSafe_ite (fun _ => mailSafe_candidateFill _ h) fun _ => h

theorem mailSafe_boundaryMc (cfg : ConfigRecord) (h : mailSafe x) : mailSafe (boundaryMc cfg x) := by
  have counted := mailSafe_countSilence cfg.lossEpochs
    (mailSafe_mapMc (f := fun mc => { mc with statusFilled := false }) h)
  unfold boundaryMc
  refine mailSafe_fillStatus _ ?_
  split
  · exact mailSafe_joinBoundary counted
  · exact mailSafe_memberBoundary _ counted
  · exact mailSafe_ite (fun _ => mailSafe_handoverBoundary _ counted) fun _ => mailSafe_leaveBoundary counted
  · exact counted

theorem mailSafe_boundaryCarrier (h : mailSafe x) : mailSafe (boundaryCarrier x) := by
  unfold boundaryCarrier
  exact mailSafe_ite (fun _ => mailSafe_mapMc (mailSafe_ite (fun _ => mailSafe_removeBeacon h) fun _ => h)) fun _ => h

theorem mailSafe_takeBoundary (cfg : ConfigRecord) (h : mailSafe x) : mailSafe (takeBoundary cfg x) := by
  have carried : mailSafe (mapTb (boundaryTb cfg) (boundaryCarrier x)) := mailSafe_congr (mailSafe_boundaryCarrier h) rfl rfl
  exact mailSafe_retryHead
    (mailSafe_congr (t := boundaryTc (boundaryPcu _)) (mailSafe_boundaryMc cfg carried) (by simp) (by simp))

end Sys2Proof.Machine
end

section
namespace Sys2Proof.Machine

variable {s x t : State}

/-! ### The slot law and the mail law at every step (R116, R124, R126, R127) -/

theorem mailSafe_goes {u : State} (h : goes s u = .next t) (hs : mailSafe s) (hu : mailSafe u) : mailSafe t := by
  obtain rfl | rfl := next_of_goes h
  · exact hu
  · exact hs

/-- A command whose effect leaves LC and MU alone. -/
theorem mailSafe_goes_congr {u : State} (h : goes s u = .next t) (hs : mailSafe s) (k : u.lc = s.lc ∧ u.mu = s.mu) :
    mailSafe t :=
  mailSafe_goes h hs (mailSafe_congr hs k.1 k.2)

theorem mailSafe_withoutPayload {act : State → State} (payload : List Byte) (hact : mailSafe (act x)) (h : mailSafe x) :
    mailSafe (withoutPayload payload act x) := by
  unfold withoutPayload
  exact mailSafe_ite (fun _ => hact) fun _ => mailSafe_answer _ h

theorem mailSafe_takeLeave (h : mailSafe x) : mailSafe (takeLeave x) := by
  unfold takeLeave
  split
  · exact mailSafe_post _ (mailSafe_leaveLine _ _ (mailSafe_fillLeave h))
  · exact mailSafe_ite (fun _ => mailSafe_setStation _ (mailSafe_mapMc h)) fun _ => mailSafe_leaveAsFollower h
  · exact h

/-- RESTART empties the slots; the frame on the line is not returnable after it (R118, R123). -/
theorem mailSafe_restartAll (h : mailSafe x) : mailSafe (restartAll x) := by
  have left : mailSafe (restartPcu (leaveLine false .configured x)) :=
    mailSafe_congr (mailSafe_leaveLine false .configured h) rfl rfl
  exact mailSafe_mapOwn (g := fun o => { o with restarted := true }) (mailSafe_emptyAllSlots left) rfl rfl
    fun _ _ => ⟨rfl, id⟩

theorem mailSafe_postMail (payload : List Byte) (h : mailSafe x) : mailSafe (postMail payload x) := by
  unfold postMail
  split
  · exact mailSafe_answer _ h
  · split
    · exact mailSafe_answer _ h
    · exact mailSafe_ite (fun _ => mailSafe_answer _ h) fun _ => mailSafe_ite (fun _ => mailSafe_answer _ h) fun _ =>
        mailSafe_ite (fun _ => mailSafe_answer _ h) fun hroom =>
          mailSafe_respond _ _ (mailSafe_queueMail _ _ h (Nat.lt_of_not_le hroom))

theorem takeEarlier_core {mu mu' : MailUnit} {mail : InMail} (h : takeEarlier mu = some (mail, mu')) :
    mailCore mu' = mailCore mu := by
  unfold takeEarlier at h
  split at h
  · split at h <;> (cases h; rfl)
  · cases h; rfl
  · cases h; rfl
  · cases h

/-- The inbound buffers are no part of the law (R133). -/
theorem mailSafe_takeMail (h : mailSafe x) : mailSafe (takeMail x) := by
  unfold takeMail
  dsimp only
  split
  next mail mu hm => exact mailSafe_respond _ _ (mailSafe_of_mailLine h (takeEarlier_core (mu' := mu) hm) (.refl _))
  next => exact mailSafe_respond _ _ (mailSafe_of_mailLine h rfl (.refl _))

/-- A receipt taken makes room, so that complete heads leave (R130). -/
theorem mailSafe_takeReceipt (h : mailSafe x) : mailSafe (takeReceipt x) := by
  unfold takeReceipt
  split
  · exact mailSafe_answer _ h
  next r rest hr =>
    obtain ⟨hs, hmail⟩ := h
    obtain ⟨⟨hlen, hreceipts, hrest⟩, hheld⟩ := (mailLaw_iff x).1 hmail
    rw [hr] at hreceipts
    refine mailSafe_respond _ _ (mailSafe_settleQueue ⟨hs, (mailLaw_iff _).2 ⟨⟨hlen, ?_, hrest⟩, hheld⟩⟩)
    exact Nat.le_of_succ_le hreceipts

theorem mailSafe_endFrame (h : mailSafe x) : mailSafe (endFrame x) := by
  rw [endFrame_eq]
  exact mailSafe_of_mailLine h rfl (mailLine_of_eq (by unfold frameEnded; split <;> rfl) (by unfold frameEnded; split <;> rfl))

theorem mailSafe_sourceReport (src : StationId) (h : mailSafe x) : mailSafe (sourceReport src x) :=
  mailSafe_congr h (by simp) (by simp)

theorem mailSafe_replyEffect (src : StationId) (kind : ReplyKind) (ack refuse : Bool) (h : mailSafe x) :
    mailSafe (replyEffect src kind ack refuse x) := by
  unfold replyEffect
  refine mailSafe_ite (fun _ => ?_) fun _ => h
  cases kind with
  | join => exact mailSafe_ite (fun _ => mailSafe_setEntryState _ _ _ h) fun _ => h
  | leave =>
    dsimp only
    split
    · exact mailSafe_setEntryState _ _ _ h
    · exact mailSafe_setEntryState _ _ _ h
    · exact h

/-- An inbound mail changes the buffers, the filter and the overflow indication alone (R131). -/
theorem mailSafe_takeInMail (mail : InMail) (h : mailSafe x) : mailSafe (takeInMail mail x) := by
  have stored : mailSafe (mapMu (storeMail mail) x) :=
    mailSafe_of_mailLine h (by simp only [mapMu_mu, storeMail_eq]; split <;> rfl) (.refl _)
  unfold takeInMail
  exact mailSafe_ite (fun _ => mailSafe_planReply _ _ h) fun _ =>
    mailSafe_ite (fun _ => mailSafe_planReply _ _ (mailSafe_post _ stored)) fun _ =>
      mailSafe_planReply _ _ (mailSafe_post _ (mailSafe_of_mailLine h rfl (.refl _)))

theorem mailSafe_giveOutcome (f : TxFrame) (ack refuse : Bool) (h : mailSafe x) : mailSafe (giveOutcome f ack refuse x) := by
  cases f with
  | trip | status => exact h
  | beacon => exact mailSafe_beaconSent _ h
  | join => exact mailSafe_joinOutcome _ _ h
  | leave => exact mailSafe_ite (fun _ => mailSafe_mapMc h) fun _ => h
  | mail => exact mailSafe_mailReported _ _ h

theorem mailSafe_countFailure (h : mailSafe x) : mailSafe (countFailure x) := by
  have counted : mailSafe (mapLc (fun lc => { lc with failures := min 16 (lc.failures + 1) }) x) := mailSafe_mapLc h rfl rfl
  unfold countFailure
  exact mailSafe_ite (fun _ => mailSafe_isolate counted) fun _ => counted

theorem mailSafe_failureNotice (f : TxFrame) (h : mailSafe x) : mailSafe (failureNotice f x) := by
  unfold failureNotice
  split
  · exact mailSafe_mailFailed h
  · exact h

/-- A returnable frame of the line goes back into its slot: a MAIL is still that of the open head (R118, R126). -/
theorem mailSafe_returnFrame {own : OwnFrame} (h : mailSafe x) (ho : x.lc.onLine = some own) :
    mailSafe (returnFrame own (clearLine x)) := by
  unfold returnFrame
  refine mailSafe_ite (fun hret => ?_) fun _ => mailSafe_clearLine h
  refine mailSafe_of_mailLine h rfl ⟨fun kind f hf => ?_, ?_⟩
  · have hf' : slotOf (setSlot x.lc.slots (frameKind own.frame) (some own.frame)) kind = some f := hf
    rw [slotOf_setSlot] at hf'
    split at hf'
    next hk => cases hf'; exact .inr hk.symm
    next => exact .inl hf'
  · rintro f (hf | ⟨_, hnone, -⟩)
    · have hf' : slotOf (setSlot x.lc.slots (frameKind own.frame) (some own.frame)) .mail = some f := hf
      rw [slotOf_setSlot] at hf'
      split at hf'
      next hk => cases hf'; exact .inr ⟨own, ho, rfl, hk.symm, hret⟩
      next => exact .inl hf'
    · cases hnone

/-- LC with the frame of a kind's slot taken onto the line and the slot empty (R111, R118). -/
def lineTaken (kind : FrameKind) (first : Bool) (lc : LineController) : LineController :=
  { lc with
    attempt := none
    slots := setSlot lc.slots kind none
    onLine := (slotOf lc.slots kind).map fun f => { frame := f, returnable := true, restarted := false, stale := false }
    ltx := first || !lc.txOn }

/-- A MAIL taken onto the line is the one of the MAIL slot, as each slot holds its own kind (R116). -/
theorem mailSafe_lineTaken (kind : FrameKind) (first : Bool) (h : mailSafe x) :
    mailSafe (mapLc (lineTaken kind first) x) := by
  refine mailSafe_of_mailLine h rfl ⟨fun k f hf => .inl (slotOf_emptied hf), ?_⟩
  rintro f (hf | ⟨own, hown, rfl, hk, -⟩)
  · exact .inl (slotOf_emptied (j := .mail) hf)
  · obtain ⟨g, hg, rfl⟩ := Option.map_eq_some_iff.1 hown
    obtain rfl : kind = .mail := (h.1 kind g hg).symm.trans hk
    exact .inl hg

/-- The flight of the open head begins (R126). -/
theorem mailSafe_arbitrationPassed (hs : mailSafe s) (h : exec .arbitrationPassed s = .next t) : mailSafe t := by
  refine mailSafe_goes h hs ?_
  split
  · exact hs
  next kind _ =>
    refine mailSafe_ite (fun hmail => ?_) fun _ => mailSafe_lineTaken kind _ hs
    simp only [Bool.and_eq_true, decide_eq_true_eq, Option.isSome_map] at hmail
    obtain ⟨rfl, hfull⟩ := hmail
    obtain ⟨f, hf⟩ := Option.isSome_iff_exists.1 hfull
    obtain ⟨-, hlaw⟩ := id hs
    obtain ⟨⟨-, -, htries, -⟩, hheld⟩ := (mailLaw_iff s).1 hlaw
    exact mailSafe_mapMu (x := mapLc (lineTaken .mail _) s) _ (mailSafe_lineTaken .mail _ hs) rfl rfl htries (fun _ => id)
      fun _ => ⟨f, hheld f (.inl hf)⟩

theorem mailSafe_missBeacon (cfg : ConfigRecord) (h : mailSafe x) : mailSafe (missBeacon cfg x) := by
  have missed : mailSafe (countMiss cfg x) := mailSafe_congr h (by simp) (by simp)
  unfold missBeacon
  exact mailSafe_ite (fun _ => mailSafe_startElection missed) fun _ => missed

/-- The beacon on the line takes the marker's sample; a MAIL on the line stands (R112). -/
theorem mailSafe_stampBeacon (m : MarkerSample) (h : mailSafe x) :
    mailSafe (mapLc (fun lc => { lc with onLine := lc.onLine.map (stampBeacon m) }) x) := by
  refine mailSafe_mapOwn (g := stampBeacon m) h rfl rfl fun o => ?_
  unfold stampBeacon
  split
  · exact nofun
  · exact fun _ => ⟨rfl, id⟩

/-- Every command keeps the slot law and the mail law. -/
theorem exec_mailSafe (c : Instr) (r : mailSafe s) (h : exec c s = .next t) : mailSafe t := by
  cases c with
  | hardwareReset sid fltn =>
    obtain ⟨-, -, -, -, -, -, -, -, hmail, hslot, -⟩ := lawsHoldAtReset sid fltn s t (.inr h)
    exact ⟨hslot, hmail⟩
  | loadConfig =>
    refine mailSafe_goes h r (mailSafe_ite (fun _ => mailSafe_answer _ r) fun _ => ?_)
    split
    · exact mailSafe_answer _ r
    · exact mailSafe_answer _ (mailSafe_of_mailLine r rfl (mailLine_of_eq rfl rfl))
  | start =>
    exact mailSafe_goes h r <| mailSafe_ite
      (fun _ => mailSafe_withoutPayload _ (mailSafe_answer _ (mailSafe_startListening r)) r) fun _ => mailSafe_answer _ r
  | leave =>
    exact mailSafe_goes h r <| mailSafe_ite
      (fun _ => mailSafe_withoutPayload _ (mailSafe_answer _ (mailSafe_takeLeave r)) r) fun _ => mailSafe_answer _ r
  | restart =>
    exact mailSafe_goes h r <| mailSafe_ite (fun _ => mailSafe_answer _ r) fun _ =>
      mailSafe_withoutPayload _ (mailSafe_answer _ (mailSafe_restartAll r)) r
  | run | halt =>
    exact mailSafe_goes h r <| mailSafe_ite (fun _ => mailSafe_answer _ r) fun _ =>
      mailSafe_withoutPayload _ (mailSafe_congr r (by simp) (by simp)) r
  | forceTrip => exact mailSafe_goes h r (mailSafe_withoutPayload _ (mailSafe_answer _ (mailSafe_latchCause _ r)) r)
  | clearTrip =>
    exact mailSafe_goes h r <| mailSafe_ite (fun _ => mailSafe_withoutPayload _
      (mailSafe_ite (fun _ => mailSafe_answer _ r) fun _ => mailSafe_answer _ (mailSafe_clearCauses r)) r)
      fun _ => mailSafe_answer _ r
  | postMail => exact mailSafe_goes h r (mailSafe_ite (fun _ => mailSafe_postMail _ r) fun _ => mailSafe_answer _ r)
  | takeMail => exact mailSafe_goes h r (mailSafe_withoutPayload _ (mailSafe_takeMail r) r)
  | takeReceipt => exact mailSafe_goes h r (mailSafe_withoutPayload _ (mailSafe_takeReceipt r) r)
  | readStatus | readEpoch | readTrip | readEvents =>
    exact mailSafe_goes h r (mailSafe_withoutPayload _ (mailSafe_congr r rfl rfl) r)
  | readConfig =>
    refine mailSafe_goes h r (mailSafe_withoutPayload _ ?_ r)
    split <;> exact mailSafe_congr r rfl rfl
  | unknownCommand | frameError | commandLengthOverflow | windowClosedEarly => exact mailSafe_goes_congr h r ⟨rfl, rfl⟩
  | setDuty | cancelTimed | readRoster | setEventMask | outputCarrierStart | peak | pendingRecordApply | timedRecordDue
  | dueRecordApply | outputActiveEntry | compareMatch | deadTimeExpiry | rearm =>
    refine mailSafe_goes_congr h r ?_
    (repeat' split) <;> simp
  | epochBoundary =>
    refine mailSafe_goes h r ?_
    split
    · exact r
    · refine mailSafe_ite (fun _ => mailSafe_congr r rfl rfl) fun _ => mailSafe_ite (fun _ => ?_) fun _ =>
        mailSafe_takeBoundary _ r
      exact mailSafe_fillStatus _ (mailSafe_found _ (mailSafe_takeBoundary _ r))
  | peerLostBySilence =>
    refine mailSafe_goes h r ?_
    split
    · exact r
    · exact mailSafe_ite (fun _ => mailSafe_countSilenceOf _ _ r) fun _ => r
  | handoverTimeout | leaveTimeout => exact mailSafe_goes h r (mailSafe_ite (fun _ => mailSafe_leaveDone r) fun _ => r)
  | leaveRefill => exact mailSafe_goes h r (mailSafe_ite (fun _ => mailSafe_fillLeave r) fun _ => r)
  | joinRefill => exact mailSafe_goes h r (mailSafe_ite (fun _ => mailSafe_fillJoin r) fun _ => r)
  | admissionWaitExpiry => exact mailSafe_goes h r (mailSafe_ite (fun _ => mailSafe_waitBoundary r) fun _ => r)
  | joinFailure => exact mailSafe_goes h r (mailSafe_ite (fun _ => mailSafe_joinFails r) fun _ => r)
  | listenTimerExpiry =>
    refine mailSafe_goes h r ?_
    split
    · exact r
    · exact mailSafe_ite (fun _ => mailSafe_found _ r) fun _ => r
  | statusFill => exact mailSafe_goes h r (mailSafe_fillStatus _ r)
  | candidateFillPoint =>
    refine mailSafe_goes h r ?_
    split
    · exact r
    · exact mailSafe_candidateFill _ r
  | beaconDeadline => exact mailSafe_goes h r (mailSafe_ite (fun _ => mailSafe_removeBeacon r) fun _ => r)
  | missedBeacon =>
    refine mailSafe_goes h r ?_
    split
    · exact r
    · exact mailSafe_ite (fun _ => mailSafe_missBeacon _ r) fun _ => mailSafe_congr r rfl rfl
  | holdoverExpiry =>
    refine mailSafe_goes h r ?_
    split
    · exact r
    · exact mailSafe_ite (fun _ => mailSafe_missBeacon _ r) fun _ => r
  | electionStart => exact mailSafe_goes h r (mailSafe_ite (fun _ => r) fun _ => mailSafe_startElection r)
  | beaconMarker =>
    refine mailSafe_goes h r ?_
    split
    · exact mailSafe_dropSample r
    · exact mailSafe_ite (fun _ => mailSafe_stampBeacon _ (mailSafe_dropSample r)) fun _ =>
        mailSafe_ite (fun _ => mailSafe_dropSample r) fun _ => mailSafe_congr r rfl rfl
  | beaconReceived =>
    exact mailSafe_goes h r (mailSafe_planReply _ _ (mailSafe_deliverBeacon _ _ (mailSafe_sourceReport _ r)))
  | joinReceived =>
    exact mailSafe_goes h r (mailSafe_planReply _ _ (mailSafe_postIf _ _ (mailSafe_sourceReport _ r)))
  | joinLeaveReplyComplete => exact mailSafe_goes h r (mailSafe_replyEffect _ _ _ _ (mailSafe_endFrame r))
  | statusReceived src =>
    have heard := mailSafe_sourceReport src r
    exact mailSafe_goes h r (mailSafe_planReply _ _
      (mailSafe_ite (fun _ => mailSafe_congr heard (by simp) (by simp)) fun _ => heard))
  | mailReceived =>
    exact mailSafe_goes h r (mailSafe_ite (fun _ => mailSafe_takeInMail _ (mailSafe_sourceReport _ r)) fun _ =>
      mailSafe_planReply _ _ (mailSafe_sourceReport _ r))
  | mailForOtherDestination | leaveReceived =>
    exact mailSafe_goes h r (mailSafe_planReply _ _ (mailSafe_sourceReport _ r))
  | tripFrameReceived =>
    exact mailSafe_goes h r (mailSafe_planReply _ _ (mailSafe_ite (fun _ => mailSafe_sourceReport _ r) fun _ =>
      mailSafe_congr (mailSafe_sourceReport _ r) rfl rfl))
  | frameDiscarded why =>
    have dropped := mailSafe_planReply false false (mailSafe_dropSample r)
    cases why with
    | format => exact mailSafe_goes h r (mailSafe_ite (fun _ => mailSafe_mapLc dropped rfl rfl) fun _ => dropped)
    | badCrc | kindOrLength => exact mailSafe_goes h r (mailSafe_mapLc dropped rfl rfl)
  | framerIdle | lineInactive => exact mailSafe_goes h r (mailSafe_mapLc r rfl rfl)
  | frameStartSeen | arbitrationLost =>
    exact mailSafe_goes h r (mailSafe_ite (fun _ => mailSafe_mapLc r rfl rfl) fun _ => r)
  | refusalBitSampled => exact mailSafe_goes h r (mailSafe_ite (fun _ => mailSafe_endFrame r) fun _ => r)
  | startOpportunity =>
    refine mailSafe_goes h r (mailSafe_ite (fun _ => ?_) fun _ => r)
    split
    · exact r
    · exact mailSafe_mapLc r rfl rfl
  | arbitrationPassed => exact mailSafe_arbitrationPassed r h
  | frameSuccess =>
    refine mailSafe_goes h r ?_
    split
    · exact r
    · have ended : mailSafe (mapLc (fun lc => { lc with failures := 0 }) (clearLine s)) :=
        mailSafe_mapLc (mailSafe_clearLine r) rfl rfl
      exact mailSafe_ite (fun _ => ended) fun _ => mailSafe_giveOutcome _ _ _ ended
  | transmitFailure =>
    refine mailSafe_goes h r ?_
    split
    · exact r
    next own ho =>
      exact mailSafe_ite (fun _ => mailSafe_clearLine r) fun _ =>
        mailSafe_countFailure (mailSafe_failureNotice _ (mailSafe_returnFrame r ho))
  | isolation =>
    refine mailSafe_goes h r (mailSafe_ite (fun _ => mailSafe_isolate ?_) fun _ => r)
    exact mailSafe_of_mailLine r rfl (mailLine_of_dropped (.inr rfl) fun _ h => nomatch h)
  | mailRetry => exact mailSafe_goes h r (mailSafe_retryHead r)
  | mailCompletion => exact mailSafe_goes h r (mailSafe_settleQueue r)
  | lineRaised =>
    exact mailSafe_goes h r (mailSafe_latchCause _ (mailSafe_post _ (mailSafe_mapLc r rfl rfl)))
  | fltnFall =>
    have fallen : mailSafe (mapPins (fun p => { p with fltn := false }) s) := mailSafe_congr r rfl rfl
    exact mailSafe_goes h fallen (mailSafe_latchCause _ fallen)
  | fltnRise => cases h; exact mailSafe_congr r rfl rfl
  | tripnLow | tripnHigh =>
    refine mailSafe_goes_congr (s := mapPins _ s) h (mailSafe_congr r rfl rfl) (by simp)

/-- One count moves nothing that the laws speak of (R108, R131). -/
theorem mailSafe_runningTick (h : mailSafe s) : mailSafe (runningTick s) := by
  obtain ⟨-, -, -, hlc, hmu, -⟩ := timed_frame s
  obtain ⟨hslots, -, hline, -⟩ := lineTick_lineKept (timed s)
  refine mailSafe_of_mailLine h ?_ (mailLine_of_eq ?_ ?_)
  · rw [runningTick_eq, ← hmu]; rfl
  · rw [runningTick_lc, hslots, hlc]
  · rw [runningTick_lc, hline, hlc]

/-- A station in reset has empty slots and an empty queue (R123, R134). -/
theorem mailSafe_tick (h : mailSafe s) : mailSafe (tick s) := by
  have reset : mailSafe State.reset := by
    obtain ⟨-, -, -, -, -, -, -, -, hmail, hslot, -⟩ := lawsHoldAtReset 0 true s State.reset (.inl rfl)
    exact ⟨hslot, hmail⟩
  exact mailSafe_ite (fun _ => mailSafe_congr reset rfl rfl) fun _ =>
    mailSafe_ite (fun _ => mailSafe_congr reset rfl rfl) fun _ => mailSafe_runningTick h

/-- Settles O58: a step is a count, by `mailSafe_tick`, or a command, by `exec_mailSafe`. -/
theorem mailLawKept : Obligations.MailLawKept := by
  intro s t hslot hmail h
  unfold step at h
  split at h
  · cases h
    exact mailSafe_tick ⟨hslot, hmail⟩
  next c rest _ =>
    have safe : mailSafe { s with pending := rest } := ⟨hslot, hmail⟩
    exact exec_mailSafe c safe h

end Sys2Proof.Machine
end

section
namespace Sys2Proof.Machine

variable {s x : State}

/-! ### A fill and an emptying of a transmit slot (R116, R117, R118) -/

theorem notReturnable_some (kind : FrameKind) (own : OwnFrame) : notReturnable kind (some own) =
    some (if frameKind own.frame = kind then { own with returnable := false } else own) := rfl

theorem fillSlot_onLine (f : TxFrame) (h : x.lc.txOn = true) :
    (fillSlot f x).lc.onLine = notReturnable (frameKind f) x.lc.onLine := by
  simp [fillSlot, h]

/-- A fill changes the slots and the frame on the line alone. -/
theorem fillSlot_eq (f : TxFrame) (x : State) : fillSlot f x = { x with lc := { x.lc with
    slots := (fillSlot f x).lc.slots, onLine := (fillSlot f x).lc.onLine } } := by
  unfold fillSlot mapLc
  dsimp only
  split <;> rfl

/-- Settles O23: the slots by `fillSlot_on` and `emptySlot_slots`, the frame on the line by `notReturnable`. -/
theorem slotFillAndEmpty : Obligations.SlotFillAndEmpty := by
  refine fun s f kind => ⟨fillSlot_off f s, fun htx => ⟨_, rfl, fillSlot_eq f s, fillSlot_on f s htx, ?_, ?_⟩,
    ⟨_, rfl, rfl, fun k => emptySlot_slots kind k s, fun ha => ?_, fun ha => ?_, fun ho => ?_, fun own ho => ?_⟩⟩
  · intro ho
    rw [fillSlot_onLine f htx, ho]
    rfl
  · intro own ho
    rw [fillSlot_onLine f htx, ho, notReturnable_some]
  · exact ⟨if_pos ha, if_pos ha⟩
  · exact ⟨if_neg ha, if_neg ha⟩
  · rw [emptySlot_onLine, ho]
    rfl
  · rw [emptySlot_onLine, ho, notReturnable_some]

/-! ### The bits of a frame (R109, R110) -/

theorem bitsOf_length (n v : Nat) : (bitsOf n v).length = n := by simp [bitsOf]

/-- The last bit is that of the unit. -/
theorem bitsOf_succ (n v : Nat) : bitsOf (n + 1) v = bitsOf n (v / 2) ++ [v.testBit 0] := by
  refine List.ext_getElem (by simp [bitsOf]) fun i hi hi' => ?_
  simp only [bitsOf_length] at hi
  obtain h | rfl := Nat.lt_succ_iff_lt_or_eq.1 hi
  · rw [List.getElem_append_left (by simpa [bitsOf] using h)]
    simp only [bitsOf, List.getElem_map, List.getElem_range, Nat.testBit_div_two]
    congr 1
    omega
  · simp [bitsOf]

theorem natOfBits_append_singleton (bits : List Bool) (b : Bool) : natOfBits (bits ++ [b]) = 2 * natOfBits bits + b.toNat := by
  simp [natOfBits]

/-- The bits of a number spell its low part. -/
theorem natOfBits_bitsOf (n v : Nat) : natOfBits (bitsOf n v) = v % 2 ^ n := by
  induction n generalizing v with
  | zero => simp [bitsOf, natOfBits, Nat.mod_one]
  | succ n ih =>
    rw [bitsOf_succ, natOfBits_append_singleton, ih, Nat.testBit_zero, Nat.pow_succ', Nat.mod_mul]
    cases hb : decide (v % 2 = 1) <;> simp at hb <;> simp <;> omega

theorem natOfBits_bitsOf_of_lt {n v : Nat} (h : v < 2 ^ n) : natOfBits (bitsOf n v) = v :=
  (natOfBits_bitsOf n v).trans (Nat.mod_eq_of_lt h)

theorem byteOfBits_bitsOfByte (b : Byte) : byteOfBits (bitsOfByte b) = b := by
  rw [byteOfBits, bitsOfByte, natOfBits_bitsOf_of_lt b.isLt, BitVec.ofNat_toNat, BitVec.setWidth_eq]

theorem headerBits_length (kind : Nat) (src : StationId) (length : Nat) : (headerBits kind src length).length = 13 := by
  simp [headerBits, bitsOf_length]

/-! ### Start opportunities and arbitration (R108, R111, R117, R118, R126) -/

theorem lowestFull_none {slots : TxSlots} (h : ∀ kind, slotOf slots kind = none) : lowestFull slots = none := by
  obtain ⟨trip, beacon, join, leave, status, mail⟩ := slots
  obtain rfl : trip = none := h .trip
  obtain rfl : beacon = none := h .beacon
  obtain rfl : join = none := h .join
  obtain rfl : leave = none := h .leave
  obtain rfl : status = none := h .status
  obtain rfl : mail = none := h .mail
  rfl

/-- The full slot below whose kind code all others are empty is the one that starts (R117). -/
theorem lowestFull_some {slots : TxSlots} {kind : FrameKind} (h : slotOf slots kind ≠ none)
    (hlow : ∀ other, kindCode other < kindCode kind → slotOf slots other = none) : lowestFull slots = some kind := by
  have full : (slotOf slots kind).isSome = true := Option.isSome_iff_ne_none.2 h
  have trip := hlow .trip
  have beacon := hlow .beacon
  have join := hlow .join
  have leave := hlow .leave
  have status := hlow .status
  cases kind <;> simp_all [lowestFull, slotOf, kindCode]

theorem beginFrame_eq (x : State) (lc : LineController) : beginFrame (!running x) lc = frameBegun x.config lc := by
  unfold beginFrame frameBegun running
  cases x.config <;> rfl

/-- The tenth bit of a frame is the first of its length, which says whether 8 bytes or more follow (R109). -/
theorem frameBits_ninth (src : StationId) (f : TxFrame) (h : (payloadBytes f).length ≤ 12) :
    (frameBits src f).getD 9 true = decide (8 ≤ (payloadBytes f).length) := by
  generalize hn : (payloadBytes f).length = n at h
  have hbit : (frameBits src f).getD 9 true = n.testBit 3 := by
    simp [frameBits, codeBits, headerBits, hn, bitsOf, List.range_succ]
  rw [hbit]
  interval_cases n <;> rfl

/-- A start opportunity with no frame to start does nothing (R117). -/
theorem exec_startOpportunity_none (hr : s.pins.resetn = true)
    (h : s.lc.framer ≠ .idle ∨ s.lc.txOn = false ∨ ∀ kind, slotOf s.lc.slots kind = none) :
    exec .startOpportunity s = .next s := by
  refine (goes_high _ _ hr).trans (congrArg _ ?_)
  split
  next hgo =>
    simp only [Bool.and_eq_true, decide_eq_true_eq] at hgo
    obtain ⟨hidle, htx⟩ := hgo
    rw [lowestFull_none ((h.resolve_left (not_not_intro hidle)).resolve_left (by simp [htx]))]
  next => rfl

/-- The frame of the lowest full slot starts its attempt with a start bit (R108, R117). -/
theorem exec_startOpportunity_some {kind : FrameKind} (hr : s.pins.resetn = true) (hidle : s.lc.framer = .idle)
    (htx : s.lc.txOn = true) (h : lowestFull s.lc.slots = some kind) :
    exec .startOpportunity s = .next { s with lc := { frameBegun s.config s.lc with
      attempt := some kind, ltx := false
      dominantRun := if lrxLevel s.pins false then s.lc.dominantRun else max 1 s.lc.dominantRun } } := by
  refine (goes_high _ _ hr).trans (congrArg _ ?_)
  rw [if_pos (by simp [hidle, htx]), h]
  simp only [beginFrame_eq]
  rfl

/-- The frame in its arbitration field is taken onto the line (R111, R118, R126). -/
theorem exec_arbitrationPassed {kind : FrameKind} {f : TxFrame} (hr : s.pins.resetn = true) (ha : s.lc.attempt = some kind)
    (hf : slotOf s.lc.slots kind = some f) :
    exec .arbitrationPassed s = .next { s with
      lc := { s.lc with
        attempt := none, slots := setSlot s.lc.slots kind none
        onLine := some { frame := f, returnable := true, restarted := false, stale := false }
        ltx := (frameBits s.sid f).getD 9 true || !s.lc.txOn }
      mu := { s.mu with inFlight := s.mu.inFlight || decide (kind = .mail) } } := by
  refine (goes_high _ _ hr).trans (congrArg _ ?_)
  simp only [ha, hf, Option.map_some, Option.isSome_some, Bool.and_true, decide_eq_true_eq]
  by_cases hk : kind = .mail
  · simp [hk, mapLc, mapMu]
  · simp [hk, mapLc]

/-- Settles O48: a start by `lowestFull`, and what passing arbitration does by `exec_arbitrationPassed`. -/
theorem startAndArbitration : Obligations.StartAndArbitration := by
  refine fun s hr => ⟨exec_startOpportunity_none hr, fun kind hidle htx hfull hlow => ?_, fun ha => ⟨?_, ?_⟩,
    fun kind ha => ?_, fun kind f ha hf hk hlen => ?_⟩
  · refine ⟨_, exec_startOpportunity_some hr hidle htx (lowestFull_some hfull hlow), fun hforced => if_neg ?_⟩
    unfold lrxLevel
    split
    · simp
    next level hl => simpa [hl] using hforced
  · refine (goes_high _ _ hr).trans (congrArg _ (if_neg ?_))
    simp [ha]
  · refine (goes_high _ _ hr).trans (congrArg _ ?_)
    rw [ha]
  · refine (goes_high _ _ hr).trans (congrArg _ (if_pos ?_))
    simp [ha]
  · refine ⟨setSlot s.lc.slots kind none, fun k => slotOf_setSlot _ _ k none, ?_⟩
    rw [exec_arbitrationPassed hr ha hf, frameBits_ninth s.sid f hlen]
    cases htx : s.lc.txOn <;> simp

end Sys2Proof.Machine
end

section
namespace Sys2Proof.Machine

/-! ### A receiver reads the bits of a frame (R109, R110, R114) -/

/-- The payload of a frame as sent, fill bits among it (R109). -/
def sentPayload (mail : Bool) (payload : List Byte) : List Bool := payload.flatMap (sentByte mail)

theorem sentPayload_cons (mail : Bool) (b : Byte) (payload : List Byte) :
    sentPayload mail (b :: payload) = sentByte mail b ++ sentPayload mail payload := List.flatMap_cons

/-- A byte taken before what the bits after it give. -/
def byteTaken (b : Byte) : PayloadTake → PayloadTake
  | .done bytes left => .done (b :: bytes) left
  | .more => .more
  | .badFill => .badFill

theorem bitsOfByte_length (b : Byte) : (bitsOfByte b).length = 8 := bitsOf_length 8 b.toNat

theorem take_bitsOfByte (b : Byte) (bits : List Bool) : (bitsOfByte b ++ bits).take 8 = bitsOfByte b :=
  List.take_left' (bitsOfByte_length b)

theorem drop_bitsOfByte (b : Byte) (bits : List Bool) : (bitsOfByte b ++ bits).drop 8 = bits :=
  List.drop_left' (bitsOfByte_length b)

/-- With a whole byte there the receiver takes it, and the fill bit where one is due (R114). -/
theorem takePayload_byte (mail : Bool) (n : Nat) (b : Byte) (bits : List Bool) :
    takePayload mail (n + 1) (sentByte mail b ++ bits) = byteTaken b (takePayload mail n bits) := by
  unfold sentByte
  split
  next hfill =>
    rw [List.append_assoc, takePayload, if_neg (by simp [bitsOfByte_length])]
    simp only [take_bitsOfByte, drop_bitsOfByte, byteOfBits_bitsOfByte, hfill, if_true, List.singleton_append]
    cases takePayload mail n bits <;> rfl
  next hfill =>
    rw [takePayload, if_neg (by simp [bitsOfByte_length])]
    simp only [take_bitsOfByte, drop_bitsOfByte, byteOfBits_bitsOfByte, hfill]
    cases takePayload mail n bits <;> rfl

/-- Short of the byte, or of the fill bit that is due after it, the receiver waits for more. -/
theorem takePayload_short (mail : Bool) (n k : Nat) (b : Byte) (h : k < (sentByte mail b).length) :
    takePayload mail (n + 1) ((sentByte mail b).take k) = .more := by
  rw [takePayload]
  obtain h8 | h8 := Nat.lt_or_ge k 8
  · exact if_pos (List.length_take_le .. |>.trans_lt h8)
  · unfold sentByte at h ⊢
    split at h
    next hfill =>
      obtain rfl : k = 8 := by simp [bitsOfByte_length] at h; omega
      rw [if_pos hfill, take_bitsOfByte, if_neg (by simp [bitsOfByte_length])]
      have hall := take_bitsOfByte b []
      have hnone := drop_bitsOfByte b []
      rw [List.append_nil] at hall hnone
      simp only [hall, hnone, byteOfBits_bitsOfByte, hfill, if_true]
    next => simp [bitsOfByte_length] at h; omega

/-- The bytes of a payload are read back from its bits, and what follows is left (R114, step 2). -/
theorem takePayload_sent (mail : Bool) (payload : List Byte) (rest : List Bool) :
    takePayload mail payload.length (sentPayload mail payload ++ rest) = .done payload rest := by
  induction payload with
  | nil => rfl
  | cons b payload ih => rw [sentPayload_cons, List.append_assoc, List.length_cons, takePayload_byte, ih, byteTaken]

/-- Before its last bit a payload is not read. -/
theorem takePayload_before (mail : Bool) (payload : List Byte) (k : Nat) (h : k < (sentPayload mail payload).length) :
    takePayload mail payload.length ((sentPayload mail payload).take k) = .more := by
  induction payload generalizing k with
  | nil => cases h
  | cons b payload ih =>
    rw [sentPayload_cons, List.length_append] at h
    rw [sentPayload_cons, List.length_cons, List.take_append]
    obtain hk | hk := Nat.lt_or_ge k (sentByte mail b).length
    · rw [Nat.sub_eq_zero_of_le hk.le, List.take_zero, List.append_nil, takePayload_short _ _ _ _ hk]
    · rw [List.take_of_length_le hk, takePayload_byte, ih _ (by omega), byteTaken]

/-- What the payload read gives of a frame whose header has been read (R114, steps 1 to 3). -/
def afterHeader (kind : Nat) (src : StationId) (header : List Bool) : PayloadTake → RxStatus
  | .more => .inProgress
  | .badFill => .formatError
  | .done payload rest =>
    if rest.length < 16 then .inProgress
    else
      .complete kind src payload
        (rest.take 16 == bitsOf 16 (crc16 (header ++ payload.flatMap bitsOfByte)).toNat) (rest.drop 16)

/-- The header of a frame is read back from its bits (R109). -/
theorem rxStatus_header (kind length : Nat) (src : StationId) (tail : List Bool) (hkind : kind < 16) (hlen : length ≤ 12) :
    rxStatus (headerBits kind src length ++ tail) =
      afterHeader kind src (headerBits kind src length) (takePayload (kind == 6) length tail) := by
  have hheader := headerBits_length kind src length
  have hk : natOfBits ((headerBits kind src length ++ tail).take 4) = kind := by
    simp only [headerBits, List.append_assoc]
    rw [List.take_left' (bitsOf_length 4 kind), natOfBits_bitsOf_of_lt hkind]
  have hs : natOfBits (((headerBits kind src length ++ tail).drop 4).take 5) = src.val := by
    simp only [headerBits, List.append_assoc]
    rw [List.drop_left' (bitsOf_length 4 kind), List.take_left' (bitsOf_length 5 src.val), natOfBits_bitsOf_of_lt src.isLt]
  have hl : natOfBits (((headerBits kind src length ++ tail).drop 9).take 4) = length := by
    rw [headerBits, List.append_assoc, List.drop_left' (by simp [bitsOf_length]), List.take_left' (bitsOf_length 4 length),
      natOfBits_bitsOf_of_lt (by omega)]
  unfold rxStatus
  rw [if_neg (by simp [hheader])]
  simp only [hk, hs, hl, List.take_left' hheader, List.drop_left' hheader, if_neg (Nat.not_lt.2 hlen)]
  rw [Fin.ofNat_val_eq_self]
  cases takePayload (kind == 6) length tail <;> rfl

theorem kindCode_lt (kind : FrameKind) : kindCode kind < 16 := by cases kind <;> decide

/-- The arbitration field and the length of an own frame (R109). -/
def ownHeader (src : StationId) (f : TxFrame) : List Bool := headerBits (kindCode (frameKind f)) src (payloadBytes f).length

/-- The CRC bits of an own frame (R110). -/
def ownCrc (src : StationId) (f : TxFrame) : List Bool :=
  bitsOf 16 (crc16 (ownHeader src f ++ (payloadBytes f).flatMap bitsOfByte)).toNat

/-- The payload bits of an own frame as sent. -/
def ownPayload (f : TxFrame) : List Bool := sentPayload (kindCode (frameKind f) == 6) (payloadBytes f)

theorem frameBits_eq (src : StationId) (f : TxFrame) : frameBits src f = ownHeader src f ++ ownPayload f ++ ownCrc src f := rfl

/-- A MAIL has at most 8 data bytes: then every payload is at most 12 bytes (R109, 10.2). -/
theorem payloadBytes_length_le {f : TxFrame} (h : ∀ m, f = .mail m → m.data.length ≤ 8) : (payloadBytes f).length ≤ 12 := by
  cases f with
  | mail m => have := h m rfl; simp [payloadBytes]; omega
  | trip | beacon | join | leave | status => simp [payloadBytes, beaconBytes, wordBytes, maskBytes]

section receiver
variable {f : TxFrame} (hlen : (payloadBytes f).length ≤ 12) (src : StationId)
include hlen

theorem rxStatus_ownHeader (tail : List Bool) : rxStatus (ownHeader src f ++ tail) =
    afterHeader (kindCode (frameKind f)) src (ownHeader src f)
      (takePayload (kindCode (frameKind f) == 6) (payloadBytes f).length tail) :=
  rxStatus_header _ _ src tail (kindCode_lt _) hlen

/-- The payload is read once its last bit is there; the 16 bits after it are compared with the CRC (R110, R114). -/
theorem rxStatus_payload (rest : List Bool) : rxStatus (ownHeader src f ++ ownPayload f ++ rest) =
    if rest.length < 16 then .inProgress
    else .complete (kindCode (frameKind f)) src (payloadBytes f) (rest.take 16 == ownCrc src f) (rest.drop 16) := by
  rw [List.append_assoc, rxStatus_ownHeader hlen, ownPayload, takePayload_sent]
  rfl

/-- With any 16 bits in the place of the CRC the frame is complete. -/
theorem rxStatus_crc (crc replies : List Bool) (h : crc.length = 16) :
    rxStatus (ownHeader src f ++ ownPayload f ++ (crc ++ replies)) =
      .complete (kindCode (frameKind f)) src (payloadBytes f) (crc == ownCrc src f) replies := by
  rw [rxStatus_payload hlen, if_neg (by simp [h]), List.take_left' h, List.drop_left' h]

/-- Before its last CRC bit a frame is in progress, whichever part the bits end in. -/
theorem rxStatus_before (n : Nat) (hn : n < (frameBits src f).length) : rxStatus ((frameBits src f).take n) = .inProgress := by
  have hheader : (ownHeader src f).length = 13 := headerBits_length _ _ _
  have hcrc : (ownCrc src f).length = 16 := bitsOf_length _ _
  rw [frameBits_eq] at hn ⊢
  simp only [List.length_append, hheader, hcrc] at hn
  obtain h13 | h13 := Nat.lt_or_ge n 13
  · unfold rxStatus
    exact if_pos (List.length_take_le .. |>.trans_lt h13)
  obtain hp | hp := Nat.lt_or_ge n (13 + (ownPayload f).length)
  · rw [List.append_assoc, List.take_append, List.take_of_length_le (hheader.trans_le h13), rxStatus_ownHeader hlen,
      List.take_append_of_le_length (by omega), ownPayload, takePayload_before _ _ _ (by rw [ownPayload] at hp; omega)]
    rfl
  · rw [List.take_append, List.take_of_length_le (by simp [hheader]; omega), rxStatus_payload hlen, if_pos]
    simp [hheader, hcrc]
    omega

end receiver

end Sys2Proof.Machine
end

section
namespace Sys2Proof.Machine

/-! ### A good frame is delivered with the fields it was sent with (R114, R115, 10.1, 10.2) -/

theorem wordOf_wordBytes (w : BitVec 16) : wordOf (w.extractLsb' 8 8) (w.extractLsb' 0 8) = w :=
  (wordBytes_eq_iff _ _ w).1 rfl

theorem maskOfBytes_maskBytes (m : MemberMask) :
    maskOfBytes (m.extractLsb' 24 8) (m.extractLsb' 16 8) (m.extractLsb' 8 8) (m.extractLsb' 0 8) = m := by
  unfold maskOfBytes
  apply BitVec.eq_of_toNat_eq
  simp only [toNat_append_add, BitVec.extractLsb'_toNat, Nat.shiftRight_eq_div_pow]
  have := m.isLt
  omega

/-- The flags of a BEACON or a JOIN read back as the mode, the epoch length and the handover flag. -/
theorem geometryFlags_fields (mode : CarrierMode) (length : EpochLength) (handover : Bool) :
    modeOfBit ((geometryFlags mode length handover).getLsbD 7) = mode ∧
      lengthOfCode ((geometryFlags mode length handover).extractLsb' 5 2) = length ∧
      (geometryFlags mode length handover).getLsbD 4 = handover := by
  cases mode <;> cases length <;> cases handover <;> decide

/-- The report flags of a STATUS read back as the report. -/
theorem reportOfByte_reportByte (r : Report) : reportOfByte (reportByte r) = r := by
  obtain ⟨lock, active, tripped, role⟩ := r
  cases lock <;> cases role <;> cases active <;> cases tripped <;> decide

/-- Every own frame has a kind in use and the length its kind has; a MAIL has 1 to 8 data bytes (R109). -/
theorem goodKindLength_payload {f : TxFrame} (h : ∀ m, f = .mail m → 1 ≤ m.data.length ∧ m.data.length ≤ 8) :
    goodKindLength (kindCode (frameKind f)) (payloadBytes f).length = true := by
  cases f with
  | mail m =>
    obtain ⟨h1, h8⟩ := h m rfl
    simp [goodKindLength, kindCode, frameKind, payloadBytes]
    omega
  | trip | beacon | join | leave | status => rfl

/-- The command by which an own frame is delivered to a station (R115). -/
def deliveredAs (own src : StationId) : TxFrame → Instr
  | .trip cause epoch => .tripFrameReceived src (causeCode cause) epoch
  | .beacon b => .beaconReceived src b
  | .join request => .joinReceived src request
  | .leave => .leaveReceived src
  | .status status => .statusReceived src status
  | .mail m => if m.destination = idByte own then .mailReceived src m.ticket m.data else .mailForOtherDestination src

theorem beaconOfBytes_beaconBytes (b : Beacon) : beaconOfBytes (beaconBytes b) = some b := by
  obtain ⟨hmode, hlength, hhandover⟩ := geometryFlags_fields b.mode b.length b.handover
  simp only [beaconBytes, wordBytes, maskBytes, List.cons_append, List.nil_append, beaconOfBytes, wordOf_wordBytes,
    maskOfBytes_maskBytes, hmode, hlength, hhandover]

/-- The geometry of a JOIN reads back from its bytes. -/
theorem joinRequest_fields (r : JoinRequest) :
    JoinRequest.mk (wordOf (r.period.extractLsb' 8 8) (r.period.extractLsb' 0 8))
      (modeOfBit ((geometryFlags r.mode r.length false).getLsbD 7))
      (lengthOfCode ((geometryFlags r.mode r.length false).extractLsb' 5 2)) = r := by
  obtain ⟨hmode, hlength, -⟩ := geometryFlags_fields r.mode r.length false
  rw [wordOf_wordBytes, hmode, hlength]

theorem statusReport_fields (r : StatusReport) :
    StatusReport.mk (wordOf (r.epoch.extractLsb' 8 8) (r.epoch.extractLsb' 0 8)) (reportOfByte (reportByte r.report))
      r.phaseError = r := by
  rw [wordOf_wordBytes, reportOfByte_reportByte]

theorem deliveryOf_payload (own src : StationId) (f : TxFrame) :
    deliveryOf own (kindCode (frameKind f)) src (payloadBytes f) = some (deliveredAs own src f) := by
  cases f with
  | trip cause epoch =>
    exact congrArg (fun e => some (Instr.tripFrameReceived src (causeCode cause) e)) (wordOf_wordBytes epoch)
  | beacon b => exact congrArg (Option.map (Instr.beaconReceived src)) (beaconOfBytes_beaconBytes b)
  | join r => exact congrArg (fun r => some (Instr.joinReceived src r)) (joinRequest_fields r)
  | leave => rfl
  | status r => exact congrArg (fun r => some (Instr.statusReceived src r)) (statusReport_fields r)
  | mail m => exact (apply_ite some _ _ _).symm

theorem endOfChecks_good (own src : StationId) {f : TxFrame}
    (h : ∀ m, f = .mail m → 1 ≤ m.data.length ∧ m.data.length ≤ 8) :
    endOfChecks own (kindCode (frameKind f)) src (payloadBytes f) true = deliveredAs own src f := by
  unfold endOfChecks
  rw [goodKindLength_payload h, deliveryOf_payload]
  rfl

/-- Settles O53: the bits by `rxStatus_crc` and `rxStatus_before`, the fields by `deliveryOf_payload`. -/
theorem frameRoundTrip : Obligations.FrameRoundTrip := by
  intro src own f hmail
  have hlen : (payloadBytes f).length ≤ 12 := payloadBytes_length_le fun m hm => (hmail m hm).2
  have hcrc : (ownCrc src f).length = 16 := bitsOf_length _ _
  refine ⟨fun replies => ?_, rxStatus_before hlen src, fun body crc other replies hbody h16 hother hne => ?_, ?_, fun _ => rfl⟩
  · rw [frameBits_eq, List.append_assoc, rxStatus_crc hlen src _ _ hcrc, beq_self_eq_true]
  · obtain ⟨rfl, rfl⟩ := List.append_inj' (hbody.symm.trans (frameBits_eq src f)) (h16.trans hcrc.symm)
    rw [List.append_assoc, rxStatus_crc hlen src _ _ hother, beq_false_of_ne hne]
  · rw [endOfChecks_good own src hmail]
    cases f <;> rfl

end Sys2Proof.Machine
end

section
namespace Sys2Proof.Machine

variable {s x t : State}

/-! ### Complete heads leave (R124, R126, R128) -/

/-- What a receipt says of its mail. -/
def receiptFields (r : Receipt) : Byte × StationId × Option MailOutcome × Nat :=
  (r.ticket, r.destination, some r.outcome, r.attempts)

/-- What a mail gives to its receipt. -/
def mailFields (m : OutMail) : Byte × StationId × Option MailOutcome × Nat :=
  (m.ticket, m.destination, m.outcome, m.attempts)

theorem receiptFields_receiptOf {m : OutMail} {outcome : MailOutcome} (h : m.outcome = some outcome) :
    receiptFields (receiptOf m outcome) = mailFields m := by rw [mailFields, h]; rfl

/-- The mail that is first once others have left before it is filled if it has no outcome (R126). -/
def newHeadFilled (gone left : List OutMail) (x : State) : State :=
  match left with
  | [] => x
  | next :: _ => if gone ≠ [] ∧ next.outcome = none then fillSlot (mailFrame next) x else x

theorem newHeadFilled_noneGone (left : List OutMail) (x : State) : newHeadFilled [] left x = x := by
  cases left <;> simp [newHeadFilled]

theorem newHeadFilled_complete {gone left : List OutMail}
    (h : ∀ next, left.head? = some next → next.outcome ≠ none) : newHeadFilled gone left x = x := by
  cases left with
  | nil => rfl
  | cons next left => exact if_neg fun hnew => h next rfl hnew.2

/-- Which mails left before a new head has no part in its fill. -/
theorem newHeadFilled_gone {gone gone' : List OutMail} (left : List OutMail) (h : gone ≠ []) (h' : gone' ≠ []) (x : State) :
    newHeadFilled gone left x = newHeadFilled gone' left x := by
  cases left <;> simp [newHeadFilled, h, h']

theorem newHeadFilled_lc_congr (gone left : List OutMail) (h : x.lc = t.lc) :
    (newHeadFilled gone left x).lc = (newHeadFilled gone left t).lc := by
  cases left with
  | nil => exact h
  | cons next left =>
    rw [newHeadFilled, newHeadFilled]
    split
    · exact fillSlot_lc_congr _ h
    · exact h

/-- The mails `gone` have left the front of the queue, as far as the receipt list has room, and `given` are their receipts
(R128). -/
structure HeadsLeave (x : State) (gone left : List OutMail) (given : List Receipt) (t : State) : Prop where
  queue : x.mu.queue = gone ++ left
  receipts : given.map receiptFields = gone.map mailFields
  room : x.mu.receipts.length ≤ 4 → x.mu.receipts.length + given.length ≤ 4
  stops : 4 ≤ x.mu.receipts.length + given.length ∨ ∀ head, left.head? = some head → head.outcome = none
  after : t = { x with
    mu := { x.mu with queue := left, receipts := x.mu.receipts ++ given }
    lc := (newHeadFilled gone left x).lc
    lp := { x.lp with events := x.lp.events ||| if gone = [] then 0 else eventMask .receipt } }

/-- No mail leaves while the head is open or the list full. -/
theorem headsLeave_none (h : 4 ≤ x.mu.receipts.length ∨ ∀ head, x.mu.queue.head? = some head → head.outcome = none) :
    HeadsLeave x [] x.mu.queue [] x where
  queue := rfl
  receipts := rfl
  room := id
  stops := h
  after := by simp [newHeadFilled_noneGone]

/-- A complete head leaves, and mails behind it in their turn. With the next mail complete (`hrest`), the only fill is the one
after the last that leaves, if any behind the head does. -/
theorem HeadsLeave.cons {head : OutMail} {rest gone left : List OutMail} {outcome : MailOutcome} {given : List Receipt}
    (hq : x.mu.queue = head :: rest) (ho : head.outcome = some outcome) (hroom : x.mu.receipts.length < 4)
    (hrest : ∀ next, rest.head? = some next → next.outcome ≠ none)
    (h : HeadsLeave (headLeft head rest outcome x) gone left given t) :
    HeadsLeave x (head :: gone) left (receiptOf head outcome :: given) t := by
  have hqueue : rest = gone ++ left := h.queue
  have hlen : (headLeft head rest outcome x).mu.receipts.length = x.mu.receipts.length + 1 := List.length_append
  refine ⟨by rw [hq, hqueue]; rfl, ?_, fun _ => ?_, ?_, ?_⟩
  · rw [List.map_cons, List.map_cons, receiptFields_receiptOf ho, h.receipts]
  · have := h.room (by omega)
    rw [List.length_cons]
    omega
  · have := h.stops
    rwa [hlen, Nat.add_right_comm] at this
  · have filled : (newHeadFilled gone left (headLeft head rest outcome x)).lc = (newHeadFilled (head :: gone) left x).lc := by
      cases gone with
      | nil => rw [newHeadFilled_noneGone, newHeadFilled_complete (x := x) (by rwa [hqueue] at hrest)]; rfl
      | cons m gone =>
        rw [newHeadFilled_lc_congr _ _ (show (headLeft head rest outcome x).lc = x.lc from rfl),
          newHeadFilled_gone left (List.cons_ne_nil m gone) (List.cons_ne_nil head _)]
    rw [h.after, filled]
    cases gone <;> simp [headLeft, post, mapLp, mapMu, BitVec.or_assoc]

/-- A complete head leaves and the open mail behind it is filled (R126, R128). -/
theorem headsLeave_fills {head next : OutMail} {rest : List OutMail} {outcome : MailOutcome}
    (hq : x.mu.queue = head :: next :: rest) (ho : head.outcome = some outcome) (hroom : x.mu.receipts.length < 4)
    (hopen : next.outcome = none) :
    HeadsLeave x [head] (next :: rest) [receiptOf head outcome]
      (fillSlot (mailFrame next) (headLeft head (next :: rest) outcome x)) where
  queue := hq
  receipts := by rw [List.map_singleton, List.map_singleton, receiptFields_receiptOf ho]
  room _ := hroom
  stops := .inr fun m hm => by cases hm; exact hopen
  after := by
    have filled : newHeadFilled [head] (next :: rest) x = fillSlot (mailFrame next) x := if_pos ⟨by simp, hopen⟩
    rw [filled]
    rfl

/-- All that complete heads do, by the mail behind each: none, an open one that is filled, or one that leaves in its turn. -/
theorem completeHeads_headsLeave (fuel : Nat) (h : x.mu.queue.length ≤ fuel) :
    ∃ gone left given, HeadsLeave x gone left given (completeHeads fuel x) := by
  induction fuel generalizing x with
  | zero =>
    have hq : x.mu.queue = [] := List.length_eq_zero_iff.1 (Nat.le_zero.1 h)
    exact ⟨[], _, [], headsLeave_none (.inr (by simp [hq]))⟩
  | succ fuel ih =>
    by_cases hstays : 4 ≤ x.mu.receipts.length ∨ ∀ head, x.mu.queue.head? = some head → head.outcome = none
    · rw [completeHeads_stays _ fun head hhead => hstays.symm.imp (· head hhead) id]
      exact ⟨[], _, [], headsLeave_none hstays⟩
    · push Not at hstays
      obtain ⟨hroom, head, hhead, hdone⟩ := hstays
      obtain ⟨rest, hq⟩ := List.head?_eq_some_iff.1 hhead
      obtain ⟨outcome, ho⟩ := Option.ne_none_iff_exists'.1 hdone
      rw [completeHeads_leaves fuel head rest outcome hq ho hroom]
      rw [hq] at h
      cases rest with
      | nil => exact ⟨_, _, _, .cons hq ho hroom (by simp) (headsLeave_none (.inr fun _ hm => nomatch hm))⟩
      | cons next rest =>
        cases hnext : next.outcome with
        | none =>
          rw [nextHead, hnext]
          exact ⟨_, _, _, headsLeave_fills hq ho hroom hnext⟩
        | some _ =>
          rw [nextHead, hnext]
          obtain ⟨gone, left, given, leave⟩ := ih (x := headLeft head (next :: rest) outcome x) (Nat.le_of_succ_le_succ h)
          exact ⟨_, _, _, leave.cons hq ho hroom (by simp [hnext])⟩

theorem settleQueue_headsLeave (x : State) : ∃ gone left given, HeadsLeave x gone left given (settleQueue x) :=
  completeHeads_headsLeave _ le_rfl

/-! ### One count of the Mail Unit (R128, R132) -/

theorem headLeaves_iff (mu : MailUnit) : headLeaves mu = true ↔
    ∃ head rest, mu.queue = head :: rest ∧ head.outcome ≠ none ∧ mu.receipts.length < 4 := by
  unfold headLeaves
  cases mu.queue with
  | nil => simp
  | cons head rest => simp [Option.isSome_iff_ne_none]

/-- The time base brings no MAIL_COMPLETION of its own. -/
theorem mailCompletion_not_mem_timePart (s : State) : Instr.mailCompletion ∉ (timePart (pinTick s).2).1 := by
  cases hc : s.config with
  | none => simp [timePart, hc]
  | some cfg => simp [mem_timePart s cfg hc, mem_carrierRows]

theorem mailCompletion_mem (s : State) : Instr.mailCompletion ∈ (runningTick s).pending ↔ headLeaves s.mu = true := by
  have apart {part : Nat} {rows : List Instr} (hrows : rowsOf part rows) (hpart : part ≠ 1) : Instr.mailCompletion ∉ rows :=
    fun hmem => hpart (hrows _ hmem).symm
  simp only [mem_runningTick, apart (pinTick_rows _) (by decide), mailCompletion_not_mem_timePart,
    apart (lineTick_rows _) (by decide), apart (portTick_rows _) (by decide), false_or, or_false, and_true]

theorem runningTick_mu (s : State) : (runningTick s).mu = freshMail (lineTick (timed s)).1 s.mu := by
  obtain ⟨-, -, -, -, hmu, -⟩ := timed_frame s
  rw [runningTick_eq, ← hmu]

theorem deliversMail_iff (i : Instr) : deliversMail i = true ↔ ∃ src ticket data, i = .mailReceived src ticket data := by
  cases i <;> simp [deliversMail]

theorem runningTick_storeDue (s : State) :
    (runningTick s).mu.storeDue = true ↔ ∃ src ticket data, Instr.mailReceived src ticket data ∈ (runningTick s).pending := by
  have hline (src : StationId) (ticket : Byte) (data : List Byte) := mem_runningTick_line (.mailReceived src ticket data) s rfl
  simp only [hline, runningTick_mu, freshMail, List.any_eq_true, deliversMail_iff]
  exact ⟨fun ⟨_, hmem, src, ticket, data, hi⟩ => ⟨src, ticket, data, hi ▸ hmem⟩,
    fun ⟨src, ticket, data, hmem⟩ => ⟨_, hmem, src, ticket, data, rfl⟩⟩

/-! ### MAIL_COMPLETION and MAIL_RETRY (R127, R128) -/

/-- Settles O26: MAIL_COMPLETION is `settleQueue_headsLeave`, MAIL_RETRY is `retryHead`, and MU's part of a count is
`freshMail`. -/
theorem mailHead : Obligations.MailHead := by
  refine ⟨fun s hr => ?completion, fun s hr => ⟨fun h => ?idle, fun head rest hdue hq => ?retry⟩, fun s hone => ?count⟩
  case completion =>
    obtain ⟨gone, left, given, leave⟩ := settleQueue_headsLeave s
    refine ⟨settleQueue s, gone, left, exec_mailCompletion s hr, leave.queue, ?_⟩
    rw [leave.after]
    refine ⟨rfl, ?_, fun h => ?_, ?_, rfl, ?_, ⟨rfl, rfl, rfl, rfl, rfl, rfl⟩, rfl, rfl, rfl, rfl⟩
    · rw [List.map_append]
      exact congrArg _ leave.receipts
    · simpa using leave.room h
    · simpa using leave.stops
    · cases left <;> rfl
  case idle =>
    refine exec_high hr (congrArg (goes s) ?_)
    rcases h with hdue | hq
    · exact retryHead_idle hdue
    · simp [retryHead, hq]
  case retry => exact exec_high hr (congrArg (goes s) (retryHead_fills head rest hq hdue))
  case count =>
    refine ⟨runningTick s, step_of_oneCount s hone, (mailCompletion_mem s).trans (headLeaves_iff s.mu), ?_,
      runningTick_storeDue s⟩
    rw [runningTick_mu]
    rfl

end Sys2Proof.Machine
end

section
namespace Sys2Proof.Machine

variable {s x : State}

/-! ### POST_MAIL (R124, R125, R126) -/

theorem respond_eq (status : Status) (payload : List Byte) (x : State) :
    respond status payload x = { x with lp := answered (statusByte status) payload x.lp } := rfl

/-- The checks of POST_MAIL for an ID, in their order (R125). -/
theorem postMail_to {dest : Byte} {id : StationId} (hd : dest.toNat = id.val) (data : List Byte) (s : State) :
    postMail (dest :: data) s =
      if id = s.sid ∨ data = [] ∨ 8 < data.length then answer .badArg s
      else if s.mc.roster[id.val].state ≠ .member then answer .noPeer s
      else if 4 ≤ s.mu.queue.length then answer .full s
      else respond .ok [s.mu.ticket] (queueMail id data s) := by
  simp [postMail, hd, idOfNat_val, or_assoc]

theorem postMail_noStation {dest : Byte} (h : 31 < dest.toNat) (data : List Byte) (s : State) :
    postMail (dest :: data) s = answer .badArg s := by
  simp only [postMail, idOfNat_eq_none h]

theorem postMail_badArg {dest : Byte} {data : List Byte}
    (h : 31 < dest.toNat ∨ dest.toNat = s.sid.val ∨ data = [] ∨ 8 < data.length) :
    postMail (dest :: data) s = answer .badArg s := by
  by_cases hid : 31 < dest.toNat
  · exact postMail_noStation hid data s
  · rw [postMail_to (id := ⟨dest.toNat, by omega⟩) rfl, if_pos]
    exact (h.resolve_left hid).imp_left Fin.ext

/-- A mail at the tail of the queue, and filled if it is the head (R125, R126). -/
theorem queueMail_eq (id : StationId) (data : List Byte) (s : State) : queueMail id data s = { s with
    mu := { s.mu with
      queue := s.mu.queue ++
        [{ destination := id, ticket := s.mu.ticket, data := data, attempts := 0, destLost := false, outcome := none }]
      ticket := s.mu.ticket + 1 }
    lc := (if s.mu.queue = [] then fillSlot (.mail { destination := idByte id, ticket := s.mu.ticket, data := data }) s
      else s).lc } := by
  by_cases hq : s.mu.queue = []
  · rw [if_pos hq, queueMail, if_pos (List.isEmpty_iff.2 hq)]
    rfl
  · rw [if_neg hq, queueMail, if_neg (mt List.isEmpty_iff.1 hq)]
    rfl

theorem exec_postMail {payload : List Byte} (hr : s.pins.resetn = true) (hg : groupState s.mc.station = true) :
    exec (.postMail payload) s = .next (postMail payload s) :=
  exec_high hr (congrArg (goes s) (if_pos hg))

/-- Settles O24: past the state check the checks are those of `postMail_to`, and the mail queued is `queueMail_eq`. -/
theorem postMail_checked : Obligations.PostMail := by
  refine fun s dest data hr => ⟨fun hg payload => ?state, fun hg => exec_postMail hr hg,
    fun hg h => (exec_postMail hr hg).trans (congrArg _ (postMail_badArg h)), fun id hg hd hid hne hlen => ?_⟩
  case state => exact exec_high hr (congrArg (goes s) (if_neg (by simp [hg])))
  have accepted : ¬(id = s.sid ∨ data = [] ∨ 8 < data.length) := by
    rintro (rfl | rfl | hlong)
    · exact hid rfl
    · exact absurd hne (by decide)
    · omega
  have checks := (exec_postMail hr hg).trans (congrArg _ (postMail_to hd data s))
  rw [if_neg accepted] at checks
  refine ⟨fun hpeer => ?noPeer, fun hpeer hfull => ?full, fun hpeer hroom => ?queued⟩
  case noPeer => exact checks.trans (congrArg _ (if_pos hpeer))
  all_goals rw [if_neg (not_not_intro hpeer)] at checks
  case full => exact checks.trans (congrArg _ (if_pos hfull))
  case queued =>
    rw [if_neg (Nat.not_le.2 hroom), queueMail_eq, respond_eq] at checks
    exact checks

/-! ### TAKE_MAIL (R133) -/

theorem overflowByte_eq (mu : MailUnit) : overflowByte mu = if mu.overflow then 1 else 0 := by
  unfold overflowByte
  cases mu.overflow <;> rfl

theorem takeEarlier_none {mu : MailUnit} (ha : mu.bufA = none) (hb : mu.bufB = none) : takeEarlier mu = none := by
  simp [takeEarlier, ha, hb]

theorem takeEarlier_bufA {mu : MailUnit} {m : InMail} (ha : mu.bufA = some m) (hb : mu.bufB = none ∨ mu.aLater = false) :
    takeEarlier mu = some (m, { mu with bufA := none }) := by
  cases h : mu.bufB with
  | none => simp [takeEarlier, ha, h]
  | some b => simp [takeEarlier, ha, h, hb.resolve_left (by simp [h])]

theorem takeEarlier_bufB {mu : MailUnit} {m : InMail} (hb : mu.bufB = some m) (ha : mu.bufA = none ∨ mu.aLater = true) :
    takeEarlier mu = some (m, { mu with bufB := none }) := by
  cases h : mu.bufA with
  | none => simp [takeEarlier, hb, h]
  | some a => simp [takeEarlier, hb, h, ha.resolve_left (by simp [h])]

/-- With neither buffer full the overflow indication is returned alone (R133). -/
theorem takeMail_empty (h : takeEarlier s.mu = none) : takeMail s = { s with
    mu := { s.mu with overflow := false }, lp := answered 0x14 [if s.mu.overflow then 1 else 0] s.lp } := by
  rw [takeMail, h, overflowByte_eq]
  rfl

/-- The mail of the earlier-arrived buffer is returned with the overflow indication, which is cleared (R133). -/
theorem takeMail_full {m : InMail} {mu : MailUnit} (h : takeEarlier s.mu = some (m, mu)) : takeMail s = { s with
    mu := { mu with overflow := false }
    lp := answered 0x00
      ([if s.mu.overflow then 1 else 0, idByte m.source, m.ticket, BitVec.ofNat 8 m.data.length] ++ m.data) s.lp } := by
  rw [takeMail, h, overflowByte_eq]
  rfl

/-! ### TAKE_RECEIPT (R128, R130) -/

/-- Behind a full list no mail leaves: the next is filled, or waits. -/
theorem nextHead_full (fuel : Nat) (rest : List OutMail) (h : 4 ≤ x.mu.receipts.length) :
    (nextHead fuel rest x).mu = x.mu ∧ (nextHead fuel rest x).lp = x.lp := by
  cases rest with
  | nil => exact ⟨rfl, rfl⟩
  | cons next rest =>
    rw [nextHead, completeHeads_stays fuel fun _ _ => .inr h]
    split <;> exact ⟨rfl, rfl⟩

/-- A complete head that takes the last place of the receipt list is the only one to leave. -/
theorem settleQueue_lastPlace {head : OutMail} {behind : List OutMail} {outcome : MailOutcome}
    (hq : x.mu.queue = head :: behind) (ho : head.outcome = some outcome) (hthree : x.mu.receipts.length = 3) :
    (settleQueue x).mu = (headLeft head behind outcome x).mu ∧ (settleQueue x).lp = (headLeft head behind outcome x).lp := by
  have hfull : 4 ≤ (headLeft head behind outcome x).mu.receipts.length := by
    simp [headLeft, hthree]
  rw [settleQueue, hq, List.length_cons, completeHeads_leaves _ head behind outcome hq ho (by omega)]
  exact nextHead_full _ behind hfull

/-- Settles O25: TAKE_MAIL by the three cases of `takeEarlier`, and TAKE_RECEIPT by what `settleQueue` does with the room. -/
theorem takeMailAndReceipts : Obligations.TakeMailAndReceipts := by
  refine ⟨fun s hr => ⟨fun payload hp => answersOnly_badArg hr hp rfl, fun ha hb => ?_, fun m ha hb => ?_, fun m hb ha => ?_⟩,
    fun s hr => ⟨fun payload hp => answersOnly_badArg hr hp rfl, fun hnone => ?empty, fun r rest hreceipts => ?taken⟩⟩
  · exact exec_high hr (congrArg (goes s) (takeMail_empty (takeEarlier_none ha hb)))
  · exact exec_high hr (congrArg (goes s) (takeMail_full (takeEarlier_bufA ha hb)))
  · exact exec_high hr (congrArg (goes s) (takeMail_full (takeEarlier_bufB hb ha)))
  case empty =>
    exact exec_high hr (congrArg (goes s) (by rw [withoutPayload_nil, takeReceipt, hnone]; rfl))
  case taken =>
    refine ⟨_, exec_mailCompletion _ hr, exec_high hr (congrArg (goes s) ?_), fun hopen => ?_,
      fun head outcome behind hthree hq ho => ?_⟩
    · rw [withoutPayload_nil, takeReceipt, hreceipts]
      rfl
    · exact completeHeads_stays _ fun head hhead => .inl (hopen head hhead)
    · obtain ⟨hmu, hlp⟩ := settleQueue_lastPlace (x := { s with mu := { s.mu with receipts := rest } }) hq ho hthree
      rw [eventsAdded, hmu, hlp]
      exact ⟨rfl, rfl, rfl⟩

end Sys2Proof.Machine
end

section
namespace Sys2Proof.Machine

variable {s : State} {lp : LocalPort} {code length crc : Byte} {payload rest : List Byte}

/-! ### Command frames (R135, R136, R137, R138, 10.3) -/

theorem commandOfCode_unknown (payload : List Byte)
    (h : code ∉ ([0x01, 0x02, 0x03, 0x04, 0x08, 0x09, 0x0A, 0x0B, 0x10, 0x11, 0x18, 0x19, 0x1A, 0x20, 0x21, 0x22, 0x23,
      0x24, 0x28, 0x29] : List Byte)) : commandOfCode code payload = .unknownCommand code payload := by
  simp only [List.mem_cons, not_or, ← BitVec.toNat_inj] at h
  unfold commandOfCode
  split <;> simp_all

theorem commandOfWindow_overflow (h : 16 < length.toNat) :
    commandOfWindow (code :: length :: rest) = some (.commandLengthOverflow code length) := if_pos h

/-- While no more bytes than the payload's have followed the length byte, bytes are wanted. -/
theorem commandOfWindow_wanted (hlength : length.toNat ≤ 16) (hrest : rest.length ≤ length.toNat) :
    commandOfWindow (code :: length :: rest) = none :=
  (if_neg (Nat.not_lt.2 hlength)).trans (if_pos hrest)

theorem lengthByte_toNat (h : payload.length ≤ 16) : (BitVec.ofNat 8 payload.length).toNat = payload.length := by
  rw [BitVec.toNat_ofNat]
  omega

/-- At the byte after the payload the command is taken, by its code or as a frame error (R135, R137). -/
theorem commandOfWindow_whole (h : payload.length ≤ 16) :
    commandOfWindow (code :: BitVec.ofNat 8 payload.length :: (payload ++ [crc])) =
      if crc = crc8 (code :: BitVec.ofNat 8 payload.length :: payload) then some (commandOfCode code payload)
      else some (.frameError (code :: BitVec.ofNat 8 payload.length :: payload) crc) := by
  simp [commandOfWindow, lengthByte_toNat h, Nat.not_lt.2 h]

theorem commandOfWindow_commandFrame (h : payload.length ≤ 16) :
    commandOfWindow (commandFrame code payload) = some (commandOfCode code payload) :=
  (commandOfWindow_whole h).trans (if_pos rfl)

theorem commandOfWindow_badCrc (h : payload.length ≤ 16)
    (hcrc : crc ≠ crc8 (code :: BitVec.ofNat 8 payload.length :: payload)) :
    commandOfWindow (code :: BitVec.ofNat 8 payload.length :: payload ++ [crc]) =
      some (.frameError (code :: BitVec.ofNat 8 payload.length :: payload) crc) :=
  (commandOfWindow_whole h).trans (if_neg hcrc)

/-- A frame that lacks bytes gives no command (R135). -/
theorem commandOfWindow_take (h : payload.length ≤ 16) {n : Nat} (hn : n < (commandFrame code payload).length) :
    commandOfWindow ((commandFrame code payload).take n) = none := by
  match n with
  | 0 => rfl
  | 1 => rfl
  | n + 2 =>
    refine commandOfWindow_wanted (by rwa [lengthByte_toNat h]) ?_
    simp only [commandFrame, List.cons_append, List.length_cons, List.length_append, List.length_nil] at hn
    rw [lengthByte_toNat h, List.length_take]
    omega

/-! ### SELN and SCK on one count (R135, R136, log 31) -/

/-- What a count's levels of SCK and SDI do to LP, once its level of SELN has moved the framer: an edge of SCK is told from the
level one count before. -/
def sckTick (seln sck sdi : Bool) (lp : LocalPort) : List Instr × LocalPort :=
  if seln then ([], lp)
  else if sck && !lp.lastSck then risingEdge sdi lp
  else if !sck && lp.lastSck then ([], fallingEdge lp)
  else ([], lp)

/-- One count of the local port: SELN first, and then SCK. -/
theorem portTick_eq (s : State) : portTick s =
    let window := selectTick s.pins.seln s.lp
    let clocked := sckTick s.pins.seln s.pins.sck s.pins.sdi window.2
    (window.1 ++ clocked.1, { s with lp := { clocked.2 with lastSck := s.pins.sck } }) := rfl

theorem sckTick_closed (sck sdi : Bool) (lp : LocalPort) : sckTick true sck sdi lp = ([], lp) := rfl

theorem sckTick_rise (sdi : Bool) (h : lp.lastSck = false) : sckTick false true sdi lp = risingEdge sdi lp := by
  simp [sckTick, h]

theorem sckTick_fall (sdi : Bool) (h : lp.lastSck = true) : sckTick false false sdi lp = ([], fallingEdge lp) := by
  simp [sckTick, h]

theorem sckTick_level (sdi : Bool) (lp : LocalPort) : sckTick false lp.lastSck sdi lp = ([], lp) := by
  simp [sckTick]

theorem risingEdge_command (sdi : Bool) (h : lp.phase = .command) : risingEdge sdi lp =
    (if (lp.shift.length + 1) % 8 = 0 then (commandOfWindow (bytesOfBits (lp.shift ++ [sdi]))).toList else [],
      { lp with shift := lp.shift ++ [sdi] }) := by
  simp [risingEdge, h]

theorem risingEdge_turnaround (sdi : Bool) (h : lp.phase = .turnaround) : risingEdge sdi lp =
    ([], { lp with
      phase := if lp.bitCount + 1 = 32 then .response else .turnaround
      bitCount := if lp.bitCount + 1 = 32 then 0 else lp.bitCount + 1 }) := by
  simp only [risingEdge, h]
  split <;> rfl

theorem risingEdge_quiet (sdi : Bool) (hcommand : lp.phase ≠ .command) (hturnaround : lp.phase ≠ .turnaround) :
    risingEdge sdi lp = ([], lp) := by
  unfold risingEdge
  split
  · exact absurd ‹_› hcommand
  · exact absurd ‹_› hturnaround
  · rfl

theorem fallingEdge_quiet (h : lp.phase ≠ .response) : fallingEdge lp = lp := by
  unfold fallingEdge
  split
  · exact absurd ‹_› h
  · rfl

theorem fallingEdge_bit {bit : Bool} (h : lp.phase = .response)
    (hbit : (lp.response.flatMap bitsOfByte)[lp.bitCount]? = some bit) :
    fallingEdge lp = { lp with sdo := some bit, bitCount := lp.bitCount + 1 } := by
  simp only [fallingEdge, h, hbit]

theorem bitsOfBytes_length (bytes : List Byte) : (bytes.flatMap bitsOfByte).length = 8 * bytes.length := by
  simp [List.length_flatMap, bitsOfByte_length, Nat.mul_comm]

/-- After the last bit of the response SDO is held high (R135). -/
theorem fallingEdge_last (h : lp.phase = .response) (hlast : 8 * lp.response.length ≤ lp.bitCount) :
    fallingEdge lp = { lp with phase := .done, sdo := some true } := by
  have hnone : (lp.response.flatMap bitsOfByte)[lp.bitCount]? = none :=
    List.getElem?_eq_none (by rwa [bitsOfBytes_length])
  simp only [fallingEdge, h, hnone]

/-- While the framer waits for SELN high, no edge of SCK does anything. -/
theorem sckTick_waitHigh (seln sck sdi : Bool) (h : lp.phase = .waitHigh) : sckTick seln sck sdi lp = ([], lp) := by
  have rise : risingEdge sdi lp = ([], lp) := risingEdge_quiet sdi (by simp [h]) (by simp [h])
  have fall : fallingEdge lp = lp := fallingEdge_quiet (by simp [h])
  simp only [sckTick, rise, fall, ite_self]

theorem selectTick_waitHigh (h : lp.phase = .waitHigh) : selectTick false lp = ([], lp) := by
  simp only [selectTick, h]

/-- The framer of a count with SELN low: the window that it opens or goes on with. -/
def windowUnderWay (before lp : LocalPort) : Prop :=
  (before.phase = .waitWindow ∧ lp = openWindow before) ∨
    (before.phase ≠ .waitHigh ∧ before.phase ≠ .waitWindow ∧ lp = before)

theorem selectTick_low {before : LocalPort} (h : windowUnderWay before lp) : selectTick false before = ([], lp) := by
  obtain ⟨hphase, rfl⟩ | ⟨hhigh, hwait, rfl⟩ := h
  · simp only [selectTick, hphase]
  · cases hphase : lp.phase <;> simp_all [selectTick]

theorem windowUnderWay_lastSck {before : LocalPort} (h : windowUnderWay before lp) : lp.lastSck = before.lastSck := by
  obtain ⟨-, rfl⟩ | ⟨-, -, rfl⟩ := h <;> rfl

/-! ### One count of the station's local port -/

theorem timed_portPins (s : State) : (timed s).pins.seln = (nextPins s).seln ∧ (timed s).pins.sck = (nextPins s).sck ∧
    (timed s).pins.sdi = (nextPins s).sdi := by
  unfold timed
  rw [timePart_frame]
  simp

/-- LP after one count of a running station, by the levels that the count samples. -/
theorem runningTick_port (s : State) : (runningTick s).lp =
    { (sckTick (nextPins s).seln (nextPins s).sck (nextPins s).sdi (selectTick (nextPins s).seln s.lp).2).2 with
      lastSck := (nextPins s).sck } := by
  obtain ⟨hseln, hsck, hsdi⟩ := timed_portPins s
  obtain ⟨-, -, -, -, -, hlp⟩ := timed_frame s
  rw [runningTick_lp, portTick_eq]
  simp only [hseln, hsck, hsdi, hlp]

/-- The commands of the port fall on a count from SELN and from SCK. -/
theorem mem_runningTick_port {i : Instr} (s : State)
    (h : i ∈ (selectTick (nextPins s).seln s.lp).1 ∨
      i ∈ (sckTick (nextPins s).seln (nextPins s).sck (nextPins s).sdi (selectTick (nextPins s).seln s.lp).2).1) :
    i ∈ (runningTick s).pending := by
  obtain ⟨hseln, hsck, hsdi⟩ := timed_portPins s
  obtain ⟨-, -, -, -, -, hlp⟩ := timed_frame s
  refine (mem_runningTick i s).2 (.inr (.inr (.inr (.inr ?_))))
  change i ∈ (portTick (lineTick (timed s)).2).1
  rw [lineTick_frame, portTick_eq]
  simp only [hseln, hsck, hsdi, hlp, List.mem_append]
  exact h

/-- With SELN high SCK does nothing, and the window that is open closes (R135). -/
theorem count_selnHigh (s : State) (hseln : (nextPins s).seln = true) :
    (runningTick s).lp = { (selectTick true s.lp).2 with lastSck := (nextPins s).sck } := by
  rw [runningTick_port, hseln, sckTick_closed]

/-- In a window a count is what its level of SCK does. -/
theorem count_underWay (hseln : (nextPins s).seln = false) (h : windowUnderWay s.lp lp) : (runningTick s).lp =
    { (sckTick false (nextPins s).sck (nextPins s).sdi lp).2 with lastSck := (nextPins s).sck } := by
  rw [runningTick_port, hseln, selectTick_low h]

theorem count_level (hseln : (nextPins s).seln = false) (h : windowUnderWay s.lp lp)
    (hsck : (nextPins s).sck = s.lp.lastSck) : (runningTick s).lp = { lp with lastSck := (nextPins s).sck } := by
  rw [count_underWay hseln h, hsck, ← windowUnderWay_lastSck h, sckTick_level]

theorem count_rise (hseln : (nextPins s).seln = false) (h : windowUnderWay s.lp lp) (hsck : (nextPins s).sck = true)
    (hlast : s.lp.lastSck = false) :
    (runningTick s).lp = { (risingEdge (nextPins s).sdi lp).2 with lastSck := true } ∧
      ∀ i ∈ (risingEdge (nextPins s).sdi lp).1, i ∈ (runningTick s).pending := by
  have rise := sckTick_rise (nextPins s).sdi ((windowUnderWay_lastSck h).trans hlast)
  refine ⟨?_, fun i hi => mem_runningTick_port s (.inr ?_)⟩
  · rw [count_underWay hseln h, hsck, rise]
  · rwa [hseln, selectTick_low h, hsck, rise]

theorem count_fall (hseln : (nextPins s).seln = false) (h : windowUnderWay s.lp lp) (hsck : (nextPins s).sck = false)
    (hlast : s.lp.lastSck = true) : (runningTick s).lp = { fallingEdge lp with lastSck := false } := by
  rw [count_underWay hseln h, hsck, sckTick_fall _ ((windowUnderWay_lastSck h).trans hlast)]

/-- Settles O9: the bytes of a window by the `commandOfWindow` lemmas, and a count by what SELN does to the framer and then an
edge of SCK. -/
theorem commandFraming : Obligations.CommandFraming := by
  refine ⟨fun payload => ?codes, fun code payload => ⟨fun hlength => ⟨commandOfWindow_commandFrame hlength,
      fun n hn => commandOfWindow_take hlength hn, fun crc hcrc => commandOfWindow_badCrc hlength hcrc⟩,
      fun length hlength => commandOfWindow_overflow hlength⟩,
    fun s hr => ⟨fun code payload => exec_high hr rfl, fun body crc => exec_high hr rfl,
      fun code length => exec_high hr rfl, fun bytes => exec_high hr rfl⟩,
    fun s pins hone hpins => ?count⟩
  case codes =>
    exact ⟨rfl, rfl, rfl, rfl, rfl, rfl, rfl, rfl, rfl, rfl, rfl, rfl, rfl, rfl, rfl, rfl, rfl, rfl, rfl, rfl,
      fun code hcode => commandOfCode_unknown payload hcode⟩
  case count =>
    obtain rfl : pins = nextPins s := hpins
    refine ⟨runningTick s, step_of_oneCount s hone, fun hseln => ?high, fun hseln hphase => ?waits,
      fun lp hseln hwindow => ⟨count_level hseln hwindow, fun hsck hlast => ?rise, fun hsck hlast => ?fall⟩⟩
    case high =>
      rw [count_selnHigh s hseln]
      refine ⟨fun hphase => ?_, fun hphase => ?_, fun hphase => ⟨?_, mem_runningTick_port s (.inl ?_)⟩, fun hphase => ?_⟩
      · simp only [selectTick, hphase]
      · simp only [selectTick, hphase]
      · simp only [selectTick, hphase]
      · simp only [selectTick, hphase, hseln, List.mem_singleton]
      · obtain hphase | hphase | hphase := hphase <;> simp only [selectTick, hphase, closeWindow]
    case waits =>
      rw [runningTick_port, hseln, selectTick_waitHigh hphase, sckTick_waitHigh _ _ _ hphase]
    case rise =>
      obtain ⟨hlp, hrows⟩ := count_rise hseln hwindow hsck hlast
      refine ⟨fun hphase => ?_, fun hphase => ?_, fun hphase => ?_⟩
      · rw [risingEdge_command _ hphase] at hlp hrows
        refine ⟨hlp, fun c hbyte hc => hrows c ?_⟩
        rw [if_pos hbyte, hc]
        exact List.mem_singleton_self c
      · rw [hlp, risingEdge_turnaround _ hphase]
      · obtain hphase | hphase := hphase <;> rw [hlp, risingEdge_quiet _ (by simp [hphase]) (by simp [hphase])]
    case fall =>
      rw [count_fall hseln hwindow hsck hlast]
      refine ⟨fun hphase => ?_, fun bit hphase hbit => ?_, fun hphase hsent => ?_⟩
      · rw [fallingEdge_quiet hphase]
      · rw [fallingEdge_bit hphase hbit]
      · rw [fallingEdge_last hphase hsent]

end Sys2Proof.Machine
end

section
namespace Sys2Proof.Machine

variable {s t : State}

/-! ### READ_EVENTS (R143) -/

theorem exec_readEvents (hr : s.pins.resetn = true) : exec (.readEvents []) s =
    .next { s with lp := answered 0x00 (eventBytes s.lp.events) { s.lp with events := 0 } } := exec_high hr rfl

theorem exec_readStatus (hr : s.pins.resetn = true) : exec (.readStatus []) s =
    .next { s with lp := answered 0x00 (statusRecord s) s.lp } := exec_high hr rfl

/-- The event set in the response of READ_STATUS: bytes 23 to 25 of the status record, behind status code and length (10.4). -/
theorem answered_statusRecord_events (s : State) (lp : LocalPort) :
    ((answered 0x00 (statusRecord s) lp).response.drop 25).take 3 = eventBytes s.lp.events := by
  unfold statusRecord statusTbBytes
  split <;> rfl

/-- Settles O7: the read is `exec_readEvents` of the state it finds, a posting before it included. -/
theorem readEvents : Obligations.ReadEvents := by
  intro s hr
  refine ⟨fun payload hp => answersOnly_badArg hr hp rfl, exec_readEvents hr, fun mask t ht => ?mask, fun e t ht => ?posted,
    fun e t ht => ?read, fun lp => rfl, fun t ht => ?status⟩
  case mask =>
    subst ht
    exact exec_readEvents hr
  case posted =>
    rw [exec_readEvents (s := post e s) hr] at ht
    cases ht
    exact ⟨rfl, rfl⟩
  case read =>
    rw [exec_readEvents hr] at ht
    cases ht
    exact BitVec.zero_or
  case status =>
    rw [exec_readStatus hr] at ht
    cases ht
    exact ⟨rfl, answered_statusRecord_events s s.lp⟩

/-! ### SET_EVENT_MASK (R144) -/

/-- Bit 7 of a byte is set from 128 on. -/
theorem getLsbD_seven (b : Byte) : b.getLsbD 7 = decide (128 ≤ b.toNat) := by
  rw [← BitVec.msb_eq_getLsbD_last, BitVec.msb_eq_decide]

theorem execSetEventMask_length {payload : List Byte} (hp : payload.length ≠ 3) :
    execSetEventMask payload s = goes s (answer .badArg s) := by
  unfold execSetEventMask
  split
  · exact absurd rfl hp
  · rfl

/-- The set of the 23 low bits of three bytes, most significant first (10.4). -/
def maskOfTriple (b2 b1 b0 : Byte) : EventSet := (b2 ++ b1 ++ b0 : BitVec 24).setWidth 23

theorem maskOfTriple_toNat {b2 : Byte} (h : b2.toNat < 128) (b1 b0 : Byte) :
    (maskOfTriple b2 b1 b0).toNat = 65536 * b2.toNat + 256 * b1.toNat + b0.toNat := by
  rw [maskOfTriple, BitVec.toNat_setWidth, toNat_append_add, toNat_append_add]
  omega

/-- The two outcomes of three bytes, by bit 23 (R144). -/
theorem execSetEventMask_bytes (b2 b1 b0 : Byte) (s : State) : execSetEventMask [b2, b1, b0] s = goes s
    (if 128 ≤ b2.toNat then answer .badArg s
      else answer .ok { s with lp := { s.lp with mask := maskOfTriple b2 b1 b0 } }) := by
  simp only [execSetEventMask, getLsbD_seven, decide_eq_true_eq]
  rfl

theorem hardwareReset_mask (sid : StationId) (fltn : Bool) (h : exec (.hardwareReset sid fltn) s = .next t) :
    t.lp.mask = 0 := by
  cases fltn with
  | true =>
    rw [hardwareReset_high] at h
    cases h
    rfl
  | false =>
    rw [hardwareReset_low] at h
    cases h
    rfl

theorem restart_mask (payload : List Byte) (h : exec (.restart payload) s = .next t) : t.lp.mask = s.lp.mask := by
  obtain rfl | rfl := next_of_goes h
  · unfold withoutPayload
    (repeat' split) <;> simp
  · rfl

/-- Settles O8: three bytes by `execSetEventMask_bytes`; the mask elsewhere by the frames of the operations. -/
theorem setEventMask : Obligations.SetEventMask := by
  refine fun s b2 b1 b0 => ⟨fun hr => ⟨fun payload hp => exec_high hr (execSetEventMask_length hp), fun hbit => ?badArg,
      fun hbit => ⟨maskOfTriple b2 b1 b0, maskOfTriple_toNat hbit b1 b0, ?taken⟩⟩,
    fun sid fltn t => hardwareReset_mask sid fltn, fun payload t => restart_mask payload, fun keep to_ => by simp⟩
  case badArg => exact exec_high hr ((execSetEventMask_bytes b2 b1 b0 s).trans (by rw [if_pos hbit]; rfl))
  case taken => exact exec_high hr ((execSetEventMask_bytes b2 b1 b0 s).trans (by rw [if_neg (Nat.not_le.2 hbit)]; rfl))

end Sys2Proof.Machine
end

section
namespace Sys2Proof.Machine

/-! ### The step, by the queue it finds (log 1) -/

variable {s : State}

theorem step_front {c : Instr} {rest : List Instr} (hqueue : s.pending = c :: rest) :
    step s = exec c { s with pending := rest } := by
  rw [step, hqueue]

/-- Settles O1: the branch of the step whose queue is not empty, `step_front`. -/
theorem stepRunsFront : Obligations.StepRunsFront := fun _ _ _ hqueue => step_front hqueue

end Sys2Proof.Machine
end
